-- ==== Sys2Proof/Word.lean ====
section
/-! DEFINITION. The byte, and the names and operand records that the commands of the part carry. -/

namespace Sys2Proof

/-- One byte of a frame, or one 8-bit conversion (R9, R169). -/
abbrev Byte := BitVec 8

/-- The three ports a request can come from (R62, R186). -/
inductive Port where
  | front
  | rear
  | service
  deriving DecidableEq, Repr

/-- The two clocked links (R168). -/
inductive Link where
  | front
  | rear
  deriving DecidableEq, Repr

/-- The port a link is. -/
def Link.port : Link → Port
  | .front => .front
  | .rear => .rear

/-- The two speakers, each with a channel and a queue (R122). -/
inductive Speaker where
  | front
  | rear
  deriving DecidableEq, Repr

/-- The two constants whose writes fold first (R49). -/
inductive CalConstant where
  | kr
  | kf
  deriving DecidableEq, Repr

/-- The five records, in the order of their record numbers (section 4.1). -/
inductive RecordNo where
  | odo
  | a
  | b
  | p
  | charter
  deriving DecidableEq, Repr

/-- The wake sources, in the order of the table of R165. -/
inductive WakeSource where
  | ignition
  | keyIn
  | doorDriver
  | doorFrontPass
  | doorRearL
  | doorRearR
  | rearCall
  | frontLink
  | rearLink
  | serviceLine
  | alarm
  deriving DecidableEq, Repr

/-- What the car shows the part at a start (R19, R159): one sample of each channel, one reading of the sixteen
lines (bit i set: line i is pulled low, active), and whether the main oscillator gave an edge in the last 50 us of
its 4 ms start. -/
structure StartInputs where
  samples  : Vector Byte 6
  lines    : BitVec 16
  mainEdge : Bool
  deriving DecidableEq, Repr

/-- The 21 argument bytes of a WRITE SERVICE ITEM, in the order of R137, as the numbers they carry. -/
structure ItemArgs where
  enabled     : BitVec 8
  name        : BitVec 8
  km          : BitVec 24
  days        : BitVec 16
  hours       : BitVec 16
  noticeKm    : BitVec 24
  noticeDays  : BitVec 16
  noticeHours : BitVec 16
  wn          : BitVec 8
  wc          : BitVec 8
  wi          : BitVec 16
  driver      : BitVec 8
  deriving DecidableEq, Repr

end Sys2Proof
end

