-- ==== Sys2Proof/Syntax.lean ====
section
/-! DEFINITION. The commands: one constructor for each row of spec/opcode_table.json, in the table's order. A console
command carries the port it comes from and the argument bytes of the command table of section 10.8; an event carries what
the car shows the part at that moment. -/

namespace Sys2Proof

/-- The ninety commands of the part. -/
inductive Instr where
  /-- COLD_START (R82): Retention memory has lost its battery, so every block starts from defaults, the slot log is scanned and ODO is restored from it. -/
  | coldStart (i : StartInputs)
  /-- RESTART (R78): The RESTART line from the supply supervisor: retention is checked, the log is rescanned and every block makes its start. -/
  | restart (i : StartInputs)
  /-- ROAD_PULSE_EDGE (R3): A rising road pulse edge adds to pending pulses and updates the road period, age and broken marker. -/
  | roadPulseEdge
  /-- ROAD_AGE_STALE (R3): The road age passes 1,000,000 us and is held as stale. -/
  | roadAgeStale
  /-- SPEED_SAMPLE_EXPIRY (R5): Raw speed is formed and the filtered speed and moving condition are updated. -/
  | speedSampleExpiry
  /-- ENGINE_PULSE_EDGE (R6): An engine edge updates the engine period and age and makes the engine running. -/
  | enginePulseEdge
  /-- ENGINE_AGE_STALE (R6): 500 ms pass without an engine edge, so the engine age goes stale and engine running becomes false. -/
  | engineAgeStale
  /-- RPM_SAMPLE_EXPIRY (R7): Raw rpm is formed and the filtered rpm is updated. -/
  | rpmSampleExpiry
  /-- OPEN_TICK (R8): The open residue reaches 16 us of injector drive, returns to 0 and adds one pending open tick. -/
  | openTick
  /-- ANALOG_SCAN_EXPIRY (R9): Each of the six channels takes a sample, updates its filter, fault counts and engineering value, and the fast window counts. -/
  | analogScanExpiry (samples : Vector Byte 6)
  /-- SWITCH_SCAN_EXPIRY (R16): All sixteen switch lines are read and their debounce counts advance. -/
  | switchScanExpiry (lines : BitVec 16)
  /-- READ_INPUTS (R20): Returns raw and filtered speed and rpm, periods, channel details, fast window, switch levels and pending counts. -/
  | readInputs (p : Port) (page : Byte)
  /-- GAUGE_STEP_EXPIRY (R22): Each gauge sets its target by mode, moves its commanded angle within its slew and stages a new duty pair. -/
  | gaugeStepExpiry
  /-- MANUAL_SILENCE_RELEASE (R29): The manual silence count reaches 640 and every gauge in MANUAL is released. -/
  | manualSilenceRelease
  /-- PWM_FRAME_START (R24): At each PWM frame start the staged duty pairs are latched for the frame. -/
  | pwmFrameStart
  /-- GAUGE_SET (R28): Service-line command that puts one gauge in MANUAL at a given angle. -/
  | gaugeSet (p : Port) (gauge : Byte) (angle : BitVec 16)
  /-- GAUGE_RELEASE (R29): Service-line command that releases one or all gauges from MANUAL to FOLLOW or RETURN. -/
  | gaugeRelease (p : Port) (gauge : Byte)
  /-- READ_GAUGES (R32): Returns gauge modes, angles, duty pairs, silence count, lamp states and flasher phase. -/
  | readGauges (p : Port) (page : Byte)
  /-- FLASHER_PHASE_CHANGE (R35): Every 500 ms the flasher changes phase and FLASHING lamps follow it. -/
  | flasherPhaseChange
  /-- BULB_CHECK_END (R36): The 3 s bulb check runs out and each lamp shows its lamp state. -/
  | bulbCheckEnd
  /-- LAMP_TEST_END (R36): The 3 s lamp test of one lamp runs out. -/
  | lampTestEnd (lamp : Fin 8)
  /-- FOLD_EXPIRY (R40): Every 250 ms the pending qs counts and cold flag are updated, and a fold is requested or merged into the waiting one. -/
  | foldExpiry
  /-- FOLD (R46): Under its grant the fold engine converts pending pulses and ticks and delivers the fold result to every destination. -/
  | fold
  /-- MODEL_EXPIRY (R53): Every 4 s the tank model Q is corrected toward the sender sum when allowed. -/
  | modelExpiry
  /-- TRANSFER_HOLD_END (R55): 60 s after TRANSFER PUMP is accepted inactive, transfer hold ends. -/
  | transferHoldEnd
  /-- READ_FOLD (R57): Returns the fold buffer, remainders, rings and tank model, and clears the asker's refuel mark on page 0. -/
  | readFold (p : Port) (page : Byte)
  /-- WRITE_SETTING_KR_KF (R49): Under its grant a write of Kr or Kf makes a command fold, zeroes the remainder and installs the new constant. -/
  | writeSettingKrKf (p : Port) (c : CalConstant) (value : BitVec 16)
  /-- READ_RECORD (R67): Under the grant returns a record with distance and fuel forwarded and its derived times. -/
  | readRecord (p : Port) (record page : Byte)
  /-- CLEAR_RECORD (R70): Under the grant makes a command fold and clears trip A, B or P to a VALID record. -/
  | clearRecord (p : Port) (record : Byte)
  /-- CHARTER_OPEN (R71): Under the grant clears a VACANT charter and makes it RUNNING. -/
  | charterOpen (p : Port)
  /-- CHARTER_CLOSE (R72): Under the grant folds into a RUNNING charter, sets its end stamp and makes it CLOSED. -/
  | charterClose (p : Port)
  /-- CHARTER_ACK (R73): Under the grant adds the asking console to the ack set of a CLOSED charter, and the second ack makes it VACANT. -/
  | charterAck (p : Port)
  /-- CHARTER_RELEASE (R74): Under the grant moves a CLOSED charter to VACANT without both acks. -/
  | charterRelease (p : Port)
  /-- ODO_PRESET (R79): Under the grant sets ODO to a value, clears the trips, closes the allowance and queues a slot write. -/
  | odoPreset (p : Port) (value : BitVec 24)
  /-- RECORD_MARK_APPLY (R64): A TIME DEGRADED or FUEL INCOMPLETE mark that came during a grant is applied to the records when that grant ends. -/
  | recordMarkApply
  /-- SLOT_WRITE_COMPLETE (R81): A 10 ms odometer slot write completes, the log position moves and the next pending write goes in flight. -/
  | slotWriteComplete
  /-- READ_DERIVED (R87): Under the grant returns a record's distance, fuel, averages and times in the asker's units with validity marks. -/
  | readDerived (p : Port) (record : Byte)
  /-- READ_LIVE (R93): Returns speed, rpm, instant figure, range, fuel remaining and temperatures in the asker's units. -/
  | readLive (p : Port)
  /-- SET_UNITS (R84): Sets the asking console's unit choice. -/
  | setUnits (p : Port) (choice : Byte)
  /-- WARNING_EXPIRY (R103): Every 250 ms the run counters are stepped and each sampled definition's qualify and release counts advance. -/
  | warningExpiry
  /-- READ_WARNINGS (R114): Returns the asker's view sequence, count and up to four entries from a start position. -/
  | readWarnings (p : Port) (start : Byte)
  /-- ACK_WARNING (R110): Sets the asking console's acknowledgement on a warning entry. -/
  | ackWarning (p : Port) (id : Byte)
  /-- REAR_CALL (R112): Rear command that raises W19 REAR CALL. -/
  | rearCall (p : Port)
  /-- SET_OVERSPEED (R117): Front command that stores the overspeed limit. -/
  | setOverspeed (p : Port) (limit : BitVec 16)
  /-- WARNING_TEST (R118): Service-line command that lamp-tests a definition's lamp and queues its pattern. -/
  | warningTest (p : Port) (id : Byte)
  /-- NOTE_BOUNDARY (R130): A step of the current chime play ends, and the channel stops, ends the pass, pre-empts or goes on to the next step. -/
  | noteBoundary (sp : Speaker)
  /-- REPEAT_TIMER_EXPIRY (R125): A warning entry's repeat timer runs out and its RESTING chime state becomes PENDING. -/
  | repeatTimerExpiry (w : Fin 24) (sp : Speaker)
  /-- PLAY_CHIME (R127): Queues a pattern on the named speakers for the requesting port. -/
  | playChime (p : Port) (pattern speakers cls : Byte)
  /-- CANCEL_CHIMES (R128): Removes every queue entry of the asker from both speaker queues. -/
  | cancelChimes (p : Port)
  /-- REAR_QUIET (R132): Rear command that turns rear quiet on or off. -/
  | rearQuiet (p : Port) (arg : Byte)
  /-- READ_CHIMES (R136): Returns the rear quiet state, channel plays and speaker queues. -/
  | readChimes (p : Port) (page : Byte)
  /-- READ_SERVICE (R149): Returns one service item's definition, state and remainings in the asker's units. -/
  | readService (p : Port) (item page : Byte)
  /-- RESET_SERVICE (R146): Gives a service item a fresh start and evaluates it. -/
  | resetService (p : Port) (item : Byte)
  /-- WRITE_SERVICE_ITEM (R148): Installs a service item definition and resets the item. -/
  | writeServiceItem (p : Port) (item : Byte) (d : ItemArgs)
  /-- SECOND_END (R151): The prescaler rolls over or the RC count reaches the divisor, and the seconds counter goes up by 1. -/
  | secondEnd
  /-- SET_CLOCK (R152): Under the grant sets the seconds counter and shifts the start stamps of trips and a RUNNING charter by the delta. -/
  | setClock (p : Port) (seconds : BitVec 32)
  /-- TRIM_CLOCK (R153): Under the grant moves the counter by up to 59 s and shifts the start stamps alike. -/
  | trimClock (p : Port) (seconds : BitVec 8)
  /-- READ_CLOCK (R154): Returns the counter, day number, UNSET, source, RC divisor, fault flag and alarm. -/
  | readClock (p : Port)
  /-- SET_ALARM (R155): Front command that sets the alarm time. -/
  | setAlarm (p : Port) (seconds : BitVec 32)
  /-- CLEAR_ALARM (R155): Front command that makes the alarm none. -/
  | clearAlarm (p : Port)
  /-- SUB_MISSING (R157): No sub edge for 1 ms: the seconds source becomes RC, W17 is raised and TIME DEGRADED is handed. -/
  | subMissing
  /-- SUB_BACK (R157): Sub edges for 2 s without a gap: the source returns to SUB and W17 is released. -/
  | subBack
  /-- CALIBRATION_EXPIRY (R158): Every 4 s an RC calibration begins to count RC edges over one second of main time. -/
  | calibrationExpiry
  /-- CALIBRATION_COMPLETE (R158): An RC calibration completes and its count becomes the RC divisor if in range. -/
  | calibrationComplete (count : Nat)
  /-- MAIN_CLOCK_FAULT_START (R159): No main edge for 50 us: a main-clock fault begins, SUSPEND is asserted and every block suspends its timed work. -/
  | mainClockFaultStart
  /-- MAIN_CLOCK_FAULT_END (R159): 256 ms of good main edges end the fault and the blocks resume. -/
  | mainClockFaultEnd
  /-- PARK_DELAY_EXPIRY (R161): The park delay runs down to 0 in AWAKE. -/
  | parkDelayExpiry
  /-- AWAKE_LIMIT_EXPIRY (R161): The 20 minute awake limit runs out and park entry with cause LIMIT begins. -/
  | awakeLimitExpiry
  /-- PARKED_ENTRY (R163): All park conditions stand together: lists, queues and waiting requests are dropped and the main oscillator stops. -/
  | parkedEntry (raw : BitVec 16)
  /-- KEEP_AWAKE (R162): Restarts the park delay at a given value in AWAKE. -/
  | keepAwake (p : Port) (seconds : BitVec 16)
  /-- WAKE_SOURCE_FIRES (R165): An enabled wake source fires in PARKED, is recorded and starts the main oscillator for a wake sequence. -/
  | wakeSourceFires (src : WakeSource)
  /-- WAKE_SEQUENCE (R166): After the 4 ms start the retention checks are made, the blocks start, the power state is chosen and WAKE is set. -/
  | wakeSequence (i : StartInputs)
  /-- READ_WAKE_CAUSES (R167): Returns and empties the asking console's wake cause set, or the last wake set for the service line. -/
  | readWakeCauses (p : Port)
  /-- LINK_SELECT (R171): The master asserts SELECT and the port block chooses the outgoing frame from the link's request slot. -/
  | linkSelect (l : Link)
  /-- LINK_TRANSACTION_END (R171): SELECT is released, the incoming bytes are judged, the slot acts, and the park delay and silence timer restart. -/
  | linkTransactionEnd (l : Link) (incoming : List Byte)
  /-- SILENCE_TIMER_EXPIRY (R176): A link is silent for 2 s in RUN or ACC and W23 is raised with that link. -/
  | silenceTimerExpiry (l : Link)
  /-- SERVICE_START_BIT (R177): A start bit on the service line restarts the park delay or fires the SERVICE LINE wake source. -/
  | serviceStartBit
  /-- SERVICE_FRAME_END (R179): A service frame of L bytes has come and is taken as a request, or answered BUSY or CHECK_ERROR. -/
  | serviceFrameEnd
  /-- SERVICE_QUIET_EXPIRY (R178): The service line has been quiet for 20 ms after a discarded frame and a LINE_ERROR reply is made. -/
  | serviceQuietExpiry
  /-- SERVICE_TRANSMIT_START (R179): After 5 ms of quiet the first frame of the output list begins to be sent. -/
  | serviceTransmitStart
  /-- SERVICE_FRAME_SENT (R179): The last byte of an output frame has gone and it leaves the output list. -/
  | serviceFrameSent
  /-- READ_NOTICES (R175): Returns and empties the asking console's notice set. -/
  | readNotices (p : Port)
  /-- READ_STATUS (R180): Returns power state, clock flags, settings and log status, commit result and nonvolatile busy. -/
  | readStatus (p : Port)
  /-- READ_SETTING (R183): Returns one page of a settings item. -/
  | readSetting (p : Port) (item page : Byte)
  /-- WRITE_SETTING (R183): Service-line command that installs a settings item or a curve part in the working copy. -/
  | writeSetting (p : Port) (item part : Byte) (value : List Byte)
  /-- COMMIT_SETTINGS (R184): Queues a write of the settings working copy into the nonvolatile settings block. -/
  | commitSettings (p : Port)
  /-- COMMIT_COMPLETE (R184): The settings block write and read-back complete and the last commit result becomes OK or FAILED. -/
  | commitComplete (agrees : Bool)
  /-- WAKE_LINE_EDGE (R165): In PARKED a raw wake line holds a level different from its reference for 1 ms, and the reference level takes the new level without the source firing. -/
  | wakeLineEdge (line : Fin 16)
  /-- SERVICE_BYTE_RECEIVED (R178): A byte completes on the service line and is taken into the frame being built, or makes the receiver discard it for a parity, framing, overrun or bad-length error. -/
  | serviceByteReceived (b : Byte) (good : Bool)
  /-- SUPPLY_LOSS (R185): The part's supply is lost, cutting any nonvolatile slot write or commit in flight. -/
  | supplyLoss
  deriving DecidableEq, Repr

end Sys2Proof
end

