-- ==== Sys2Proof/Config.lean ====
section
/-! DEFINITION. The free values: what the spec leaves open and the model does not choose. Each is applied to the
free-value counter of the state. -/

namespace Sys2Proof

/-- Whether the RC oscillator gives an edge in the microsecond numbered `n` (R158 gives only its range,
24,000..40,000 Hz). Free value, log 5. -/
opaque Config.rcEdge (n : Nat) : Bool

/-- Whether the stored settings block holds its check after a read-back that did not agree: R184 says only that the
block "may fail its check". Free value, log 12. -/
opaque Config.failedBlockHolds (n : Nat) : Bool

/-- The queue position READ CHIMES gives for a play whose queue entry has gone (R136 gives none). Free value, log 14. -/
opaque Config.goneQueuePosition (n : Nat) : BitVec 8

/-- Whether the read-back of a commit agrees when the part itself brings the commit to its end (R184 gives both outcomes).
Free value, log 12. -/
opaque Config.readBackAgrees (n : Nat) : Bool

end Sys2Proof
end

