-- ==== Sys2Proof/Machine/State.lean ====
section
/-! DEFINITION. The state of the part: one structure for each block, plain data. The rule that names a field stands
beside it; INVENTORY.md lists them all with their reset values. -/

namespace Sys2Proof.Machine

/-- Why a step stops the machine. The spec names nothing that stops the part, so no command raises a fault. -/
inductive Fault where
  deriving DecidableEq, Repr

/-- Why a command has no meaning. -/
inductive Refusal where
  /-- Raised by `exec` for a command that has no meaning yet (none is left). Safe: the machine stops. -/
  | notModelled (mnemonic : String)
  deriving DecidableEq, Repr

/-! ### Measurement unit (chapter 1) -/

/-- R9: the state of an analog channel, in the order R20 lists them. -/
inductive ChannelState where
  | normal
  | counting
  | fault
  deriving DecidableEq, Repr

/-- The period, age and broken marker of a pulse input, in microseconds (R3, R6). -/
structure PulseTimer where
  period : Option Nat
  age    : Nat
  broken : Bool
  deriving DecidableEq, Repr

/-- One analog channel (R9 to R13). `value` is the engineering value passed on: live in NORMAL and COUNTING, the held
value in FAULT. -/
structure Channel where
  filter      : Nat
  provisional : Bool
  state       : ChannelState
  outCount    : Nat
  inCount     : Nat
  sample      : Byte
  x           : Nat
  value       : Int
  deriving DecidableEq, Repr

/-- The measurement unit. Channels: 0 FUEL MAIN, 1 FUEL AUX, 2 COOLANT, 3 OIL, 4 SUPPLY, 5 OUTSIDE. -/
structure Measure where
  road       : PulseTimer
  rawSpeed   : Nat
  speed      : Nat
  engine     : PulseTimer
  running    : Bool
  rawRpm     : Nat
  rpm        : Nat
  /-- open residue, 0..15 us (R8) -/
  residue    : Nat
  channels   : Vector Channel 6
  /-- the fast window: closed, or open with its count (R10) -/
  fastWindow : Option Nat
  /-- accepted levels: bit i set, line i active (R16) -/
  levels     : BitVec 16
  candidates : Vector Nat 16
  deriving DecidableEq, Repr

/-! ### Gauge unit (chapter 2) -/

/-- The gauge modes, in the order of the head of chapter 2. -/
inductive GaugeMode where
  | follow
  | sweep
  | manual
  | ret
  | off
  deriving DecidableEq, Repr

inductive SweepPhase where
  | up
  | down
  deriving DecidableEq, Repr

/-- One coil's duty 0..255 and its polarity (R23). -/
structure Duty where
  duty    : Nat
  reverse : Bool
  deriving DecidableEq, Repr

/-- Duty A of the sine coil and duty B of the cosine coil (R23). -/
structure DutyPair where
  a : Duty
  b : Duty
  deriving DecidableEq, Repr

/-- One gauge (R21, R22). `fresh` says that the staged pair was staged since the last frame start (R24). -/
structure Gauge where
  mode        : GaugeMode
  phase       : SweepPhase
  manualAngle : Nat
  target      : Nat
  commanded   : Nat
  staged      : DutyPair
  fresh       : Bool
  latched     : DutyPair
  deriving DecidableEq, Repr

/-- R33, R34: a lamp's state worked from the active list. -/
inductive LampState where
  | off
  | on
  | flashing
  deriving DecidableEq, Repr

/-- The gauge unit and the lamps. Gauges: 0 SPEED, 1 TACH, 2 FUEL, 3 COOLANT, 4 OIL, 5 VOLTS. Lamp 7 is MASTER.
Times left are in microseconds. -/
structure GaugeUnit where
  live      : Bool
  gauges    : Vector Gauge 6
  /-- manual silence count, or stopped (R29) -/
  silence   : Option Nat
  /-- gauges at rest handed to the power controller (R30) -/
  atRest    : Bool
  lamps     : Vector LampState 8
  bulbCheck : Option Nat
  lampTests : Vector (Option Nat) 8
  flasherOn : Bool
  /-- the sweep setting as the last gauge step expiry, or the start, took it (R21) -/
  sweepOn   : Bool
  /-- the running PWM frame began in a main-clock fault that has ended: it is timed from RC to its end (R31) -/
  frameOnRc : Bool
  deriving DecidableEq, Repr

/-! ### Fold engine (chapter 3) -/

/-- The fold buffer (section 3.1). -/
structure FoldBuffer where
  pulses  : Nat
  ticks   : Nat
  elapsed : Nat
  run     : Nat
  moving  : Nat
  engine  : Nat
  idle    : Nat
  cold    : Bool
  deriving DecidableEq, Repr

/-- R39: the pending qs counts and the cold flag of a fold buffer. -/
structure QsCounts where
  elapsed : Nat
  run     : Nat
  moving  : Nat
  engine  : Nat
  idle    : Nat
  cold    : Bool
  deriving DecidableEq, Repr

/-- R47: an entry of the window ring. -/
structure WindowEntry where
  metres : Nat
  ml     : Nat
  qs     : Nat
  deriving DecidableEq, Repr

/-- R48: a segment of the range ring. -/
structure Segment where
  metres : Nat
  ml     : Nat
  deriving DecidableEq, Repr

/-- R51, R54: the tank model, with the refuel marks of the three readers. -/
structure Tank where
  q       : Nat
  settled : Bool
  front   : Bool
  rear    : Bool
  service : Bool
  deriving DecidableEq, Repr

/-- R55: transfer hold: not standing, standing with the pump, or standing with this many microseconds left. -/
inductive TransferHold where
  | off
  | pumping
  | ending (left : Nat)
  deriving DecidableEq, Repr

/-- The fold engine. The fields before `check` are in retention under the fold check word (R38). -/
structure FoldEngine where
  buf     : FoldBuffer
  rd      : Nat
  rf      : Nat
  window  : List WindowEntry
  seg     : Segment
  closed  : List Segment
  tank    : Tank
  check   : Nat
  /-- the fold request state is WAITING (R40); FOLD waits in the arbiter exactly then -/
  waiting : Bool
  merges  : Nat
  lost    : Bool
  hold    : TransferHold
  deriving DecidableEq, Repr

/-! ### Record store (chapter 4) -/

/-- The fields that the trips and the charter share (R58), without the check word. -/
structure TripBody where
  damaged        : Bool
  distance       : Nat
  fuel           : Nat
  runQs          : Nat
  movingQs       : Nat
  start          : Nat
  odoMark        : Nat
  restarted      : Bool
  timeDegraded   : Bool
  fuelIncomplete : Bool
  deriving DecidableEq, Repr

/-- A trip record (R58). -/
structure Trip where
  body  : TripBody
  check : Nat
  deriving DecidableEq, Repr

/-- R60: the charter's phase, numbered as the record reply numbers it. -/
inductive Phase where
  | vacant
  | running
  | closed
  deriving DecidableEq, Repr

/-- The charter record (R60). -/
structure Charter where
  body     : TripBody
  phase    : Phase
  endStamp : Option Nat
  ackFront : Bool
  ackRear  : Bool
  check    : Nat
  deriving DecidableEq, Repr

/-- The odometer record (R59). -/
structure Odo where
  distance      : Nat
  reloaded      : Bool
  preset        : Bool
  allowanceOpen : Bool
  check         : Nat
  deriving DecidableEq, Repr

/-- The grant held by a port for one command, with what it found when it was given (R46, R62, R63, R74). -/
structure Grant where
  holder    : Port
  /-- a main-clock fault stood when the grant was given (R63) -/
  faultSeen : Bool
  /-- a W23 entry stood then with the rear link in its detail (R74) -/
  rearSilent : Bool
  /-- the seconds counter when the grant was given (R74) -/
  now       : Nat
  /-- the fold buffer when the grant was given: what the command's fold converts and carries (R41, R46) -/
  found     : FoldBuffer
  /-- what the fold expiries have counted since: it waits for the fold that they have asked for (R40, R41) -/
  since     : QsCounts
  deriving DecidableEq, Repr

/-- The clock supervisor's marks that wait for a grant or a park to end (R64, R78). -/
structure HeldMarks where
  timeDegraded   : Bool
  fuelIncomplete : Bool
  deriving DecidableEq, Repr

/-- R80: the slot number and sequence of the newest valid slot. -/
structure LogPos where
  slot : Nat
  seq  : Nat
  deriving DecidableEq, Repr

/-- The record store. -/
structure RecordStore where
  odo     : Odo
  a       : Trip
  b       : Trip
  p       : Trip
  charter : Charter
  grant   : Option Grant
  order   : List Port
  held    : HeldMarks
  logPos  : Option LogPos
  deriving DecidableEq, Repr

/-! ### Settings store (chapter 10) and service definitions (chapter 8) -/

/-- R14: a curve is a list of points. -/
abbrev Curve := List (Int × Int)

/-- R137: the definition of a service item. -/
structure ItemDef where
  enabled     : Bool
  name        : Nat
  km          : Nat
  days        : Nat
  hours       : Nat
  noticeKm    : Nat
  noticeDays  : Nat
  noticeHours : Nat
  wn          : Nat
  wc          : Nat
  wi          : Nat
  driver      : Bool
  deriving DecidableEq, Repr

/-- R181: the settings. Thresholds in the order of R102; wake sources in the order of items 36..45. -/
structure Settings where
  kr         : Nat
  kf         : Nat
  ppr        : Nat
  cm         : Nat
  ca         : Nat
  cold       : Nat
  economy    : Nat
  sweep      : Bool
  offsets    : Vector Nat 6
  senders    : Vector Curve 6
  gauges     : Vector Curve 6
  thresholds : Vector Int 10
  wakeModes  : Vector Nat 10
  items      : Vector ItemDef 8
  deriving DecidableEq, Repr

/-- R182: the stored settings block. -/
structure SettingsBlock where
  image : Settings
  check : Nat
  deriving DecidableEq, Repr

/-- R184: the last commit result, in the order of R180. -/
inductive CommitResult where
  | none
  | inProgress
  | ok
  | failed
  deriving DecidableEq, Repr

/-- R183: the curve staging: an item, its announced point count and the points of its part 0. -/
structure Staging where
  item   : Nat
  count  : Nat
  points : Curve
  deriving DecidableEq, Repr

/-- The settings store. -/
structure SettingsStore where
  work      : Settings
  check     : Nat
  defaulted : Bool
  commit    : CommitResult
  staging   : Option Staging
  deriving DecidableEq, Repr

/-- R80: one odometer slot. -/
structure Slot where
  distance : Nat
  seq      : Nat
  check    : Nat
  deriving DecidableEq, Repr

/-- R185: the write in flight, with its time left in microseconds. -/
inductive Flight where
  | slot (snapshot slot seq left : Nat)
  | commit (image : Settings) (left : Nat)
  deriving DecidableEq, Repr

/-- The nonvolatile array (R80, R182, R185). No block: erased. -/
structure NvArray where
  slots         : Vector Slot 32
  block         : Option SettingsBlock
  flight        : Option Flight
  pendingSlot   : Option Nat
  pendingCommit : Bool
  deriving DecidableEq, Repr

/-! ### Trip computer (chapter 5) -/

/-- R83: the stored unit choices, as the bytes that are stored, and the unit check word. -/
structure Units where
  front : Nat
  rear  : Nat
  check : Nat
  deriving DecidableEq, Repr

/-! ### Warning unit (chapter 6) -/

/-- R105: the chime state of an entry on a speaker. -/
inductive ChimeState where
  | pending
  | playing
  | resting
  | done
  deriving DecidableEq, Repr

/-- R105: a chime state with its repeat timer: stopped, or the microseconds left. -/
structure ChimeMark where
  state : ChimeState
  timer : Option Nat
  deriving DecidableEq, Repr

/-- R105: an entry of the active list. A speaker that the definition does not name has no chime mark; a definition with
no detail kind has no detail. -/
structure Entry where
  w        : Fin 24
  cleared  : Bool
  ackFront : Bool
  ackRear  : Bool
  chimeFront : Option ChimeMark
  chimeRear  : Option ChimeMark
  stamp    : Nat
  detail   : Option (BitVec 8)
  deriving DecidableEq, Repr

/-- The warning unit. -/
structure WarningUnit where
  list       : List Entry
  qualify    : Vector Nat 24
  release    : Vector Nat 24
  engineRun  : Nat
  runCount   : Nat
  seqFront   : Nat
  seqRear    : Nat
  seqService : Nat
  limit      : Nat
  limitCheck : Nat
  deriving DecidableEq, Repr

/-! ### Chime unit (chapter 7) -/

/-- R126: an entry of a speaker queue. -/
structure QueueEntry where
  pattern   : Fin 8
  cls       : Nat
  requester : Port
  playing   : Bool
  deriving DecidableEq, Repr

/-- R124: the source of a current play. -/
inductive Source where
  | warning (w : Fin 24)
  | queue
  deriving DecidableEq, Repr

/-- R124: a current play; `left` is the time left in its step, in microseconds. -/
structure Play where
  source  : Source
  cls     : Nat
  pattern : Fin 8
  step    : Nat
  left    : Nat
  deriving DecidableEq, Repr

/-- R132: the rear quiet state. -/
inductive Quiet where
  | off
  | quieting
  | on
  deriving DecidableEq, Repr

/-- One speaker: its channel (IDLE: no play) and its queue. -/
structure SpeakerState where
  play  : Option Play
  queue : List QueueEntry
  deriving DecidableEq, Repr

/-- The chime unit. -/
structure ChimeUnit where
  front : SpeakerState
  rear  : SpeakerState
  quiet : Quiet
  deriving DecidableEq, Repr

/-! ### Service unit (chapter 8) -/

/-- R138: an item's state, in the order R138 lists them. -/
inductive ItemState where
  | off
  | ok
  | soon
  | due
  | overdue
  | unknown
  deriving DecidableEq, Repr

/-- R138: an item of the service table. -/
structure Item where
  state : ItemState
  dist  : Int
  due   : Option Nat
  time  : Int
  rq    : Nat
  ri    : Nat
  re    : Nat
  deriving DecidableEq, Repr

/-- The service table and its check word (R138). -/
structure ServiceTable where
  items : Vector Item 8
  check : Nat
  deriving DecidableEq, Repr

/-! ### Clock unit and supervisor (chapter 9) -/

/-- R158: an RC calibration in progress: the RC edges counted so far and the main time left in microseconds. -/
structure Calibration where
  edges : Nat
  left  : Nat
  deriving DecidableEq, Repr

/-- The clock unit and the clock supervisor. -/
structure ClockUnit where
  seconds   : Nat
  prescaler : Nat
  rcCount   : Nat
  unset     : Bool
  /-- the seconds source is RC (clear: SUB), R157 -/
  onRc      : Bool
  divisor   : Nat
  alarm     : Option Nat
  alarmCheck : Nat
  /-- the alarm rang mark (R156) -/
  alarmRang : Bool
  /-- a degradation held in PARKED for the next wake (R157) -/
  heldW17   : Bool
  calib     : Option Calibration
  mainFault : Bool
  /-- microseconds since the last sub edge, and of sub edges without a 1 ms gap (R157) -/
  subGap    : Nat
  subGood   : Nat
  /-- microseconds since the last main edge, and of main edges without a 50 us gap (R159) -/
  mainGap   : Nat
  mainGood  : Nat
  deriving DecidableEq, Repr

/-! ### Power controller (chapter 9) -/

/-- The power states, in the order of the table of chapter 0. -/
inductive PowerState where
  | run
  | acc
  | awake
  | parked
  deriving DecidableEq, Repr

/-- R163: the cause of a park entry. -/
inductive ParkCause where
  | delay
  | limit
  deriving DecidableEq, Repr

/-- The power controller. The park delay and the awake limit are stopped, or hold the time left in 1/32,768 s. -/
structure PowerUnit where
  state      : PowerState
  park       : Option ParkCause
  delay      : Option Nat
  limit      : Option Nat
  causeFront : BitVec 16
  causeRear  : BitVec 16
  lastWake   : BitVec 16
  /-- the enables and modes in force, latched at PARKED entry (R165) -/
  armed      : Vector Nat 10
  /-- the reference levels of the raw lines (R165) -/
  reference  : BitVec 16
  /-- microseconds for which each raw line has differed from its reference, or an IGN line has been active (R165) -/
  lineHold   : Vector Nat 16
  /-- the wake sequence in progress: microseconds of the 4 ms start left (R166) -/
  waking     : Option Nat
  /-- the part's supply is present (R185) -/
  supplied   : Bool
  deriving DecidableEq, Repr

/-! ### Port block (chapter 10) -/

/-- R186: the status codes, in the order of their codes. -/
inductive Status where
  | ok
  | idle
  | busy
  | checkError
  | unknownCommand
  | badArgument
  | badCurve
  | denied
  | wrongState
  | moving
  | clockUnset
  | clockFault
  | full
  | notActive
  | settingsBusy
  | lineError
  deriving DecidableEq, Repr

/-- A reply: its status and its content bytes (R169). -/
structure Reply where
  status  : Status
  content : List Byte
  deriving DecidableEq, Repr

/-- A request, read from a frame by the command table of section 10.8. A WRITE SETTING of Kr or Kf is told apart, since
only it needs the grant (R49). -/
inductive Request where
  | readStatus
  | readNotices
  | readSetting (item page : Byte)
  | writeSetting (item part : Byte) (value : List Byte)
  | writeKrKf (c : CalConstant) (value : BitVec 16)
  | commitSettings
  | readInputs (page : Byte)
  | readGauges (page : Byte)
  | gaugeSet (gauge : Byte) (angle : BitVec 16)
  | gaugeRelease (gauge : Byte)
  | readFold (page : Byte)
  | readRecord (record page : Byte)
  | clearRecord (record : Byte)
  | charterOpen
  | charterClose
  | charterAck
  | charterRelease
  | odoPreset (value : BitVec 24)
  | readDerived (record : Byte)
  | readLive
  | setUnits (choice : Byte)
  | readWarnings (start : Byte)
  | ackWarning (id : Byte)
  | rearCall
  | setOverspeed (limit : BitVec 16)
  | warningTest (id : Byte)
  | playChime (pattern speakers cls : Byte)
  | cancelChimes
  | rearQuiet (arg : Byte)
  | readChimes (page : Byte)
  | readService (item page : Byte)
  | resetService (item : Byte)
  | writeServiceItem (item : Byte) (d : ItemArgs)
  | readClock
  | setClock (seconds : BitVec 32)
  | trimClock (seconds : BitVec 8)
  | setAlarm (seconds : BitVec 32)
  | clearAlarm
  | keepAwake (seconds : BitVec 16)
  | readWakeCauses
  deriving DecidableEq, Repr

/-- R171: a request slot. -/
inductive ReqSlot where
  | empty
  | waiting (r : Request)
  | done (r : Reply)
  deriving DecidableEq, Repr

/-- R171: the outgoing frame chosen at SELECT. -/
inductive Outgoing where
  | idle
  | busy
  | reply (r : Reply)
  deriving DecidableEq, Repr

/-- One link: its slot, its transaction in progress, its console's notice set, its silence timer in microseconds and its
silent condition (R171, R174, R176). -/
structure LinkState where
  slot    : ReqSlot
  select  : Option Outgoing
  notices : BitVec 8
  silence : Nat
  silent  : Bool
  deriving DecidableEq, Repr

/-- R178: the service receiver: waiting for a quiet line, building a frame (the bytes so far), or discarding with one
LINE_ERROR owed. -/
inductive Receiver where
  | waitQuiet
  | building (bytes : List Byte)
  | discarding
  deriving DecidableEq, Repr

/-- The service line (R177 to R179). `quiet` is the time since the last start bit, in microseconds; `sendLeft` is the
time left of the frame being sent, in thirds of a microsecond (a byte of 11 bits at 4,800 baud takes 6,875 of them). -/
structure ServiceLine where
  rx           : Receiver
  quiet        : Nat
  request      : Option Request
  output       : List Reply
  transmitting : Bool
  sendLeft     : Nat
  deriving DecidableEq, Repr

/-- The port block. -/
structure PortBlock where
  front   : LinkState
  rear    : LinkState
  service : ServiceLine
  deriving DecidableEq, Repr

/-! ### Timers and pins -/

/-- Microseconds left to the next of each periodic expiry, and the phase of the PWM frame in 1/1,024 us: from 0 at a frame's
start to 1,000,000, where the next frame is due. -/
structure Timers where
  speed   : Nat
  rpm     : Nat
  analog  : Nat
  switch  : Nat
  gauge   : Nat
  frame   : Nat
  fold    : Nat
  model   : Nat
  warning : Nat
  calib   : Nat
  flasher : Nat
  deriving DecidableEq, Repr

/-- The input pins as they last stood, and whether the two outer oscillators give edges (log 4). -/
structure Pins where
  samples  : Vector Byte 6
  lines    : BitVec 16
  injector : Bool
  main     : Bool
  sub      : Bool
  deriving DecidableEq, Repr

/-- The model's own fields: the free-value counter, the RC time accumulator and the sub oscillator phase (log 2, log 5). -/
structure Own where
  free   : Nat
  rcAcc  : Nat
  secAcc : Nat
  subAcc : Nat
  deriving DecidableEq, Repr

/-- The state of the part. -/
structure State where
  /-- the commands that wait, first in, first out -/
  pending  : List Instr
  meas     : Measure
  gauge    : GaugeUnit
  fold     : FoldEngine
  store    : RecordStore
  nv       : NvArray
  units    : Units
  warn     : WarningUnit
  chime    : ChimeUnit
  service  : ServiceTable
  clock    : ClockUnit
  power    : PowerUnit
  port     : PortBlock
  settings : SettingsStore
  timers   : Timers
  pins     : Pins
  own      : Own
  deriving DecidableEq, Repr

/-! ### Reset -/

/-- R181, R137, R14 (defaults), chapters 1, 2 and 8: the built-in defaults. -/
def Settings.builtIn : Settings where
  kr := 4971
  kf := 461
  ppr := 4
  cm := 80000
  ca := 60000
  cold := 60
  economy := 180
  sweep := false
  offsets := #v[0, 0, 0, 0, 0, 0]
  senders := #v[
    [(10, 0), (245, 80000)],
    [(10, 0), (245, 60000)],
    [(20, 150), (60, 115), (110, 85), (170, 50), (230, 0), (250, -40)],
    [(10, 0), (240, 700)],
    [(0, 0), (250, 200)],
    [(20, 60), (235, -40)]]
  gauges := #v[
    [(0, 0), (2400, 1079)],
    [(0, 0), (8000, 1079)],
    [(0, 0), (1400, 1079)],
    [(40, 0), (70, 360), (100, 720), (130, 1079)],
    [(0, 0), (600, 1079)],
    [(80, 0), (160, 1079)]]
  thresholds := #v[50, 115, 80, 120, 155, 12000, 150, 3, 2000, 5200]
  wakeModes := #v[1, 1, 1, 1, 1, 1, 1, 1, 1, 1]
  items := #v[
    ⟨true, 0, 10000, 365, 250, 1000, 30, 10, 4, 8, 500, true⟩,
    ⟨true, 1, 30000, 730, 0, 1000, 30, 10, 4, 4, 0, false⟩,
    ⟨true, 2, 10000, 0, 0, 1000, 30, 10, 4, 4, 0, false⟩,
    ⟨true, 3, 48000, 730, 0, 1000, 30, 10, 4, 4, 0, false⟩,
    ⟨true, 4, 20000, 365, 0, 1000, 30, 10, 4, 4, 0, false⟩,
    ⟨true, 5, 0, 730, 0, 1000, 30, 10, 4, 4, 0, false⟩,
    ⟨true, 6, 48000, 0, 0, 1000, 30, 10, 4, 4, 0, false⟩,
    ⟨true, 7, 0, 365, 0, 1000, 30, 10, 4, 4, 0, false⟩]

/-- A gauge after its unit's start (R21). -/
def Gauge.start : Gauge := ⟨.off, .up, 0, 0, 0, ⟨⟨0, false⟩, ⟨0, false⟩⟩, false, ⟨⟨0, false⟩, ⟨0, false⟩⟩⟩

/-- An erased odometer slot: every byte at its highest value (R80). -/
def Slot.erased : Slot := ⟨0xFFFFFF, 0xFFFF, 0xFFFF⟩

/-- A channel that the start loaded with the sample 128 (R9), with the value its curve gives. -/
def Channel.mid (value : Int) : Channel := ⟨32768, false, .normal, 0, 0, 128, 128, value⟩

/-- A trip after COLD START on an empty log (R82). -/
def TripBody.cold : TripBody := ⟨false, 0, 0, 0, 0, 0, 0, true, false, false⟩

/-- The machine right after COLD START, with an erased array, samples of 128 and every line inactive (log 1). -/
def State.reset : State where
  pending := []
  meas := {
    road := ⟨none, 1000001, true⟩, rawSpeed := 0, speed := 0
    engine := ⟨none, 500001, true⟩, running := false, rawRpm := 0, rpm := 0
    residue := 0
    channels := #v[.mid 40170, .mid 30128, .mid 75, .mid 359, .mid 102, .mid 10]
    fastWindow := none, levels := 0
    candidates := Vector.replicate 16 0 }
  gauge := {
    live := false
    gauges := #v[.start, .start, .start, .start, .start, .start]
    silence := none, atRest := false
    lamps := #v[.off, .off, .off, .off, .off, .off, .on, .off]
    bulbCheck := none
    lampTests := Vector.replicate 8 none
    flasherOn := true, sweepOn := false, frameOnRc := false }
  fold := {
    buf := ⟨0, 0, 0, 0, 0, 0, 0, false⟩, rd := 0, rf := 0
    window := [], seg := ⟨0, 0⟩, closed := []
    tank := ⟨0, false, false, false, false⟩
    check := 0, waiting := false, merges := 0, lost := false, hold := .off }
  store := {
    odo := ⟨0, false, false, true, 0⟩
    a := ⟨.cold, 2⟩, b := ⟨.cold, 3⟩, p := ⟨.cold, 4⟩
    charter := ⟨.cold, .vacant, none, false, false, 5⟩
    grant := none, order := [.front, .rear, .service]
    held := ⟨false, false⟩, logPos := none }
  nv := {
    slots := Vector.replicate 32 .erased
    block := none, flight := none, pendingSlot := none, pendingCommit := false }
  units := ⟨0, 0, 5⟩
  warn := {
    list := [⟨13, false, false, false, some ⟨.playing, none⟩, none, 0, some 0xFF⟩]
    qualify := Vector.replicate 24 0, release := Vector.replicate 24 0
    engineRun := 0, runCount := 0
    seqFront := 1, seqRear := 0, seqService := 1
    limit := 0, limitCheck := 6 }
  chime := ⟨⟨some ⟨.warning 13, 1, 6, 0, 500000⟩, []⟩, ⟨none, []⟩, .off⟩
  service := ⟨Vector.replicate 8 ⟨.unknown, 0, none, 0, 0, 0, 0⟩, 47⟩
  clock := {
    seconds := 0, prescaler := 0, rcCount := 0, unset := true, onRc := false, divisor := 32000
    alarm := none, alarmCheck := 9, alarmRang := false, heldW17 := false
    calib := none, mainFault := false, subGap := 0, subGood := 0, mainGap := 0, mainGood := 0 }
  power := {
    state := .awake, park := none, delay := some 983040, limit := some 39321600
    causeFront := 0, causeRear := 0, lastWake := 0
    armed := #v[1, 1, 1, 1, 1, 1, 1, 1, 1, 1]
    reference := 0
    lineHold := Vector.replicate 16 0
    waking := none, supplied := true }
  port := {
    front := ⟨.empty, none, 0x41, 0, false⟩
    rear := ⟨.empty, none, 0x40, 0, false⟩
    service := ⟨.waitQuiet, 0, none, [], false, 0⟩ }
  settings := ⟨.builtIn, 13790, true, .none, none⟩
  timers := ⟨62500, 62500, 62500, 8000, 15625, 0, 250000, 4000000, 250000, 4000000, 500000⟩
  pins := ⟨#v[128, 128, 128, 128, 128, 128], 0, false, true, true⟩
  own := ⟨0, 0, 0, 0⟩

end Sys2Proof.Machine
end

