-- ==== Sys2Proof/Machine/Ops.lean ====
section
/-! DEFINITION. The operations every block uses: arithmetic of the rounding section of chapter 0, byte sums and check
words, the periods of the expiries, notices, replies and the state of supply and clock. -/

namespace Sys2Proof.Machine

/-! ### Rounding (chapter 0, "Rounding and width") -/

/-- round(a/b), half up, for non-negative numbers: floor((2a + b) / (2b)). -/
def roundHalfUp (a b : Nat) : Nat := (2 * a + b) / (2 * b)

/-- Signed round half up: floor(q + 1/2) for q = n/d with d above 0. -/
def roundSigned (n d : Int) : Int := (2 * n + d) / (2 * d)

/-- Division truncated toward zero. -/
def truncDiv (n d : Int) : Int := Int.tdiv n d

/-- One step of a filter from `f` toward `r`: the difference over `d`, truncated toward zero. -/
def filterStep (f r d : Int) : Int := f + truncDiv (r - f) d

/-! ### Periods, in microseconds -/

/-- R1: the speed, rpm and analog expiries. -/
def samplePeriod : Nat := 62500
/-- R1: the switch scan. -/
def switchPeriod : Nat := 8000
/-- R22: the gauge step. -/
def gaugePeriod : Nat := 15625
/-- R39, R103: the fold expiry and the warning expiry. -/
def quarterSecond : Nat := 250000
/-- R53, R158: the model expiry and the calibration expiry. -/
def fourSeconds : Nat := 4000000
/-- R35: a phase of the flasher. -/
def flasherPeriod : Nat := 500000
/-- R36: bulb check and lamp test. -/
def lampHold : Nat := 3000000
/-- R55: transfer hold after the pump stops. -/
def transferPeriod : Nat := 60000000
/-- R176: the silence limit. -/
def silencePeriod : Nat := 2000000
/-- R185: a slot write. -/
def slotWritePeriod : Nat := 10000
/-- R184, R185: a commit with its read-back. -/
def commitPeriod : Nat := 260000
/-- R161: seconds as the park delay and the awake limit hold them, in 1/32,768 s. -/
def parkSeconds (n : Nat) : Nat := n * 32768
/-- R161: the park delay of a restart without KEEP AWAKE, in seconds. -/
def parkDelayDefault : Nat := 30
/-- R161: the awake limit, 20 minutes. -/
def awakeLimitSeconds : Nat := 1200
/-- R3, R6: the ages that are stale. -/
def roadStale : Nat := 1000001
def engineStale : Nat := 500001
/-- R59: the modulus of the odometer and of the trip distances. -/
def odoModulus : Nat := 1000000000
/-- R58: the fuel ceiling. -/
def fuelCeiling : Nat := 99999999
/-- R58: the ceiling of run qs and moving qs. -/
def qsCeiling : Nat := 4294967295
/-- R151: the modulus of the seconds counter. -/
def clockModulus : Nat := 4294967296

/-! ### Byte sums and check words -/

/-- The sum of the bytes of a number of up to four bytes. -/
def byteSum (n : Nat) : Nat := n % 256 + n / 256 % 256 + n / 65536 % 256 + n / 16777216 % 256

/-- The sum of the bytes of a signed number stored in `w` bytes, two's complement (log 11). -/
def byteSumInt (w : Nat) (v : Int) : Nat := byteSum (v % (256 ^ w : Nat)).toNat

/-- A check word is kept modulo 65,536. -/
def word16 (n : Nat) : Nat := n % 65536

/-- The byte sum of an optional field: its presence flag and its bytes, zeros when absent. -/
def byteSumOpt (o : Option Nat) : Nat :=
  match o with
  | none => 0
  | some n => 1 + byteSum n

/-- The byte sum of the fields a trip and the charter share (R61). -/
def TripBody.byteSum (t : TripBody) : Nat :=
  t.damaged.toNat + Machine.byteSum t.distance + Machine.byteSum t.fuel + Machine.byteSum t.runQs
    + Machine.byteSum t.movingQs + Machine.byteSum t.start + Machine.byteSum t.odoMark
    + t.restarted.toNat + t.timeDegraded.toNat + t.fuelIncomplete.toNat

/-- R60: the phase as it is numbered. -/
def Phase.toNat : Phase → Nat
  | .vacant => 0
  | .running => 1
  | .closed => 2

/-- R61: the check word of trip number `no`. -/
def tripCheck (no : Nat) (t : TripBody) : Nat := word16 (t.byteSum + no)

/-- R61: the check word of the charter, record 4. -/
def charterCheck (c : Charter) : Nat :=
  word16 (c.body.byteSum + c.phase.toNat + byteSumOpt c.endStamp + c.ackFront.toNat + 2 * c.ackRear.toNat + 4)

/-- R61: the check word of ODO, record 0. -/
def odoCheck (o : Odo) : Nat :=
  word16 (byteSum o.distance + o.reloaded.toNat + o.preset.toNat + (!o.allowanceOpen).toNat)

/-- A trip with its check word recomputed. -/
def TripBody.seal (no : Nat) (t : TripBody) : Trip := ⟨t, tripCheck no t⟩

/-- The charter with its check word recomputed. -/
def Charter.seal (c : Charter) : Charter := { c with check := charterCheck c }

/-- ODO with its check word recomputed. -/
def Odo.seal (o : Odo) : Odo := { o with check := odoCheck o }

/-- R38: the fold check word: the byte sum of the buffer, the remainders, the rings and the tank model. -/
def foldCheck (f : FoldEngine) : Nat :=
  word16 (byteSum f.buf.pulses + byteSum f.buf.ticks + byteSum f.buf.elapsed + byteSum f.buf.run + byteSum f.buf.moving
    + byteSum f.buf.engine + byteSum f.buf.idle + f.buf.cold.toNat + byteSum f.rd + byteSum f.rf
    + byteSum f.window.length + (f.window.map fun e => byteSum e.metres + byteSum e.ml + byteSum e.qs).sum
    + byteSum f.seg.metres + byteSum f.seg.ml
    + byteSum f.closed.length + (f.closed.map fun e => byteSum e.metres + byteSum e.ml).sum
    + byteSum f.tank.q + f.tank.settled.toNat + f.tank.front.toNat + f.tank.rear.toNat + f.tank.service.toNat)

/-- The fold engine with its check word recomputed, as after each change of what it covers (R38). -/
def FoldEngine.seal (f : FoldEngine) : FoldEngine := { f with check := foldCheck f }

/-- R83: the unit check word. -/
def unitCheck (front rear : Nat) : Nat := word16 (front + rear + 5)

/-- R117: the overspeed check word. -/
def limitCheck (limit : Nat) : Nat := word16 (byteSum limit + 6)

/-- R155: the alarm check word. -/
def alarmCheck (alarm : Option Nat) : Nat := word16 (byteSumOpt alarm + 9)

/-- R138: the stored number of an item state. -/
def ItemState.toNat : ItemState → Nat
  | .off => 0
  | .ok => 1
  | .soon => 2
  | .due => 3
  | .overdue => 4
  | .unknown => 5

/-- The byte sum of one item of the service table. -/
def Item.byteSum (i : Item) : Nat :=
  i.state.toNat + byteSumInt 4 i.dist + byteSumOpt i.due + byteSumInt 3 i.time + i.rq + i.ri + i.re

/-- R138: the service check word. -/
def serviceCheck (items : Vector Item 8) : Nat := word16 ((items.toList.map Item.byteSum).sum + 7)

/-- The service table with its check word recomputed. -/
def sealItems (items : Vector Item 8) : ServiceTable := ⟨items, serviceCheck items⟩

/-- The byte sum of a curve: its count and its points, x in two bytes and y in three, both signed (R186). -/
def curveByteSum (c : Curve) : Nat :=
  c.length + (c.map fun q => byteSumInt 2 q.1 + byteSumInt 3 q.2).sum

/-- The byte sum of an item definition (R137). -/
def ItemDef.byteSum (d : ItemDef) : Nat :=
  d.enabled.toNat + d.name + Machine.byteSum d.km + Machine.byteSum d.days + Machine.byteSum d.hours
    + Machine.byteSum d.noticeKm + Machine.byteSum d.noticeDays + Machine.byteSum d.noticeHours
    + d.wn + d.wc + Machine.byteSum d.wi + d.driver.toNat

/-- The widths in bytes of the thresholds as they are stored (R186's smallest width of the range of R102). -/
def thresholdWidth : Nat → Nat
  | 1 | 3 | 4 | 7 => 1
  | 5 | 8 => 3
  | _ => 2

/-- R182: the sum of the bytes of the working copy. -/
def settingsByteSum (w : Settings) : Nat :=
  byteSum w.kr + byteSum w.kf + byteSum w.ppr + byteSum w.cm + byteSum w.ca + byteSum w.cold + byteSum w.economy
    + w.sweep.toNat + (w.offsets.toList.map byteSum).sum + (w.senders.toList.map curveByteSum).sum
    + (w.gauges.toList.map curveByteSum).sum
    + (w.thresholds.toList.zipIdx.map fun q => byteSumInt (thresholdWidth q.2) q.1).sum
    + (w.wakeModes.toList.map byteSum).sum + (w.items.toList.map ItemDef.byteSum).sum

/-- R182: the check word of the working copy. -/
def settingsCheck (w : Settings) : Nat := word16 (settingsByteSum w + 10)

/-- R182: the check word of the stored settings block. -/
def blockCheck (w : Settings) : Nat := word16 (settingsByteSum w + 11)

/-- R80: the check of an odometer slot. -/
def slotCheck (no distance seq : Nat) : Nat := word16 (byteSum distance + byteSum seq + no)

/-! ### Supply and clock -/

/-- The part receives and acts: it has its supply and is not PARKED (R168). -/
def alive (s : State) : Bool := s.power.supplied && s.power.state != .parked

/-- The main oscillator times the blocks' work: not PARKED and no main-clock fault standing (R1, R18). -/
def clocked (s : State) : Bool := alive s && !s.clock.mainFault

/-- The part is PARKED with its supply. -/
def parkedState (s : State) : Bool := s.power.supplied && s.power.state == .parked

/-- R5: the vehicle is moving. -/
def moving (s : State) : Bool := decide (30 ≤ s.meas.speed)

/-- An accepted switch level (section 1.8). -/
def level (s : State) (line : Nat) : Bool := s.meas.levels.getLsbD line

/-- R151: the day number. -/
def today (s : State) : Nat := s.clock.seconds / 86400

/-! ### Notices (R174) -/

/-- The eight flags, in the order of the table of section 10.4. -/
inductive Notice where
  | warnings
  | chimeDone
  | charter
  | service
  | clock
  | wake
  | restart
  | status
  deriving DecidableEq, Repr

/-- The flag as a bit of the notice set. -/
def Notice.bit : Notice → BitVec 8
  | .warnings => 0x01
  | .chimeDone => 0x02
  | .charter => 0x04
  | .service => 0x08
  | .clock => 0x10
  | .wake => 0x20
  | .restart => 0x40
  | .status => 0x80

/-- A link of the port block. -/
def State.link (s : State) (l : Link) : LinkState :=
  match l with
  | .front => s.port.front
  | .rear => s.port.rear

/-- The state with a link of the port block replaced. -/
def State.setLink (s : State) (l : Link) (x : LinkState) : State :=
  match l with
  | .front => { s with port := { s.port with front := x } }
  | .rear => { s with port := { s.port with rear := x } }

/-- R174: a flag is set in a console's notice set. -/
def notify (l : Link) (n : Notice) (s : State) : State :=
  s.setLink l { s.link l with notices := (s.link l).notices ||| n.bit }

/-- A flag is set for both consoles. -/
def notifyBoth (n : Notice) (s : State) : State := notify .rear n (notify .front n s)

/-- A flag is set for both consoles when a condition holds. -/
def notifyBothIf (b : Bool) (n : Notice) (s : State) : State := if b then notifyBoth n s else s

/-! ### Replies -/

/-- R179: a reply of the service line goes into the output list, or is dropped when it holds 4. -/
def serviceReply (r : Reply) (s : State) : State :=
  if s.port.service.output.length < 4 then
    { s with port := { s.port with service := { s.port.service with output := s.port.service.output ++ [r] } } }
  else s

/-- R172: a reply goes to the port of its request: into the link's slot, or into the service line's output list. -/
def deliver (p : Port) (r : Reply) (s : State) : State :=
  match p with
  | .front => s.setLink .front { s.port.front with slot := .done r }
  | .rear => s.setLink .rear { s.port.rear with slot := .done r }
  | .service =>
    serviceReply r { s with port := { s.port with service := { s.port.service with request := none } } }

/-- The request that a port holds awaiting execution (R62, R171, R179). -/
def waitingRequest (s : State) (p : Port) : Option Request :=
  match p with
  | .front => match s.port.front.slot with | .waiting r => some r | .empty => none | .done _ => none
  | .rear => match s.port.rear.slot with | .waiting r => some r | .empty => none | .done _ => none
  | .service => s.port.service.request

/-- R171, R179: a request that must wait stands in its port. -/
def holdRequest (p : Port) (r : Request) (s : State) : State :=
  match p with
  | .front => s.setLink .front { s.port.front with slot := .waiting r }
  | .rear => s.setLink .rear { s.port.rear with slot := .waiting r }
  | .service => { s with port := { s.port with service := { s.port.service with request := some r } } }

/-- A reply with no content. -/
def Reply.bare (st : Status) : Reply := ⟨st, []⟩

/-- What a command answers: the state after it and its reply. -/
abbrev Answer := State × Reply

/-- A command is answered at once by its owner (R172): when the part receives and the port holds no waiting request. A
request that finds one waiting is discarded on a link and answered BUSY on the service line (R171, R179). -/
def answerAtOnce (p : Port) (f : State → Answer) (s : State) : State :=
  if alive s then
    match waitingRequest s p with
    | none => deliver p (f s).2 (f s).1
    | some _ =>
      match p with
      | .service => serviceReply (.bare .busy) s
      | .front => s
      | .rear => s
  else s

/-- The next state as an outcome. -/
abbrev Outcome := Host.Outcome State Fault Refusal

/-! ### Nonvolatile array, queueing (R81, R185) -/

/-- R185: a write is in flight or pending. -/
def nvBusy (s : State) : Bool :=
  s.nv.flight.isSome || s.nv.pendingSlot.isSome || s.nv.pendingCommit

/-- R81: an odometer slot write is queued; its snapshot replaces a pending one. -/
def queueSlotWrite (s : State) : State :=
  { s with nv := { s.nv with pendingSlot := some (s.store.odo.distance / 100) } }

/-! ### The counts of the fold buffer (R39, R41) -/

/-- The pending qs counts and the cold flag of a fold buffer. -/
def FoldBuffer.qs (b : FoldBuffer) : QsCounts := ⟨b.elapsed, b.run, b.moving, b.engine, b.idle, b.cold⟩

/-- A fold buffer with other qs counts. -/
def FoldBuffer.withQs (b : FoldBuffer) (q : QsCounts) : FoldBuffer :=
  { b with
    elapsed := q.elapsed, run := q.run, moving := q.moving, engine := q.engine, idle := q.idle, cold := q.cold }

/-- No quarter-second counted. -/
def QsCounts.zero : QsCounts := ⟨0, 0, 0, 0, 0, false⟩

end Sys2Proof.Machine
end

