-- ==== Sys2Proof/Machine/Operands.lean ====
section
/-! DEFINITION. Operands and replies as bytes: curves and their checks (section 1.7), settings items and their ranges
(R181, R102), frames and the reading of requests (R169, R170, R172, R186), fields and pages of replies (R173, R186). -/

namespace Sys2Proof.Machine

/-! ### Curves (R14, R15) -/

/-- R14: a curve applied to a value. -/
def Curve.apply : Curve → Int → Int
  | [], _ => 0
  | [q], _ => q.2
  | q :: r :: rest, v =>
    if v ≤ q.1 then q.2
    else if v < r.1 then q.2 + roundSigned ((v - q.1) * (r.2 - q.2)) (r.1 - q.1)
    else Curve.apply (r :: rest) v

/-- The x values strictly increase. -/
def Curve.rising : Curve → Bool
  | [] => true
  | [_] => true
  | q :: r :: rest => decide (q.1 < r.1) && Curve.rising (r :: rest)

/-- The x range of each curve, sender curves 0..5 and gauge curves 6..11 (table of section 1.7). -/
def curveXRange : Nat → Int × Int
  | 6 => (0, 2550)
  | 7 => (0, 9999)
  | 8 => (0, 4000)
  | 9 => (-40, 150)
  | 10 => (0, 700)
  | 11 => (0, 200)
  | _ => (0, 255)

/-- The y range of each curve. -/
def curveYRange : Nat → Int × Int
  | 0 | 1 => (0, 200000)
  | 2 => (-40, 150)
  | 3 => (0, 700)
  | 4 => (0, 200)
  | 5 => (-40, 60)
  | _ => (0, 1079)

/-- A number lies in a range, both ends included. -/
def inRange (r : Int × Int) (v : Int) : Bool := decide (r.1 ≤ v) && decide (v ≤ r.2)

/-- R15: the checks of curve `i`. -/
def curveGood (i : Nat) (c : Curve) : Bool :=
  decide (2 ≤ c.length) && decide (c.length ≤ 8) && Curve.rising c
    && c.all fun q => inRange (curveXRange i) q.1 && inRange (curveYRange i) q.2

/-! ### Settings items (R181, R102) -/

/-- The range of the items that are numbers; curve items and numbers above 45 have none. -/
def itemRange : Nat → Option (Int × Int)
  | 0 => some (1000, 25000)
  | 1 => some (1, 4000)
  | 2 => some (1, 12)
  | 3 | 4 => some (10000, 200000)
  | 5 => some (0, 120)
  | 6 => some (30, 400)
  | 7 => some (0, 1)
  | 8 | 9 | 10 | 11 | 12 | 13 => some (0, 1439)
  | 26 => some (0, 700)
  | 27 => some (60, 150)
  | 28 => some (0, 2550)
  | 29 | 30 => some (0, 200)
  | 31 => some (0, 100000)
  | 32 => some (0, 2550)
  | 33 => some (-40, 58)
  | 34 => some (0, 200000)
  | 35 => some (1000, 9999)
  | 36 | 37 | 38 | 39 | 40 | 41 => some (0, 3)
  | 42 | 43 | 44 | 45 => some (0, 1)
  | _ => none

/-- The width in bytes of the items that are numbers: the smallest that holds the range (R186). -/
def itemWidth : Nat → Nat
  | 2 | 5 | 7 | 27 | 29 | 30 | 33 => 1
  | 3 | 4 | 31 | 34 => 3
  | 36 | 37 | 38 | 39 | 40 | 41 | 42 | 43 | 44 | 45 => 1
  | _ => 2

/-- The curve an item is: 14..25 are the curves 0..11. -/
def itemCurve (item : Nat) : Option Nat :=
  if 14 ≤ item ∧ item ≤ 25 then some (item - 14) else none

/-- A curve of the working copy. -/
def Settings.curve (w : Settings) (i : Nat) : Curve :=
  if i < 6 then (w.senders[i]?).getD [] else (w.gauges[i - 6]?).getD []

/-- The working copy with a curve installed. -/
def Settings.setCurve (w : Settings) (i : Nat) (c : Curve) : Settings :=
  if i < 6 then { w with senders := w.senders.setIfInBounds i c }
  else { w with gauges := w.gauges.setIfInBounds (i - 6) c }

/-- A number of the working copy by its item. -/
def Settings.number (w : Settings) (item : Nat) : Int :=
  match item with
  | 0 => w.kr
  | 1 => w.kf
  | 2 => w.ppr
  | 3 => w.cm
  | 4 => w.ca
  | 5 => w.cold
  | 6 => w.economy
  | 7 => w.sweep.toNat
  | n =>
    if n ≤ 13 then ((w.offsets[n - 8]?).getD 0 : Nat)
    else if n ≤ 35 then (w.thresholds[n - 26]?).getD 0
    else ((w.wakeModes[n - 36]?).getD 0 : Nat)

/-- The working copy with a number installed. -/
def Settings.setNumber (w : Settings) (item : Nat) (v : Int) : Settings :=
  match item with
  | 0 => { w with kr := v.toNat }
  | 1 => { w with kf := v.toNat }
  | 2 => { w with ppr := v.toNat }
  | 3 => { w with cm := v.toNat }
  | 4 => { w with ca := v.toNat }
  | 5 => { w with cold := v.toNat }
  | 6 => { w with economy := v.toNat }
  | 7 => { w with sweep := decide (v = 1) }
  | n =>
    if n ≤ 13 then { w with offsets := w.offsets.setIfInBounds (n - 8) v.toNat }
    else if n ≤ 35 then { w with thresholds := w.thresholds.setIfInBounds (n - 26) v }
    else { w with wakeModes := w.wakeModes.setIfInBounds (n - 36) v.toNat }

/-- R137: a definition's fields lie in their ranges, and an enabled one has a used dimension. -/
def ItemDef.good (d : ItemDef) : Bool :=
  decide (d.name ≤ 255) && decide (d.km ≤ 99999) && decide (d.days ≤ 3650) && decide (d.hours ≤ 1000)
    && decide (d.noticeKm ≤ 99999) && decide (d.noticeDays ≤ 3650) && decide (d.noticeHours ≤ 1000)
    && decide (d.wn ≤ 16) && decide (d.wc ≤ 16) && decide (d.wi ≤ 1000)
    && (!d.enabled || decide (0 < d.km) || decide (0 < d.days) || decide (0 < d.hours))

/-- R182: every item lies in its range and every curve passes R15. -/
def Settings.good (w : Settings) : Bool :=
  (List.range 46).all (fun n =>
    match itemCurve n with
    | some i => curveGood i (w.curve i)
    | none =>
      match itemRange n with
      | some r => inRange r (w.number n)
      | none => true)
    && w.items.toList.all ItemDef.good

/-- R137, R148: the definition that the argument bytes carry, if each flag is 0 or 1 and the definition is good: yes is 01h, no
is 00h, and any other byte is out of range (log 39). -/
def ItemArgs.toDef (d : ItemArgs) : Option ItemDef :=
  let r : ItemDef :=
    ⟨d.enabled == 1, d.name.toNat, d.km.toNat, d.days.toNat, d.hours.toNat, d.noticeKm.toNat, d.noticeDays.toNat,
      d.noticeHours.toNat, d.wn.toNat, d.wc.toNat, d.wi.toNat, d.driver == 1⟩
  if d.enabled.toNat ≤ 1 ∧ d.driver.toNat ≤ 1 ∧ r.good = true then some r else none

/-! ### Numbers as bytes (R186) -/

/-- A number in `w` bytes, most significant byte first. -/
def enc (w n : Nat) : List Byte := (List.range w).reverse.map fun i => BitVec.ofNat 8 (n / 256 ^ i)

/-- A signed number in `w` bytes, two's complement. -/
def encInt (w : Nat) (v : Int) : List Byte := enc w (v % (256 ^ w : Nat)).toNat

/-- A yes or no. -/
def encBool (b : Bool) : List Byte := enc 1 b.toNat

/-- An optional number: a presence byte and the number, zeros when absent. -/
def encOpt (w : Nat) (o : Option Nat) : List Byte :=
  match o with
  | none => enc 1 0 ++ enc w 0
  | some n => enc 1 1 ++ enc w n

/-- The number that bytes carry, most significant first. -/
def decNat (bs : List Byte) : Nat := bs.foldl (fun n b => n * 256 + b.toNat) 0

/-- The signed number that bytes carry. -/
def decInt (bs : List Byte) : Int :=
  if 2 * decNat bs < 256 ^ bs.length then decNat bs else (decNat bs : Int) - (256 ^ bs.length : Nat)

/-- A curve point: x in 2 bytes and y in 3, both signed. -/
def encPoint (q : Int × Int) : List Byte := encInt 2 q.1 ++ encInt 3 q.2

/-- The points that bytes carry, five bytes each. -/
def decPoints : List Byte → Curve
  | a :: b :: c :: d :: e :: rest => (decInt [a, b], decInt [c, d, e]) :: decPoints rest
  | _ => []

/-! ### Frames (R169, R170) -/

/-- R186: the codes of the statuses. -/
def Status.code : Status → Nat
  | .ok => 0x00
  | .idle => 0x01
  | .busy => 0x02
  | .checkError => 0x03
  | .unknownCommand => 0x04
  | .badArgument => 0x05
  | .badCurve => 0x06
  | .denied => 0x07
  | .wrongState => 0x08
  | .moving => 0x09
  | .clockUnset => 0x0A
  | .clockFault => 0x0B
  | .full => 0x0C
  | .notActive => 0x0D
  | .settingsBusy => 0x0E
  | .lineError => 0x0F

/-- The sum of bytes modulo 256. -/
def sumBytes (bs : List Byte) : Byte := bs.foldl (· + ·) 0

/-- R169: the frame of a reply: length, status, content and the check byte that makes the sum 0. -/
def Reply.frame (r : Reply) : List Byte :=
  let body := enc 1 (r.content.length + 3) ++ enc 1 r.status.code ++ r.content
  body ++ [-(sumBytes body)]

/-- R171: the outgoing frame of a transaction. -/
def Outgoing.frame : Outgoing → List Byte
  | .idle => (Reply.bare .idle).frame
  | .busy => (Reply.bare .busy).frame
  | .reply r => r.frame

/-- R170: what incoming bytes are judged as. -/
inductive Judged where
  | poll
  | bad
  | request (code : Byte) (args : List Byte)
  deriving DecidableEq, Repr

/-- A frame of L bytes, L in 3..32, whose sum is 0 modulo 256; the bytes beyond the first L are ignored. -/
def judgeFrame (bytes : List Byte) : Judged :=
  let l := (bytes.headD 0).toNat
  if l < 3 ∨ 32 < l ∨ bytes.length < l then .bad
  else if sumBytes (bytes.take l) ≠ 0 then .bad
  else .request (bytes.getD 1 0) ((bytes.take (l - 1)).drop 2)

/-- R170: the incoming bytes of a link transaction judged. -/
def judge (bytes : List Byte) : Judged :=
  if bytes.headD 0 = 0 then .poll else judgeFrame bytes

/-! ### Requests (R172, command table of section 10.8) -/

/-- The codes that name a command. -/
def commandCodes : List Nat :=
  [0x01, 0x02, 0x03, 0x04, 0x05, 0x08, 0x09, 0x0A, 0x0B, 0x0C, 0x10, 0x11, 0x12, 0x13, 0x14, 0x15, 0x16, 0x18, 0x19, 0x1A,
   0x20, 0x21, 0x22, 0x23, 0x24, 0x28, 0x29, 0x2A, 0x2B, 0x30, 0x31, 0x32, 0x38, 0x39, 0x3A, 0x3B, 0x3C, 0x3D, 0x3E]

/-- The commands with no argument bytes. -/
def request0 : Nat → Option Request
  | 0x01 => some .readStatus
  | 0x02 => some .readNotices
  | 0x05 => some .commitSettings
  | 0x12 => some .charterOpen
  | 0x13 => some .charterClose
  | 0x14 => some .charterAck
  | 0x15 => some .charterRelease
  | 0x19 => some .readLive
  | 0x22 => some .rearCall
  | 0x29 => some .cancelChimes
  | 0x38 => some .readClock
  | 0x3C => some .clearAlarm
  | 0x3E => some .readWakeCauses
  | _ => none

/-- The commands with one argument byte. -/
def request1 (a : Byte) : Nat → Option Request
  | 0x08 => some (.readInputs a)
  | 0x09 => some (.readGauges a)
  | 0x0B => some (.gaugeRelease a)
  | 0x0C => some (.readFold a)
  | 0x11 => some (.clearRecord a)
  | 0x18 => some (.readDerived a)
  | 0x1A => some (.setUnits a)
  | 0x20 => some (.readWarnings a)
  | 0x21 => some (.ackWarning a)
  | 0x24 => some (.warningTest a)
  | 0x2A => some (.rearQuiet a)
  | 0x2B => some (.readChimes a)
  | 0x31 => some (.resetService a)
  | 0x3A => some (.trimClock a)
  | _ => none

/-- The commands with two argument bytes. -/
def request2 (a b : Byte) : Nat → Option Request
  | 0x03 => some (.readSetting a b)
  | 0x10 => some (.readRecord a b)
  | 0x23 => some (.setOverspeed (a ++ b))
  | 0x30 => some (.readService a b)
  | 0x3D => some (.keepAwake (a ++ b))
  | _ => none

/-- The commands with three argument bytes. -/
def request3 (a b c : Byte) : Nat → Option Request
  | 0x0A => some (.gaugeSet a (b ++ c))
  | 0x16 => some (.odoPreset (a ++ b ++ c))
  | 0x28 => some (.playChime a b c)
  | _ => none

/-- The commands with four argument bytes. -/
def request4 (a b c d : Byte) : Nat → Option Request
  | 0x39 => some (.setClock (a ++ b ++ c ++ d))
  | 0x3B => some (.setAlarm (a ++ b ++ c ++ d))
  | _ => none

/-- The 21 definition bytes of a WRITE SERVICE ITEM as numbers, in the order of R137. -/
def itemArgsOf (d : List Byte) : ItemArgs :=
  let field (at_ w : Nat) : Nat := decNat ((d.drop at_).take w)
  ⟨.ofNat 8 (field 0 1), .ofNat 8 (field 1 1), .ofNat 24 (field 2 3), .ofNat 16 (field 5 2), .ofNat 16 (field 7 2),
    .ofNat 24 (field 9 3), .ofNat 16 (field 12 2), .ofNat 16 (field 14 2), .ofNat 8 (field 16 1), .ofNat 8 (field 17 1),
    .ofNat 16 (field 18 2), .ofNat 8 (field 20 1)⟩

/-- The request that a code and its argument bytes are, when their count matches the command table. -/
def requestOf (code : Byte) (args : List Byte) : Option Request :=
  match args with
  | [] => request0 code.toNat
  | [a] => request1 a code.toNat
  | [a, b] => request2 a b code.toNat
  | [a, b, c] => if code = 0x04 then some (.writeSetting a b [c]) else request3 a b c code.toNat
  | [a, b, c, d] => if code = 0x04 then some (.writeSetting a b [c, d]) else request4 a b c d code.toNat
  | a :: b :: rest =>
    if code = 0x04 ∧ rest.length ≤ 23 then some (.writeSetting a b rest)
    else if code = 0x32 ∧ rest.length = 20 then some (.writeServiceItem a (itemArgsOf (b :: rest)))
    else none

/-- R172: the status of a frame that is no request of the command table. -/
def refusalOf (code : Byte) : Status :=
  if code.toNat ∈ commandCodes then .badArgument else .unknownCommand

/-! ### Pages (R173, R186) -/

/-- The fields of a reply cut into pages of `budget` bytes, each holding as many whole fields as fit. -/
def paginate (budget : Nat) : List (List Byte) → List Byte → List (List Byte)
  | [], cur => [cur]
  | f :: fs, cur =>
    if cur.length + f.length ≤ budget then paginate budget fs (cur ++ f) else cur :: paginate budget fs f

/-- One page of a paged reply: the record or item number, the page, the page count and the fields of the page. A page
at or beyond the count is answered BAD_ARGUMENT with no content. -/
def pagedReply (head : List Byte) (page : Byte) (fields : List (List Byte)) : Reply :=
  let pages := paginate (27 - head.length) fields []
  match pages[page.toNat]? with
  | none => .bare .badArgument
  | some body => ⟨.ok, head ++ [page] ++ enc 1 pages.length ++ body⟩

end Sys2Proof.Machine
end

