-- ==== Sys2Proof/Machine/Flags.lean ====
section
/-! DEFINITION. The fixed tables and every condition worked from the state: the warning definitions (R100), the lamp
states (R33, R34), the views (R113), the chime patterns (R123), wanted plays and candidates (R124, R129), chime busy
(R134) and the keep-awake reasons (R161). -/

namespace Sys2Proof.Machine

/-! ### Warning definitions (R100) -/

/-- R100: the acknowledgement rules. -/
inductive AckRule where
  | front
  | rear
  | either
  | none
  deriving DecidableEq, Repr

/-- R100: a warning definition. `lamp` 7 is MASTER; `again` is the repeat time in seconds. -/
structure WarnDef where
  cls        : Nat
  lamp       : Option (Fin 8)
  pattern    : Option (Fin 8)
  onFront    : Bool
  onRear     : Bool
  again      : Option Nat
  continuous : Bool
  ack        : AckRule
  latched    : Bool
  shownRear  : Bool
  hasDetail  : Bool
  deriving DecidableEq, Repr

/-- R100: the twenty-four definitions. -/
def warnDef (w : Fin 24) : WarnDef :=
  match w.val with
  | 0 => ⟨7, some 0, some 4, true, false, some 20, false, .front, false, false, false⟩
  | 1 => ⟨7, some 1, some 4, true, false, some 30, false, .front, false, false, false⟩
  | 2 => ⟨6, some 2, some 2, true, false, some 10, false, .front, false, false, false⟩
  | 3 => ⟨5, some 3, some 1, true, false, none, false, .front, false, false, false⟩
  | 4 => ⟨4, some 4, some 1, true, false, none, false, .front, false, false, false⟩
  | 5 => ⟨5, some 1, some 1, true, false, none, false, .front, false, false, false⟩
  | 6 => ⟨6, some 7, some 2, true, true, some 5, false, .either, false, true, true⟩
  | 7 => ⟨4, some 7, some 1, true, false, none, false, .front, false, false, false⟩
  | 8 => ⟨3, some 5, some 3, true, false, none, true, .none, false, false, false⟩
  | 9 => ⟨2, none, some 3, true, false, none, true, .none, false, false, false⟩
  | 10 => ⟨2, none, some 1, true, false, none, true, .none, false, false, false⟩
  | 11 => ⟨1, none, some 6, true, false, none, false, .front, false, false, false⟩
  | 12 => ⟨3, some 7, some 1, true, false, none, false, .front, false, false, false⟩
  | 13 => ⟨1, some 6, some 6, true, false, none, false, .front, false, false, true⟩
  | 14 => ⟨2, some 6, some 6, true, false, none, false, .front, false, false, true⟩
  | 15 => ⟨1, none, some 6, true, false, none, false, .front, false, false, true⟩
  | 16 => ⟨1, none, some 6, true, true, none, false, .either, true, true, true⟩
  | 17 => ⟨0, none, none, false, false, none, false, .either, false, true, false⟩
  | 18 => ⟨2, none, some 1, true, false, none, false, .front, true, false, false⟩
  | 19 => ⟨3, some 7, some 5, true, false, none, false, .front, true, true, false⟩
  | 20 => ⟨3, some 7, some 7, true, false, some 60, false, .front, true, false, false⟩
  | 21 => ⟨3, some 7, some 2, true, false, none, false, .front, false, false, false⟩
  | 22 => ⟨5, some 7, some 4, true, false, none, false, .front, false, false, false⟩
  | _ => ⟨1, some 7, some 6, true, true, none, false, .either, false, true, true⟩

/-- R109: the momentary definitions, which full acknowledgement removes. -/
def momentary (w : Fin 24) : Bool := w == 19 || w == 20

/-- R100: a definition names a speaker. -/
def WarnDef.names (d : WarnDef) (sp : Speaker) : Bool :=
  match sp with
  | .front => d.onFront
  | .rear => d.onRear

/-- R100: an entry is fully acknowledged. -/
def fullyAcked (e : Entry) : Bool :=
  match (warnDef e.w).ack with
  | .front => e.ackFront
  | .rear => e.ackRear
  | .either => e.ackFront || e.ackRear
  | .none => false

/-! ### Lamp states (R33, R34) -/

/-- R33: the state of lamp `l`, one of L0..L6: FLASHING by a class 6 or 7 entry the front has not acknowledged. -/
def lampState (list : List Entry) (l : Fin 8) : LampState :=
  let mine := list.filter fun e => (warnDef e.w).lamp == some l
  if mine.any fun e => decide (6 ≤ (warnDef e.w).cls) && !e.ackFront then .flashing
  else if mine.isEmpty then .off else .on

/-- R34: an entry counts for MASTER: its definition names MASTER or no lamp and its class is 3 or more. -/
def countsForMaster (e : Entry) : Bool :=
  ((warnDef e.w).lamp == some 7 || (warnDef e.w).lamp == none) && decide (3 ≤ (warnDef e.w).cls)

/-- R34: the state of MASTER. -/
def masterState (list : List Entry) : LampState :=
  let mine := list.filter fun e => countsForMaster e && !e.ackFront
  if mine.any fun e => decide (6 ≤ (warnDef e.w).cls) then .flashing
  else if mine.isEmpty then .off else .on

/-- R33, R34: the eight lamp states worked from the active list. -/
def lampStates (list : List Entry) : Vector LampState 8 :=
  Vector.ofFn fun l => if l = 7 then masterState list else lampState list l

/-! ### Views (R113) -/

/-- R113: what a port sees of an entry: the other console's ack and the chime states are no part of it. -/
def viewEntry (p : Port) (e : Entry) : Entry :=
  { e with
    ackFront := match p with | .rear => false | .front => e.ackFront | .service => e.ackFront
    ackRear := match p with | .front => false | .rear => e.ackRear | .service => e.ackRear
    chimeFront := none
    chimeRear := none }

/-- R113: the entries of a port's view: the whole list, or those whose definition is shown to the rear. -/
def viewList (p : Port) (list : List Entry) : List Entry :=
  match p with
  | .rear => list.filter fun e => (warnDef e.w).shownRear
  | .front => list
  | .service => list

/-- R113: a port's view of the list. -/
def view (p : Port) (list : List Entry) : List Entry := (viewList p list).map (viewEntry p)

/-! ### Chime patterns (R123) -/

/-- R123: a pattern: its note group of (divisor, duration), repeat count and gap, durations in 10 ms. -/
structure Pattern where
  notes : List (Nat × Nat)
  count : Nat
  gap   : Nat
  deriving DecidableEq, Repr

/-- R123: the eight patterns. -/
def pattern (n : Fin 8) : Pattern :=
  match n.val with
  | 0 => ⟨[(8, 2)], 1, 0⟩
  | 1 => ⟨[(19, 60)], 1, 40⟩
  | 2 => ⟨[(14, 15), (14, 15)], 1, 20⟩
  | 3 => ⟨[(8, 10)], 0, 40⟩
  | 4 => ⟨[(10, 12), (10, 12), (10, 12)], 2, 24⟩
  | 5 => ⟨[(24, 25), (18, 40)], 2, 30⟩
  | 6 => ⟨[(40, 50)], 1, 30⟩
  | _ => ⟨[(12, 15), (16, 15), (12, 15), (16, 15)], 3, 40⟩

/-- R123: a step of a pass: a note's divisor, or none for a gap, and its duration in microseconds. -/
structure PassStep where
  divisor : Option Nat
  micros  : Nat
  deriving DecidableEq, Repr

/-- R123: one note group with its gap; a gap of 0 is left out. -/
def Pattern.group (q : Pattern) : List PassStep :=
  (q.notes.map fun n => ⟨some n.1, n.2 * 10000⟩) ++ (if q.gap = 0 then [] else [⟨none, q.gap * 10000⟩])

/-- R123: the steps of one pass; a repeat count of 0 gives one group. -/
def passSteps (n : Fin 8) : List PassStep :=
  (List.replicate (max 1 (pattern n).count) (pattern n).group).flatten

/-- The duration of a step of a pattern, in microseconds. -/
def stepMicros (n : Fin 8) (i : Nat) : Nat :=
  match (passSteps n)[i]? with
  | some q => q.micros
  | none => 0

/-! ### Speakers, plays and candidates (R124, R129) -/

/-- A speaker of the chime unit. -/
def ChimeUnit.speaker (c : ChimeUnit) (sp : Speaker) : SpeakerState :=
  match sp with
  | .front => c.front
  | .rear => c.rear

/-- The chime unit with a speaker replaced. -/
def ChimeUnit.setSpeaker (c : ChimeUnit) (sp : Speaker) (x : SpeakerState) : ChimeUnit :=
  match sp with
  | .front => { c with front := x }
  | .rear => { c with rear := x }

/-- An entry's chime mark on a speaker. -/
def Entry.chime (e : Entry) (sp : Speaker) : Option ChimeMark :=
  match sp with
  | .front => e.chimeFront
  | .rear => e.chimeRear

/-- The entry with its chime mark on a speaker replaced. -/
def Entry.setChime (e : Entry) (sp : Speaker) (m : Option ChimeMark) : Entry :=
  match sp with
  | .front => { e with chimeFront := m }
  | .rear => { e with chimeRear := m }

/-- An entry's chime state on a speaker is `st`. -/
def Entry.chimeIs (e : Entry) (sp : Speaker) (st : ChimeState) : Bool :=
  match e.chime sp with
  | none => false
  | some m => m.state == st

/-- R124: the current play is still wanted by its source. -/
def wanted (s : State) (sp : Speaker) (q : Play) : Bool :=
  match q.source with
  | .warning w => s.warn.list.any fun e => e.w == w && e.chimeIs sp .playing
  | .queue => (s.chime.speaker sp).queue.any QueueEntry.playing

/-- R132: quiet stands on a speaker, so candidates of class below 5 do not count there. -/
def quietOn (s : State) (sp : Speaker) : Bool := sp == .rear && s.chime.quiet != .off

/-- R129: a candidate for a speaker: a warning or the queue entry at an index, with its class and pattern. -/
inductive Candidate where
  | warning (w : Fin 24) (cls : Nat) (pattern : Fin 8)
  | queue (index cls : Nat) (pattern : Fin 8)
  deriving DecidableEq, Repr

/-- The class of a candidate. -/
def Candidate.cls : Candidate → Nat
  | .warning _ c _ => c
  | .queue _ c _ => c

/-- The first of the highest class. -/
def bestOf : List Candidate → Option Candidate
  | [] => none
  | c :: cs =>
    match bestOf cs with
    | none => some c
    | some d => if c.cls < d.cls then some d else some c

/-- R129: the warnings whose chime state for the speaker is PENDING, in list order. -/
def warnCandidates (s : State) (sp : Speaker) : List Candidate :=
  (s.warn.list.filter fun e => e.chimeIs sp .pending).filterMap fun e =>
    (warnDef e.w).pattern.map fun q => .warning e.w (warnDef e.w).cls q

/-- R129: the first queue entry that is not marked PLAYING. -/
def queueCandidate (s : State) (sp : Speaker) : List Candidate :=
  let q := (s.chime.speaker sp).queue
  match q.findIdx? fun e => !e.playing with
  | none => []
  | some i =>
    match q[i]? with
    | none => []
    | some e => [.queue i e.cls e.pattern]

/-- R129: the best candidate: the highest class; the first in list order among warnings; a warning before the queue
entry at equal class. Under quiet, classes below 5 do not count on the rear. -/
def bestCandidate (s : State) (sp : Speaker) : Option Candidate :=
  bestOf ((warnCandidates s sp ++ queueCandidate s sp).filter fun c => !quietOn s sp || decide (5 ≤ c.cls))

/-- R134: chime busy. -/
def chimeBusy (s : State) : Bool :=
  s.chime.front.play.isSome || s.chime.rear.play.isSome || !s.chime.front.queue.isEmpty || !s.chime.rear.queue.isEmpty
    || s.warn.list.any fun e => e.chimeIs .front .pending || e.chimeIs .rear .pending

/-! ### Keep-awake reasons (R161) -/

/-- An entry of a definition stands in the list. -/
def stands (s : State) (w : Fin 24) : Bool := s.warn.list.any fun e => e.w == w

/-- R161: a W9 or W10 entry stands. -/
def keyOrLights (s : State) : Bool := stands s 9 || stands s 10

/-- R161: a keep-awake reason stands. -/
def keepAwakeReason (s : State) : Bool := chimeBusy s || nvBusy s || keyOrLights s

end Sys2Proof.Machine
end

