-- ==== Sys2Proof/Machine/ActiveList.lean ====
section
/-! DEFINITION. The active list: raise (R107), release (R108), detail sets (R106), the re-remind (R116) and what follows
each change of the list (R33, R34, R113, R115). -/

namespace Sys2Proof.Machine

/-- The entry of a definition. -/
def findEntry (w : Fin 24) (l : List Entry) : Option Entry := l.find? fun e => e.w == w

/-- The list without the entry of a definition. -/
def dropEntry (w : Fin 24) (l : List Entry) : List Entry := l.filter fun e => e.w != w

/-- The list with the entry of a definition changed in place. -/
def mapEntry (w : Fin 24) (f : Entry → Entry) (l : List Entry) : List Entry :=
  l.map fun e => if e.w = w then f e else e

/-- R107: an entry goes after the last entry of its class, before the first entry of a lower class. -/
def insertEntry (e : Entry) : List Entry → List Entry
  | [] => [e]
  | x :: xs => if (warnDef e.w).cls ≤ (warnDef x.w).cls then x :: insertEntry e xs else e :: x :: xs

/-- R107: the chime mark of a raised entry: PENDING on each speaker that its definition names. -/
def freshMark (w : Fin 24) (sp : Speaker) : Option ChimeMark :=
  if (warnDef w).pattern.isSome && (warnDef w).names sp then some ⟨.pending, none⟩ else none

/-- R107: a new entry. -/
def freshEntry (w : Fin 24) (stamp : Nat) (d : BitVec 8) : Entry where
  w := w
  cleared := false
  ackFront := false
  ackRear := false
  chimeFront := freshMark w .front
  chimeRear := freshMark w .rear
  stamp := stamp
  detail := if (warnDef w).hasDetail then some d else none

/-- R106, R107: the detail of an ACTIVE entry brought up to date: members added, or the set replaced. -/
def Entry.updateDetail (e : Entry) (add : Bool) (d : BitVec 8) : Entry :=
  { e with detail := e.detail.map fun o => if add then o ||| d else d }

/-- R107: a raise. -/
def raiseList (w : Fin 24) (add : Bool) (d : BitVec 8) (stamp : Nat) (l : List Entry) : List Entry :=
  match findEntry w l with
  | none => insertEntry (freshEntry w stamp d) l
  | some e =>
    if e.cleared then insertEntry (freshEntry w stamp d) (dropEntry w l)
    else mapEntry w (fun x => x.updateDetail add d) l

/-- R108: a RESTING chime mark becomes DONE with its timer stopped; others are left. -/
def ChimeMark.clearResting (m : ChimeMark) : ChimeMark :=
  match m.state with
  | .resting => ⟨.done, none⟩
  | .pending => m
  | .playing => m
  | .done => m

/-- R108: a latched entry that is not fully acknowledged becomes CLEARED. -/
def Entry.clear (e : Entry) : Entry :=
  { e with
    cleared := true
    chimeFront := e.chimeFront.map ChimeMark.clearResting
    chimeRear := e.chimeRear.map ChimeMark.clearResting }

/-- R108: a release. -/
def releaseList (w : Fin 24) (l : List Entry) : List Entry :=
  match findEntry w l with
  | none => l
  | some e =>
    if e.cleared then l
    else if (warnDef w).latched && !fullyAcked e then mapEntry w Entry.clear l
    else dropEntry w l

/-- The state with the active list replaced. -/
def State.withList (s : State) (l : List Entry) : State := { s with warn := { s.warn with list := l } }

/-- R104, R107: a definition is raised now; `add` tells a detail whose members are added one by one (W15, W16, W23). -/
def raise (w : Fin 24) (add : Bool) (d : BitVec 8) (s : State) : State :=
  s.withList (raiseList w add d s.clock.seconds s.warn.list)

/-- R108: a definition is released. -/
def release (w : Fin 24) (s : State) : State := s.withList (releaseList w s.warn.list)

/-- R104: a member leaves the detail set of a standing entry, which is released when the set becomes empty. -/
def dropMember (w : Fin 24) (d : BitVec 8) (s : State) : State :=
  match findEntry w s.warn.list with
  | none => s
  | some e =>
    let left := e.detail.getD 0 &&& ~~~d
    if left = 0 then release w s
    else s.withList (mapEntry w (fun x => { x with detail := some left }) s.warn.list)

/-- The set of one member: bit `i`. -/
def member (i : Nat) : BitVec 8 := (1 : BitVec 8) <<< i

/-- R116: the two item sets raise, update or release W13 and W14. -/
def handItemSets (due overdue : BitVec 8) (s : State) : State :=
  let s := if due = 0 then release 13 s else raise 13 false due s
  if overdue = 0 then release 14 s else raise 14 false overdue s

/-- R116: the re-remind of one entry. -/
def Entry.remind (e : Entry) : Entry :=
  { e with ackFront := false, ackRear := false, chimeFront := e.chimeFront.map fun _ => ⟨.pending, none⟩ }

/-- R116: the re-remind of W13 and W14 at a RUN entry. -/
def remind (s : State) : State :=
  s.withList (s.warn.list.map fun e => if e.w = 13 ∨ e.w = 14 then e.remind else e)

/-- R106: the doors open now, as the members of the door set of W6. -/
def openDoors (s : State) : BitVec 8 := ((s.meas.levels >>> 3) &&& 0x000F).setWidth 8

/-- R113: a view sequence goes up by 1. -/
def nextSeq (n : Nat) : Nat := (n + 1) % 65536

/-- R113: the view changes between two lists are counted, each at most once, and set the WARNINGS notices (log 10). -/
def countViews (old : List Entry) (s : State) : State :=
  let new := s.warn.list
  let f := view .front old != view .front new
  let r := view .rear old != view .rear new
  let v := view .service old != view .service new
  let s := { s with
    warn := { s.warn with
      seqFront := if f then nextSeq s.warn.seqFront else s.warn.seqFront
      seqRear := if r then nextSeq s.warn.seqRear else s.warn.seqRear
      seqService := if v then nextSeq s.warn.seqService else s.warn.seqService } }
  let s := if f then notify .front .warnings s else s
  if r then notify .rear .warnings s else s

/-- R33, R34, R115: the lamp states are worked afresh from the list. -/
def workLamps (s : State) : State := { s with gauge := { s.gauge with lamps := lampStates s.warn.list } }

end Sys2Proof.Machine
end

