-- ==== Sys2Proof/Machine/Items.lean ====
section
/-! DEFINITION. The service items: fresh start (R138), unknown-start (R139), consumption at the fold (R140, R141), states
and evaluation (R143, R144) and the hand-off of the item sets (R145). -/

namespace Sys2Proof.Machine

/-- R143: a used dimension: what remains, and the levels of SOON and OVERDUE. -/
structure Dimension where
  left    : Int
  soon    : Int
  overdue : Int
  deriving DecidableEq, Repr

/-- R142, R143: the dimensions that take part in an item's evaluation. -/
def dimensions (d : ItemDef) (today : Nat) (i : Item) : List Dimension :=
  (if 0 < d.km then [⟨i.dist, d.noticeKm * 1000, -(d.km * 100 : Int)⟩] else [])
    ++ (match i.due with
        | none => []
        | some day => if 0 < d.days then [⟨(day : Int) - today, d.noticeDays, -((d.days / 10 : Nat) : Int)⟩] else [])
    ++ (if 0 < d.hours then [⟨i.time, d.noticeHours * 3600, -(d.hours * 360 : Int)⟩] else [])

/-- R143: the worst dimension decides. -/
def judgeItem (dims : List Dimension) : ItemState :=
  if dims.any fun q => decide (q.left ≤ q.overdue) then .overdue
  else if dims.any fun q => decide (q.left ≤ 0) then .due
  else if dims.any fun q => decide (q.left ≤ q.soon) then .soon
  else .ok

/-- R144: the state that an evaluation gives an item. -/
def evalState (d : ItemDef) (today : Nat) (i : Item) : ItemState :=
  if d.enabled = false then .off
  else if i.state = .unknown then .unknown
  else judgeItem (dimensions d today i)

/-- R139: an item that is unknown-started. -/
def unknownItem (d : ItemDef) : Item := ⟨if d.enabled then .unknown else .off, 0, none, 0, 0, 0, 0⟩

/-- R138: the fresh start of an item; its state is then evaluated, from OFF for an item that was UNKNOWN. -/
def freshItem (d : ItemDef) (unset : Bool) (today : Nat) : Item where
  state := .off
  dist := d.km * 1000
  due := if 0 < d.days ∧ unset = false then some (today + d.days) else none
  time := d.hours * 3600
  rq := 0
  ri := 0
  re := 0

/-- An item that counts: OK, SOON, DUE or OVERDUE (R140, R141). -/
def Item.counts (i : Item) : Bool := i.state != .off && i.state != .unknown

/-- R140: the distance dimension takes a fold's metres and idle qs. -/
def Item.takeDistance (d : ItemDef) (metres idle : Nat) (cold : Bool) (i : Item) : Item :=
  let consumed := metres * (if cold then d.wc else d.wn) + i.rq
  let n := idle * d.wi + i.ri
  { i with dist := max (-99999000) (i.dist - (consumed / 4 : Nat) - (n / 240 : Nat)), rq := consumed % 4, ri := n % 240 }

/-- R141: the hours dimension takes a fold's engine qs. -/
def Item.takeHours (engine : Nat) (i : Item) : Item :=
  let e := engine + i.re
  { i with time := max (-3600000) (i.time - (e / 4 : Nat)), re := e % 4 }

/-- R140, R141: a fold's delivery to an item. -/
def Item.take (d : ItemDef) (metres idle engine : Nat) (cold : Bool) (i : Item) : Item :=
  if i.counts then
    let i := if 0 < d.km then i.takeDistance d metres idle cold else i
    if 0 < d.hours then i.takeHours engine else i
  else i

/-- The items with those of given states as a set, bit i for SVi. -/
def itemSet (items : Vector Item 8) (f : Item → Bool) : BitVec 8 :=
  (List.finRange 8).foldl (fun n k => if f items[k] then n ||| member k.val else n) 0

/-- R145: the enabled items in DUE or UNKNOWN. -/
def dueSet (items : Vector Item 8) : BitVec 8 := itemSet items fun i => i.state == .due || i.state == .unknown

/-- R145: the items in OVERDUE. -/
def overdueSet (items : Vector Item 8) : BitVec 8 := itemSet items fun i => i.state == .overdue

/-- R144: the items after an evaluation. -/
def evalItems (w : Settings) (today : Nat) (items : Vector Item 8) : Vector Item 8 :=
  Vector.ofFn fun k => { items[k] with state := evalState w.items[k] today items[k] }

/-- Some item's state differs. -/
def statesDiffer (a b : Vector Item 8) : Bool := (List.finRange 8).any fun k => (a[k]).state != (b[k]).state

/-- R144, R145: a table is stored; the SERVICE notice is set when a state differs from the table before the event. -/
def storeItems (old new : Vector Item 8) (s : State) : State :=
  notifyBothIf (statesDiffer old new) .service { s with service := sealItems new }

/-- R144, R145: the items given are evaluated; `old` is the table before the event, for the SERVICE notice; the sets are
handed to the warning unit. -/
def evaluateFrom (old items : Vector Item 8) (s : State) : State :=
  let new := evalItems s.settings.work (today s) items
  handItemSets (dueSet new) (overdueSet new) (storeItems old new s)

/-- R144: an evaluation of the table as it stands. -/
def evaluate (s : State) : State := evaluateFrom s.service.items s.service.items s

/-- R140, R141, R144: a fold's delivery to the service table. -/
def deliverItems (metres idle engine : Nat) (cold : Bool) (s : State) : State :=
  evaluateFrom s.service.items
    (Vector.ofFn fun k => (s.service.items[k]).take s.settings.work.items[k] metres idle engine cold) s

/-- R142: at the first set, counted items whose due day is absent get one. -/
def firstSetItem (d : ItemDef) (today : Nat) (i : Item) : Item :=
  if i.counts = true ∧ 0 < d.days ∧ i.due = none then { i with due := some (today + d.days) } else i

/-- R142: the first set, with its evaluation. -/
def firstSet (s : State) : State :=
  evaluateFrom s.service.items
    (Vector.ofFn fun k => firstSetItem s.settings.work.items[k] (today s) s.service.items[k]) s

end Sys2Proof.Machine
end

