-- ==== Sys2Proof/Machine/NvOps.lean ====
section
/-! DEFINITION. The nonvolatile array: the odometer slot log (R80, R81) and the settings block (R182, R184, R185). -/

namespace Sys2Proof.Machine

/-- R80: a slot is valid. -/
def slotValid (no : Nat) (x : Slot) : Bool := x.check == slotCheck no x.distance x.seq && decide (x.distance ≤ 9999999)

/-- R80: a slot with sequence `b` is newer than one with sequence `a`. -/
def newer (b a : Nat) : Bool :=
  let d := (b + 65536 - a) % 65536
  decide (1 ≤ d) && decide (d ≤ 32767)

/-- The valid slots with their numbers, lowest number first. -/
def validSlots (slots : Vector Slot 32) : List (Slot × Nat) := slots.toList.zipIdx.filter fun q => slotValid q.2 q.1

/-- The first slot of the highest sequence. -/
def highestSeq : List (Slot × Nat) → Option (Slot × Nat)
  | [] => none
  | q :: qs =>
    match highestSeq qs with
    | none => some q
    | some r => if q.1.seq < r.1.seq then some r else some q

/-- R80: the newest valid slot: the lowest-numbered valid slot than which no valid slot is newer, or, where every valid
slot has a newer one, that of the highest sequence. -/
def newestSlot (slots : Vector Slot 32) : Option (Slot × Nat) :=
  let v := validSlots slots
  match v.find? fun q => v.all fun r => !newer r.1.seq q.1.seq with
  | some q => some q
  | none => highestSeq v

/-- R82: the log position that a scan gives. -/
def scanLog (slots : Vector Slot 32) : Option LogPos := (newestSlot slots).map fun q => ⟨q.2, q.1.seq⟩

/-- R81: the slot and sequence that a write takes from the log position. -/
def nextSlot (pos : Option LogPos) : LogPos :=
  match pos with
  | none => ⟨0, 0⟩
  | some q => ⟨(q.slot + 1) % 32, (q.seq + 1) % 65536⟩

/-- R185: when the array is idle and no main-clock fault stands, a pending write goes in flight, a slot write first. -/
def startWrite (s : State) : State :=
  if clocked s && s.nv.flight.isNone then
    match s.nv.pendingSlot with
    | some snap =>
      let q := nextSlot s.store.logPos
      { s with nv := { s.nv with flight := some (.slot snap q.slot q.seq slotWritePeriod), pendingSlot := none } }
    | none =>
      if s.nv.pendingCommit then
        { s with nv := { s.nv with flight := some (.commit s.settings.work commitPeriod), pendingCommit := false } }
      else s
  else s

/-- R81, R185: a write in flight is cut: its slot, or the settings block, fails its check (log 12). -/
def cutFlight (s : State) : State :=
  match s.nv.flight with
  | none => s
  | some (.slot snap no seq _) =>
    { s with nv := { s.nv with
        flight := none
        slots := s.nv.slots.setIfInBounds no ⟨snap, seq, word16 (slotCheck no snap seq + 1)⟩ } }
  | some (.commit image _) =>
    { s with nv := { s.nv with flight := none, block := some ⟨image, word16 (blockCheck image + 1)⟩ } }

/-- R182: the stored settings block, when it is good. -/
def goodBlock (nv : NvArray) : Option Settings :=
  match nv.block with
  | none => none
  | some b => if b.check = blockCheck b.image ∧ b.image.good = true then some b.image else none

/-- R81: a slot write completes. -/
def slotWritten (s : State) : State :=
  match s.nv.flight with
  | some (.slot snap no seq _) =>
    { s with
      nv := { s.nv with flight := none, slots := s.nv.slots.setIfInBounds no ⟨snap, seq, slotCheck no snap seq⟩ }
      store := { s.store with logPos := some ⟨no, seq⟩ } }
  | some (.commit _ _) => s
  | none => s

/-- R184: a commit completes; where the read-back does not agree, whether the block holds its check is a free value
(log 12). -/
def commitWritten (agrees : Bool) (s : State) : State :=
  match s.nv.flight with
  | some (.commit image _) =>
    if agrees then
      notifyBoth .status { s with
        nv := { s.nv with flight := none, block := some ⟨image, blockCheck image⟩ }
        settings := { s.settings with commit := .ok, defaulted := false } }
    else
      notifyBoth .status { s with
        nv := { s.nv with
          flight := none
          block := some ⟨image,
            if Config.failedBlockHolds s.own.free then blockCheck image else word16 (blockCheck image + 1)⟩ }
        settings := { s.settings with commit := .failed }
        own := { s.own with free := s.own.free + 1 } }
  | some (.slot _ _ _ _) => s
  | none => s

/-- R182: the settings working copy changed, with its check word recomputed in the same step. -/
def State.withWork (s : State) (f : Settings → Settings) : State :=
  { s with settings := { s.settings with work := f s.settings.work, check := settingsCheck (f s.settings.work) } }

end Sys2Proof.Machine
end

