-- ==== Sys2Proof/Machine/RecordOps.lean ====
section
/-! DEFINITION. The records: clear (R58), verification, damage and reload (R61, R76, R77), a fold's addition (R65, R66),
marks of the clock supervisor (R78), derived times (R68) and record replies (R67, R186). -/

namespace Sys2Proof.Machine

/-- The three trip records. -/
inductive TripNo where
  | a
  | b
  | p
  deriving DecidableEq, Repr

/-- The record number of a trip (section 4.1). -/
def TripNo.toNat : TripNo → Nat
  | .a => 1
  | .b => 2
  | .p => 3

/-- The record of a number. -/
def recordOf (n : Nat) : Option RecordNo :=
  match n with
  | 0 => some .odo
  | 1 => some .a
  | 2 => some .b
  | 3 => some .p
  | 4 => some .charter
  | _ => none

/-- The number of a record. -/
def recordNumber : RecordNo → Nat
  | .odo => 0
  | .a => 1
  | .b => 2
  | .p => 3
  | .charter => 4

/-- A trip of the store. -/
def RecordStore.trip (r : RecordStore) : TripNo → Trip
  | .a => r.a
  | .b => r.b
  | .p => r.p

/-- The store with a trip replaced. -/
def RecordStore.setTrip (r : RecordStore) (t : TripNo) (x : Trip) : RecordStore :=
  match t with
  | .a => { r with a := x }
  | .b => { r with b := x }
  | .p => { r with p := x }

/-- The state with the store changed. -/
def State.withStore (s : State) (f : RecordStore → RecordStore) : State := { s with store := f s.store }

/-- R58: a record that starts is cleared, VALID. -/
def clearedBody (now odo : Nat) (restarted : Bool) : TripBody := ⟨false, 0, 0, 0, 0, now, odo, restarted, false, false⟩

/-- R61, R76: the check word of a trip is verified; a failure makes a VALID trip DAMAGED and raises W16. -/
def verifyTrip (t : TripNo) (s : State) : State :=
  let x := s.store.trip t
  if x.body.damaged = false ∧ x.check ≠ tripCheck t.toNat x.body then
    raise 16 true (member t.toNat)
      (s.withStore fun r => r.setTrip t (TripBody.seal t.toNat { x.body with damaged := true }))
  else s

/-- R61, R76: the check word of the charter is verified; a RUNNING charter that fails is closed. -/
def verifyCharter (s : State) : State :=
  let c := s.store.charter
  if c.body.damaged = false ∧ c.check ≠ charterCheck c then
    let d : Charter := { c with body := { c.body with damaged := true } }
    let e : Charter :=
      if c.phase = .running then
        { d with phase := .closed, endStamp := some s.clock.seconds, ackFront := false, ackRear := false }
      else d
    raise 16 true (member 4)
      (notifyBothIf (decide (c.phase = .running)) .charter (s.withStore fun r => { r with charter := e.seal }))
  else s

/-- R77: ODO is reloaded from the slot log, and the trips and a RUNNING charter are cleared. -/
def reloadOdo (s : State) : State :=
  let dist := match newestSlot s.nv.slots with | none => 0 | some q => q.1.distance * 100
  let body := clearedBody s.clock.seconds dist true
  let c := s.store.charter
  let running := decide (c.phase = .running)
  let c' : Charter := if running then Charter.seal ⟨body, .vacant, none, false, false, 0⟩ else c
  raise 16 true (member 0)
    (notifyBothIf running .charter (s.withStore fun r => { r with
      odo := Odo.seal ⟨dist, true, false, false, 0⟩
      a := body.seal 1
      b := body.seal 2
      p := body.seal 3
      charter := c' }))

/-- R61, R77: the check word of ODO is verified; a failure reloads it. -/
def verifyOdo (s : State) : State := if s.store.odo.check ≠ odoCheck s.store.odo then reloadOdo s else s

/-- R61: the check word of a record is verified. -/
def verifyRecord (r : RecordNo) (s : State) : State :=
  match r with
  | .odo => verifyOdo s
  | .a => verifyTrip .a s
  | .b => verifyTrip .b s
  | .p => verifyTrip .p s
  | .charter => verifyCharter s

/-- R78: all five records, ODO first. -/
def verifyAll (s : State) : State :=
  verifyCharter (verifyTrip .p (verifyTrip .b (verifyTrip .a (verifyOdo s))))

/-! ### A fold's addition (R65, R66) -/

/-- R65: what a counting record takes from a fold. -/
def TripBody.take (metres ml run mov : Nat) (t : TripBody) : TripBody :=
  { t with
    distance := (t.distance + metres) % odoModulus
    fuel := min fuelCeiling (t.fuel + ml)
    runQs := min qsCeiling (t.runQs + run)
    movingQs := min qsCeiling (t.movingQs + mov) }

/-- R65: a fold touches a trip: its check is verified, and a VALID trip takes the result. -/
def foldTrip (metres ml run mov : Nat) (t : TripNo) (s : State) : State :=
  let s := verifyTrip t s
  let x := s.store.trip t
  if x.body.damaged then s
  else s.withStore fun r => r.setTrip t (TripBody.seal t.toNat (x.body.take metres ml run mov))

/-- R46, R65: a fold touches a RUNNING charter; one that is RUNNING and VALID takes the result. -/
def foldCharter (metres ml run mov : Nat) (s : State) : State :=
  if s.store.charter.phase = .running then
    let s := verifyCharter s
    let c := s.store.charter
    if c.phase = .running ∧ c.body.damaged = false then
      s.withStore fun r => { r with charter := Charter.seal { c with body := c.body.take metres ml run mov } }
    else s
  else s

/-- R66: the distance crosses a multiple of 1,000 m, the wrap included. -/
def crosses (old new : Nat) : Bool := decide (old / 1000 ≠ new / 1000)

/-- R65, R66: a fold's metres go into ODO. -/
def foldOdo (metres : Nat) (s : State) : State :=
  let s := verifyOdo s
  let o := s.store.odo
  let new := (o.distance + metres) % odoModulus
  let open' := o.allowanceOpen && decide (new < 100000)
  let s' := s.withStore fun r => { r with odo := Odo.seal { o with distance := new, allowanceOpen := open' } }
  if crosses o.distance new then queueSlotWrite s' else s'

/-- R65: a fold's result goes into the records. -/
def foldRecords (metres ml run mov : Nat) (s : State) : State :=
  foldCharter metres ml run mov
    (foldTrip metres ml run mov .p (foldTrip metres ml run mov .b (foldTrip metres ml run mov .a (foldOdo metres s))))

/-! ### Marks (R78) -/

/-- A record with the marks of the clock supervisor set. -/
def TripBody.mark (m : HeldMarks) (t : TripBody) : TripBody :=
  { t with timeDegraded := t.timeDegraded || m.timeDegraded, fuelIncomplete := t.fuelIncomplete || m.fuelIncomplete }

/-- R78: marks are set in a VALID trip; one that already carries them is left as it is. -/
def markTrip (m : HeldMarks) (t : TripNo) (r : RecordStore) : RecordStore :=
  let x := r.trip t
  if x.body.damaged = true ∨ x.body.mark m = x.body then r else r.setTrip t (TripBody.seal t.toNat (x.body.mark m))

/-- R78: marks are set in the charter if it is RUNNING. -/
def markCharter (m : HeldMarks) (r : RecordStore) : RecordStore :=
  if r.charter.phase = .running ∧ r.charter.body.damaged = false ∧ r.charter.body.mark m ≠ r.charter.body then
    { r with charter := Charter.seal { r.charter with body := r.charter.body.mark m } }
  else r

/-- R78: marks are set in the trips and the RUNNING charter. -/
def applyMarks (m : HeldMarks) (s : State) : State :=
  s.withStore fun r => markCharter m (markTrip m .p (markTrip m .b (markTrip m .a r)))

/-- R64: a mark that comes while a grant is held, or behind another held mark, waits; otherwise it is applied at once. -/
def handMarks (m : HeldMarks) (s : State) : State :=
  if s.store.grant.isSome then
    s.withStore fun r => { r with held :=
      ⟨r.held.timeDegraded || m.timeDegraded, r.held.fuelIncomplete || m.fuelIncomplete⟩ }
  else applyMarks m s

/-! ### Reading (R45, R67, R68) -/

/-- R45: the metres that a fold would give now. -/
def trialMetres (s : State) : Nat := (s.fold.buf.pulses * 1000 + s.fold.rd) / s.settings.work.kr

/-- R45: the millilitres that a fold would give now. -/
def trialMl (s : State) : Nat := (s.fold.buf.ticks * s.settings.work.kf + s.fold.rf) / 1000000

/-- R58, R60: the body of a trip or of the charter; ODO has none. -/
def bodyOf (s : State) : RecordNo → Option TripBody
  | .odo => none
  | .a => some s.store.a.body
  | .b => some s.store.b.body
  | .p => some s.store.p.body
  | .charter => some s.store.charter.body

/-- R67: a record whose distance and fuel are forwarded. -/
def forwards (s : State) : RecordNo → Bool
  | .odo => true
  | .a => !s.store.a.body.damaged
  | .b => !s.store.b.body.damaged
  | .p => !s.store.p.body.damaged
  | .charter => s.store.charter.phase == .running && !s.store.charter.body.damaged

/-- R67: the distance as reported. -/
def reportedDistance (s : State) (r : RecordNo) : Nat :=
  let stored := match bodyOf s r with | none => s.store.odo.distance | some t => t.distance
  if forwards s r then (stored + trialMetres s) % odoModulus else stored

/-- R67: the fuel as reported. -/
def reportedFuel (s : State) (r : RecordNo) : Nat :=
  match bodyOf s r with
  | none => 0
  | some t => if forwards s r then min fuelCeiling (t.fuel + trialMl s) else t.fuel

/-- R68: (now - start) modulo 2^32. -/
def sinceStart (now start : Nat) : Nat := (now + clockModulus - start % clockModulus) % clockModulus

/-- R68: the elapsed seconds. -/
def elapsed (s : State) (r : RecordNo) : Nat :=
  match bodyOf s r with
  | none => 0
  | some t =>
    if r = .charter ∧ s.store.charter.phase ≠ .running then
      match s.store.charter.endStamp with
      | none => 0
      | some e => sinceStart e t.start
    else sinceStart s.clock.seconds t.start

/-- R68: the waiting seconds. -/
def waiting (s : State) (r : RecordNo) : Nat :=
  match bodyOf s r with
  | none => 0
  | some t => elapsed s r - t.movingQs / 4

/-- A number of bits, lowest first. -/
def packBits (bs : List Bool) : Nat := bs.foldr (fun b n => b.toNat + 2 * n) 0

/-- R186: the marks byte of a record. -/
def recordMarks (s : State) (r : RecordNo) : Nat :=
  match bodyOf s r with
  | none => packBits [false, false, false, false, s.store.odo.reloaded, s.store.odo.preset, s.store.odo.allowanceOpen, false]
  | some t => packBits [t.damaged, t.restarted, t.timeDegraded, t.fuelIncomplete, false, false, false,
      r == .charter && s.store.charter.endStamp.isSome]

/-- R186: the phase and acks byte. -/
def phaseAcks (s : State) (r : RecordNo) : Nat :=
  match r with
  | .charter => s.store.charter.phase.toNat + 4 * s.store.charter.ackFront.toNat + 8 * s.store.charter.ackRear.toNat
  | .odo => 16 * s.store.logPos.isNone.toNat
  | .a => 0
  | .b => 0
  | .p => 0

/-- The first five bytes of a record reply. -/
def recordHead (s : State) (r : RecordNo) (page : Nat) : List Byte :=
  enc 1 (recordNumber r) ++ enc 1 page ++ enc 1 2 ++ enc 1 (recordMarks s r) ++ enc 1 (phaseAcks s r)

/-- R186: page 0 of a record reply. -/
def recordPage0 (s : State) (r : RecordNo) : List Byte :=
  let run := match bodyOf s r with | none => 0 | some t => t.runQs
  let mov := match bodyOf s r with | none => 0 | some t => t.movingQs
  recordHead s r 0 ++ enc 4 (reportedDistance s r) ++ enc 4 (reportedFuel s r) ++ enc 4 run ++ enc 4 mov
    ++ enc 4 (elapsed s r) ++ enc 4 (waiting s r)

/-- R186: page 1 of a record reply. -/
def recordPage1 (s : State) (r : RecordNo) : List Byte :=
  let start := match bodyOf s r with | none => 0 | some t => t.start
  let mark := match bodyOf s r with | none => 0 | some t => t.odoMark
  let fin := if r = .charter then s.store.charter.endStamp.getD 0 else 0
  let newest := if r = .odo then newestSlot s.nv.slots else none
  let slotDist := match newest with | none => 0 | some q => q.1.distance
  let slotSeq := match newest with | none => 0 | some q => q.1.seq
  recordHead s r 1 ++ enc 4 start ++ enc 4 fin ++ enc 4 mark ++ enc 4 slotDist ++ enc 2 slotSeq ++ enc 2 0

/-- R63: a record answered as a read, with a status. -/
def recordReply (st : Status) (r : RecordNo) (s : State) : Reply := ⟨st, recordPage0 s r⟩

end Sys2Proof.Machine
end

