-- ==== Sys2Proof/Machine/FoldOps.lean ====
section
/-! DEFINITION. The fold (R43 to R48, R52) and the tank model's clamp and snap (R51, R54). -/

namespace Sys2Proof.Machine

/-- The state with the fold engine changed and its check word recomputed (R38). -/
def State.withFold (s : State) (f : FoldEngine → FoldEngine) : State := { s with fold := (f s.fold).seal }

/-- The state with a part of the fold engine changed that its check word does not cover. -/
def State.withFoldBare (s : State) (f : FoldEngine → FoldEngine) : State := { s with fold := f s.fold }

/-- R47: the window ring takes a fold. -/
def takeWindow (metres ml qs : Nat) (w : List WindowEntry) : List WindowEntry :=
  if 1 ≤ qs then (if 8 ≤ w.length then w.drop 1 else w) ++ [⟨metres, ml, qs⟩]
  else
    match w.getLast? with
    | none => [⟨metres, ml, 0⟩]
    | some e => w.dropLast ++ [⟨min 65535 (e.metres + metres), min 67109 (e.ml + ml), e.qs⟩]

/-- R48: the open segment with a fold added. -/
def growSegment (metres ml : Nat) (g : Segment) : Segment := ⟨g.metres + metres, min 200000 (g.ml + ml)⟩

/-- R48: the closed segments after a fold. -/
def takeClosed (g : Segment) (closed : List Segment) : List Segment :=
  if 5000 ≤ g.metres then (if 10 ≤ closed.length then closed.drop 1 else closed) ++ [g] else closed

/-- R48: the open segment after a fold. -/
def takeOpen (g : Segment) : Segment := if 5000 ≤ g.metres then ⟨0, 0⟩ else g

/-- The fold buffer with nothing pending. -/
def FoldBuffer.empty : FoldBuffer := ⟨0, 0, 0, 0, 0, 0, 0, false⟩

/-- R43, R44, R47, R48, R52, R46: what a fold of `metres` and `ml` leaves in the fold engine itself. -/
def FoldEngine.finish (kr kf metres ml : Nat) (f : FoldEngine) : FoldEngine :=
  let g := growSegment metres ml f.seg
  { f with
    buf := .empty
    rd := f.buf.pulses * 1000 + f.rd - metres * kr
    rf := f.buf.ticks * kf + f.rf - ml * 1000000
    window := takeWindow metres ml f.buf.elapsed f.window
    seg := takeOpen g
    closed := takeClosed g f.closed
    tank := { f.tank with q := f.tank.q - ml } }

/-- R46: one fold, delivered to every destination. -/
def performFold (s : State) : State :=
  let b := s.fold.buf
  let metres := trialMetres s
  let ml := trialMl s
  let s := foldRecords metres ml b.run b.moving s
  let s := deliverItems metres b.idle b.engine b.cold s
  s.withFold (FoldEngine.finish s.settings.work.kr s.settings.work.kf metres ml)

/-- R46: what came after a grant, in a fold buffer: the edges and ticks beyond those that the grant found, and what the fold
expiries have counted since. -/
def FoldBuffer.sinceGrant (b : FoldBuffer) (g : Grant) : FoldBuffer :=
  { pulses := b.pulses - g.found.pulses, ticks := b.ticks - g.found.ticks, elapsed := g.since.elapsed, run := g.since.run
    moving := g.since.moving, engine := g.since.engine, idle := g.since.idle, cold := g.since.cold }

/-- R41, R46: a command fold: a fold of what its grant found; what came after the grant waits for the next fold (log 8). -/
def commandFold (s : State) : State :=
  match s.store.grant with
  | none => performFold s
  | some g =>
    (performFold (s.withFoldBare fun f => { f with buf := g.found })).withFold fun f =>
      { f with buf := s.fold.buf.sinceGrant g }

/-- R51: the capacity of both tanks. -/
def capacity (s : State) : Nat := s.settings.work.cm + s.settings.work.ca

/-- R51: Q is clamped to the capacity. -/
def clampTank (s : State) : State :=
  if capacity s < s.fold.tank.q then s.withFold fun f => { f with tank := { f.tank with q := capacity s } } else s

/-- R51: the sum S of the two fuel values. -/
def senderSum (s : State) : Int := s.meas.channels[0].value + s.meas.channels[1].value

/-- A fuel channel is in FAULT. -/
def fuelFault (s : State) : Bool := s.meas.channels[0].state == .fault || s.meas.channels[1].state == .fault

/-- R51: a value clamped to 0..Cm + Ca. -/
def clampQ (s : State) (v : Int) : Nat := min (capacity s) v.toNat

/-- R54: the end of a fast window at the tank model. -/
def fastWindowEnd (s : State) : State :=
  if fuelFault s then s
  else if s.fold.tank.settled = false ∨ 5000 < (senderSum s - s.fold.tank.q).natAbs then
    notifyBoth .status (s.withFold fun f => { f with tank := ⟨clampQ s (senderSum s), true, true, true, true⟩ })
  else s

end Sys2Proof.Machine
end

