-- ==== Sys2Proof/Machine/Arbiter.lean ====
section
/-! DEFINITION. The arbiter of the record store (R62, R63, R64). -/

namespace Sys2Proof.Machine

/-- The held marks of the clock supervisor stand (R64). -/
def marksHeld (s : State) : Bool := s.store.held.timeDegraded || s.store.held.fuelIncomplete

/-- A port waits for the grant: it holds a request awaiting execution. -/
def portWaits (s : State) (p : Port) : Bool := (waitingRequest s p).isSome

/-- R74: a W23 entry stands with the rear link in its detail. -/
def rearSilentStands (s : State) : Bool :=
  s.warn.list.any fun e => e.w == 23 && (e.detail.getD 0).getLsbD 1

/-- R62: the grant that a port is given now, with what a rule asks for as it is at the grant (log 8). -/
def newGrant (p : Port) (s : State) : Grant where
  holder := p
  faultSeen := s.clock.mainFault
  rearSilent := rearSilentStands s
  now := s.clock.seconds
  found := s.fold.buf
  since := .zero

/-- R62: the store is granted to the first waiting port in the port order, which moves to the back. FOLD comes first, so
no port is granted while FOLD waits; held marks are applied before the next grant (R64). -/
def arbitrate (s : State) : State :=
  if alive s && s.store.grant.isNone && !s.fold.waiting && !marksHeld s then
    match s.store.order.find? (portWaits s) with
    | none => s
    | some p =>
      { s with store := { s.store with
          grant := some (newGrant p s), order := s.store.order.filter (· != p) ++ [p] } }
  else s

/-- R62: FOLD is granted: it waits, the store is free and no held mark is to be applied first. A fold that waits when a
main-clock fault begins is granted and delivered during the fault too, to the service items as to the rest: R42 says so, and
R150 speaks of the folds that no expiry asks for (log 33). -/
def foldGranted (s : State) : Bool := alive s && s.fold.waiting && s.store.grant.isNone && !marksHeld s

/-- R62: a command's work under its grant; the grant ends when the reply has been handed to its port. -/
def runGranted (p : Port) (faultSeen : Bool) (work : Bool → State → Answer) (s : State) : State :=
  let a := work faultSeen s
  let s := deliver p a.2 a.1
  { s with store := { s.store with grant := none } }

/-- A request that comes to a port that holds another: discarded on a link (R171), answered BUSY on the service line
(R179). -/
def turnAway (p : Port) (s : State) : State :=
  match p with
  | .front => s
  | .rear => s
  | .service => serviceReply (.bare .busy) s

/-- R63: a command that needs the grant. At arrival `early` may refuse it; it then waits in its port, and it does its work
under its grant, in this step when the store is free for it and otherwise when its row comes after the grant (log 8). -/
def underGrant (p : Port) (r : Request) (early : State → Option Status) (work : Bool → State → Answer) (s : State) :
    State :=
  if alive s then
    match waitingRequest s p with
    | some r' =>
      if r' = r then
        match s.store.grant with
        | some g => if g.holder = p then runGranted p g.faultSeen work s else s
        | none => s
      else turnAway p s
    | none =>
      match early s with
      | some st => deliver p (.bare st) s
      | none =>
        let s := arbitrate (holdRequest p r s)
        match s.store.grant with
        | some g => if g.holder = p then runGranted p g.faultSeen work s else s
        | none => s
  else s

end Sys2Proof.Machine
end

