-- ==== Sys2Proof/Machine/Needles.lean ====
section
/-! DEFINITION. The gauges: targets and slew (R22, R25), coil duties (R23), and the mode changes of sweep, manual, return
and park entry (R26 to R31). -/

namespace Sys2Proof.Machine

/-! ### Coil drive (R23) -/

/-- round(255 sin(k/4 degrees)), half up, for k = 0..360. -/
def sineTable : List Nat :=
  [0, 1, 2, 3, 4, 6, 7, 8, 9, 10, 11, 12, 13, 14, 16, 17, 18, 19, 20, 21, 22, 23, 24, 26]
    ++ [27, 28, 29, 30, 31, 32, 33, 34, 35, 37, 38, 39, 40, 41, 42, 43, 44, 45, 46, 48, 49, 50, 51, 52]
    ++ [53, 54, 55, 56, 57, 58, 60, 61, 62, 63, 64, 65, 66, 67, 68, 69, 70, 71, 72, 73, 75, 76, 77, 78]
    ++ [79, 80, 81, 82, 83, 84, 85, 86, 87, 88, 89, 90, 91, 92, 93, 94, 96, 97, 98, 99, 100, 101, 102, 103]
    ++ [104, 105, 106, 107, 108, 109, 110, 111, 112, 113, 114, 115, 116, 117, 118, 119, 120, 121, 122, 123, 124, 125, 126, 127]
    ++ [128, 128, 129, 130, 131, 132, 133, 134, 135, 136, 137, 138, 139, 140, 141, 142, 143, 144, 144, 145, 146, 147, 148, 149]
    ++ [150, 151, 152, 153, 153, 154, 155, 156, 157, 158, 159, 160, 160, 161, 162, 163, 164, 165, 166, 166, 167, 168, 169, 170]
    ++ [171, 171, 172, 173, 174, 175, 176, 176, 177, 178, 179, 180, 180, 181, 182, 183, 183, 184, 185, 186, 186, 187, 188, 189]
    ++ [190, 190, 191, 192, 192, 193, 194, 195, 195, 196, 197, 197, 198, 199, 200, 200, 201, 202, 202, 203, 204, 204, 205, 206]
    ++ [206, 207, 208, 208, 209, 210, 210, 211, 211, 212, 213, 213, 214, 214, 215, 216, 216, 217, 217, 218, 219, 219, 220, 220]
    ++ [221, 221, 222, 222, 223, 224, 224, 225, 225, 226, 226, 227, 227, 228, 228, 229, 229, 230, 230, 231, 231, 232, 232, 232]
    ++ [233, 233, 234, 234, 235, 235, 236, 236, 236, 237, 237, 238, 238, 238, 239, 239, 240, 240, 240, 241, 241, 241, 242, 242]
    ++ [243, 243, 243, 244, 244, 244, 244, 245, 245, 245, 246, 246, 246, 247, 247, 247, 247, 248, 248, 248, 248, 249, 249, 249]
    ++ [249, 250, 250, 250, 250, 251, 251, 251, 251, 251, 252, 252, 252, 252, 252, 252, 253, 253, 253, 253, 253, 253, 253, 253]
    ++ [254, 254, 254, 254, 254, 254, 254, 254, 254, 254, 255, 255, 255, 255, 255, 255, 255, 255, 255, 255, 255, 255, 255, 255]
    ++ [255]

/-- The size of the sine of `n` quarter-degrees, 0..1439, as a duty. -/
def sineDuty (n : Nat) : Nat :=
  let m := n % 720
  (sineTable[if m ≤ 360 then m else 720 - m]?).getD 0

/-- R23: the duty and polarity of a coil whose sine is that of `n` quarter-degrees; a duty of 0 is forward. -/
def coil (n : Nat) : Duty :=
  let d := sineDuty (n % 1440)
  ⟨d, decide (720 < n % 1440) && decide (d ≠ 0)⟩

/-- R23: the duty pair for a commanded angle and a coil offset. -/
def dutyPair (commanded offset : Nat) : DutyPair := ⟨coil (commanded + offset), coil (commanded + offset + 360)⟩

/-- The pair (0, 0). -/
def DutyPair.zero : DutyPair := ⟨⟨0, false⟩, ⟨0, false⟩⟩

/-! ### The gauge step (R22) -/

/-- The slew limits (table at the head of chapter 2). -/
def slewLimit (g : Fin 6) : Nat :=
  match g.val with
  | 0 => 12
  | 1 => 24
  | 2 => 1
  | 3 => 2
  | 4 => 6
  | _ => 2

/-- R22: the return slew. -/
def returnSlew : Nat := 16

/-- The input of a gauge; `none` for a gauge fed by a channel in FAULT (R25). -/
def gaugeInput (s : State) (g : Fin 6) : Option Int :=
  let ch (c : Channel) : Option Int := if c.state = .fault then none else some c.value
  match g.val with
  | 0 => some s.meas.speed
  | 1 => some s.meas.rpm
  | 2 => some (s.fold.tank.q / 100 : Nat)
  | 3 => ch s.meas.channels[2]
  | 4 => ch s.meas.channels[3]
  | _ => ch s.meas.channels[4]

/-- R22, R25: the target of a gauge by its mode. -/
def gaugeTarget (s : State) (g : Fin 6) (x : Gauge) : Nat :=
  match x.mode with
  | .follow =>
    match gaugeInput s g with
    | none => 0
    | some v => (Curve.apply s.settings.work.gauges[g] v).toNat
  | .sweep => match x.phase with | .up => 1079 | .down => 0
  | .manual => x.manualAngle
  | .ret => 0
  | .off => 0

/-- R22: the commanded angle moves toward the target by at most the slew. -/
def slew (limit commanded target : Nat) : Nat :=
  if commanded ≤ target then min target (commanded + limit) else max target (commanded - limit)

/-- R22: one step of one gauge: its target, its commanded angle, its staged pair; a return that ends at 0 goes OFF. -/
def stepGauge (s : State) (g : Fin 6) (x : Gauge) : Gauge :=
  let target := gaugeTarget s g x
  match x.mode with
  | .off => { x with target := 0, commanded := 0, staged := .zero, fresh := true }
  | .ret =>
    let c := slew returnSlew x.commanded target
    if c = 0 then { x with mode := .off, target := 0, commanded := 0, staged := .zero, fresh := true }
    else { x with target := target, commanded := c, staged := dutyPair c s.settings.work.offsets[g], fresh := true }
  | .follow | .sweep | .manual =>
    let c := slew (slewLimit g) x.commanded target
    { x with target := target, commanded := c, staged := dutyPair c s.settings.work.offsets[g], fresh := true }

/-- Every gauge changed by a function of itself. -/
def mapGauges (f : Gauge → Gauge) (gs : Vector Gauge 6) : Vector Gauge 6 := Vector.ofFn fun g => f gs[g]

/-- The state with the gauges changed. -/
def State.withGauges (s : State) (f : Gauge → Gauge) : State :=
  { s with gauge := { s.gauge with gauges := mapGauges f s.gauge.gauges } }

/-- The gauges in SWEEP all stand in a phase at an angle. -/
def sweepAt (gs : Vector Gauge 6) (ph : SweepPhase) (angle : Nat) : Bool :=
  gs.toList.all fun x => x.mode != .sweep || (x.phase == ph && x.commanded == angle)

/-- R27: the end of a sweep phase, looked at after all six have stepped. -/
def endSweepPhase (gs : Vector Gauge 6) : Vector Gauge 6 :=
  if sweepAt gs .up 1079 then mapGauges (fun x => if x.mode = .sweep then { x with phase := .down } else x) gs
  else if sweepAt gs .down 0 then mapGauges (fun x => if x.mode = .sweep then { x with mode := .follow } else x) gs
  else gs

/-- R29: a gauge in MANUAL is released: to FOLLOW, or to RETURN while the unit is DARK. -/
def Gauge.releaseManual (live : Bool) (x : Gauge) : Gauge :=
  if x.mode = .manual then { x with mode := if live then .follow else .ret } else x

/-- R29: every gauge in MANUAL is released, and the silence count stops. -/
def releaseAllManual (s : State) : State :=
  let s := s.withGauges (Gauge.releaseManual s.gauge.live)
  { s with gauge := { s.gauge with silence := none } }

/-- A gauge is in MANUAL. -/
def anyManual (gs : Vector Gauge 6) : Bool := gs.toList.any fun x => x.mode == .manual

/-- R21, R22, R27: the six gauges step, and the sweep setting is taken. -/
def moveGauges (s : State) : State :=
  { s with gauge := { s.gauge with
      gauges := endSweepPhase (Vector.ofFn fun g => stepGauge s g s.gauge.gauges[g])
      sweepOn := s.settings.work.sweep } }

/-- R29: the manual silence count goes up by 1 while it runs; when it reaches 640 every gauge in MANUAL is released. -/
def countSilence (s : State) : State :=
  match s.gauge.silence with
  | none => s
  | some n => if 640 ≤ n + 1 then releaseAllManual s else { s with gauge := { s.gauge with silence := some (n + 1) } }

/-- R22, R29: a gauge step of the whole unit: the silence count goes up, and releases, after the six gauges have moved
(log 41). -/
def stepGauges (s : State) : State := countSilence (moveGauges s)

/-- R30: every gauge is OFF and every latched pair is (0, 0). -/
def allAtRest (gs : Vector Gauge 6) : Bool := gs.toList.all fun x => x.mode == .off && x.latched == .zero

/-- R24: the staged pair, if one was staged since the last frame start, becomes the latched pair. -/
def Gauge.latch (x : Gauge) : Gauge := if x.fresh then { x with latched := x.staged, fresh := false } else x

/-- R24: the phase at which a frame starts: what the last frame ran beyond its end, and 0 where the last frame had not ended. -/
def framePhase (phase : Nat) : Nat := if phase < 1000000 then 0 else phase % 1000000

/-- R24, R30, R31: a frame start: the frame begins at count 0, and during park entry gauges at rest is handed on. A frame that
starts outside a fault is timed from the main oscillator again. -/
def frameStart (s : State) : State :=
  let gs := mapGauges Gauge.latch s.gauge.gauges
  { s with
    gauge := { s.gauge with
      gauges := gs, atRest := s.gauge.atRest || (s.power.park.isSome && allAtRest gs), frameOnRc := false }
    timers := { s.timers with frame := framePhase s.timers.frame } }

/-- R30: the return request of a park entry. -/
def returnRequest (s : State) : State :=
  let gs := mapGauges (fun x => if x.mode = .off then x else { x with mode := .ret }) s.gauge.gauges
  { s with gauge := { s.gauge with gauges := gs, silence := none, atRest := allAtRest gs } }

/-- R30: the gauge unit is told that a park entry has ended. -/
def returnEnded (s : State) : State :=
  let s := if s.gauge.live then
      s.withGauges fun x => if x.mode = .ret ∨ x.mode = .off then { x with mode := .follow } else x
    else s
  { s with gauge := { s.gauge with atRest := false } }

/-- R21, R26, R36: a RUN entry at the gauge unit; `fromAcc` for an entry from ACC. A sweep setting written since the last gauge
step expiry is not yet in force. -/
def gaugesRunEntry (fromAcc : Bool) (s : State) : State :=
  let sweeping (x : Gauge) : Gauge :=
    if s.gauge.sweepOn then { x with mode := .sweep, phase := .up } else { x with mode := .follow }
  let f (x : Gauge) : Gauge :=
    if s.gauge.live = false then (if x.mode = .off ∨ x.mode = .ret then sweeping x else x)
    else if fromAcc = false ∧ s.gauge.sweepOn = true ∧ x.mode = .follow then sweeping x
    else x
  let s := s.withGauges f
  { s with gauge := { s.gauge with live := true, bulbCheck := some lampHold } }

/-- R27: leaving RUN ends a sweep. -/
def gaugesLeaveRun (s : State) : State := s.withGauges fun x => if x.mode = .sweep then { x with mode := .follow } else x

end Sys2Proof.Machine
end

