-- ==== Sys2Proof/Machine/Speakers.lean ====
section
/-! DEFINITION. The speaker channels and queues: choice (R129), pass end and pre-emption (R125, R130, R131), quiet (R132),
suspension (R133) and PARKED entry (R134). -/

namespace Sys2Proof.Machine

/-- The state with a speaker replaced. -/
def State.withSpeaker (s : State) (sp : Speaker) (x : SpeakerState) : State :=
  { s with chime := s.chime.setSpeaker sp x }

/-- The state with a speaker's current play replaced. -/
def State.withPlay (s : State) (sp : Speaker) (q : Option Play) : State :=
  s.withSpeaker sp { s.chime.speaker sp with play := q }

/-- The state with a speaker's queue replaced. -/
def State.withQueue (s : State) (sp : Speaker) (q : List QueueEntry) : State :=
  s.withSpeaker sp { s.chime.speaker sp with queue := q }

/-- The chime state of a definition's entry on a speaker is set. -/
def setChime (w : Fin 24) (sp : Speaker) (m : ChimeMark) (s : State) : State :=
  s.withList (mapEntry w (fun e => e.setChime sp ((e.chime sp).map fun _ => m)) s.warn.list)

/-- A queue with the PLAYING marks removed. -/
def unmark (q : List QueueEntry) : List QueueEntry := q.map fun e => { e with playing := false }

/-- R126: an entry goes after the last entry of its class, before the first entry of a lower class. -/
def insertQueue (e : QueueEntry) : List QueueEntry → List QueueEntry
  | [] => [e]
  | x :: xs => if e.cls ≤ x.cls then x :: insertQueue e xs else e :: x :: xs

/-- R129: a candidate becomes the current play at its first step. -/
def takeCandidate (sp : Speaker) (c : Candidate) (s : State) : State :=
  match c with
  | .warning w cls n => (setChime w sp ⟨.playing, none⟩ s).withPlay sp (some ⟨.warning w, cls, n, 0, stepMicros n 0⟩)
  | .queue i cls n =>
    (s.withQueue sp ((s.chime.speaker sp).queue.modify i fun e => { e with playing := true })).withPlay sp
      (some ⟨.queue, cls, n, 0, stepMicros n 0⟩)

/-- R129: the channel makes a choice; with no candidate it is IDLE. -/
def choose (sp : Speaker) (s : State) : State :=
  match bestCandidate s sp with
  | none => s.withPlay sp none
  | some c => takeCandidate sp c s

/-- R129: an IDLE channel makes a choice when a candidate is there. -/
def chooseIfIdle (sp : Speaker) (s : State) : State :=
  match (s.chime.speaker sp).play with
  | none => choose sp s
  | some _ => s

/-- R132: under quiet, an entry of class below 5 whose rear chime state is PENDING is DONE. -/
def Entry.quieted (e : Entry) : Entry :=
  if (warnDef e.w).cls < 5 ∧ e.chimeIs .rear .pending = true then e.setChime .rear (some ⟨.done, none⟩) else e

/-- R132: what quiet does to chime states that became PENDING. -/
def settleQuiet (s : State) : State :=
  if s.chime.quiet = .off then s else s.withList (s.warn.list.map Entry.quieted)

/-- R129: each IDLE channel makes its choice. -/
def chooseBoth (s : State) : State := chooseIfIdle .rear (chooseIfIdle .front s)

/-- R129: the choices of IDLE channels, while the channels are not suspended (R133). An event that raises several warnings
leaves one choice to an IDLE channel, made among all of them (log 35). -/
def settleChimes (s : State) : State :=
  let s := settleQuiet s
  if clocked s then chooseBoth s else s

/-- R129, R135: the choices of IDLE channels at a start, where the part counts as PARKED until its power state is chosen. -/
def startChoice (s : State) : State := if s.clock.mainFault then s else chooseBoth s

/-- CHIME DONE is set for a requester that is a console (R131). -/
def chimeDone (p : Port) (s : State) : State :=
  match p with
  | .front => notify .front .chimeDone s
  | .rear => notify .rear .chimeDone s
  | .service => s

/-- CHIME DONE is set for each console with an entry among those given (R132, R134). -/
def chimeDoneAll (q : List QueueEntry) (s : State) : State :=
  let s := if q.any fun e => e.requester == .front then notify .front .chimeDone s else s
  if q.any fun e => e.requester == .rear then notify .rear .chimeDone s else s

/-- R125: what a pass end makes of a warning's chime state. -/
def passEndMark (e : Entry) : ChimeMark :=
  if e.cleared then ⟨.done, none⟩
  else if (warnDef e.w).continuous && !fullyAcked e then ⟨.pending, none⟩
  else
    match (warnDef e.w).again with
    | some secs => ⟨.resting, some (secs * 1000000)⟩
    | none => ⟨.done, none⟩

/-- R131: the pass end of the PLAYING queue entry: it leaves the queue, and CHIME DONE may be set. -/
def queuePassEnd (sp : Speaker) (s : State) : State :=
  let q := (s.chime.speaker sp).queue
  match q.find? QueueEntry.playing with
  | none => s
  | some e =>
    let rest := q.filter fun x => !x.playing
    let s := s.withQueue sp rest
    if rest.any fun x => x.requester == e.requester then s else chimeDone e.requester s

/-- R125, R131: the pass end of the current play. -/
def passEnd (sp : Speaker) (q : Play) (s : State) : State :=
  match q.source with
  | .warning w =>
    match findEntry w s.warn.list with
    | none => s
    | some e => setChime w sp (passEndMark e) s
  | .queue => queuePassEnd sp s

/-- R130, R133: the source of a current play that is broken off: a warning goes back to PENDING, a queue entry loses its
PLAYING mark. -/
def giveBack (sp : Speaker) (q : Play) (s : State) : State :=
  match q.source with
  | .warning w => setChime w sp ⟨.pending, none⟩ s
  | .queue => s.withQueue sp (unmark (s.chime.speaker sp).queue)

/-- R132: at a rear boundary, QUIETING becomes ON before the choice. -/
def quietAtBoundary (sp : Speaker) (s : State) : State :=
  if sp = .rear ∧ s.chime.quiet = .quieting then { s with chime := { s.chime with quiet := .on } } else s

/-- R130: a note boundary of the current play `q`. -/
def boundary (sp : Speaker) (q : Play) (s : State) : State :=
  if wanted s sp q = false then choose sp (quietAtBoundary sp (s.withPlay sp none))
  else if (passSteps q.pattern).length ≤ q.step + 1 then choose sp (settleQuiet ((passEnd sp q s).withPlay sp none))
  else
    match bestCandidate s sp with
    | none => s.withPlay sp (some { q with step := q.step + 1, left := stepMicros q.pattern (q.step + 1) })
    | some c =>
      if q.cls < c.cls then takeCandidate sp c (giveBack sp q s)
      else s.withPlay sp (some { q with step := q.step + 1, left := stepMicros q.pattern (q.step + 1) })

/-- R133: a channel is suspended at the start of a main-clock fault. -/
def suspendSpeaker (sp : Speaker) (s : State) : State :=
  match (s.chime.speaker sp).play with
  | none => s
  | some q => (if wanted s sp q then giveBack sp q s else s).withPlay sp none

/-- R133: both channels are suspended, and QUIETING becomes ON. -/
def suspendChimes (s : State) : State :=
  let s := suspendSpeaker .rear (suspendSpeaker .front s)
  if s.chime.quiet = .quieting then { s with chime := { s.chime with quiet := .on } } else s

/-- R134: the chime unit at PARKED entry. -/
def parkChimes (s : State) : State :=
  let s := chimeDoneAll (s.chime.front.queue ++ s.chime.rear.queue) s
  { s with chime := ⟨⟨none, []⟩, ⟨none, []⟩, .off⟩ }

/-! ### Queueing (R127) -/

/-- R127: what becomes of a command's share for a speaker. -/
inductive Share where
  | queued
  | dropped
  | notNamed
  deriving DecidableEq, Repr

/-- R127: the share of a speaker: the rear's is dropped while quiet stands. -/
def shareOf (s : State) (named : Bool) (sp : Speaker) : Share :=
  if named = false then .notNamed else if quietOn s sp then .dropped else .queued

/-- R127: a speaker that is to take the entry is full. -/
def shareFull (s : State) (sh : Share) (sp : Speaker) : Bool :=
  sh == .queued && decide (4 ≤ (s.chime.speaker sp).queue.length)

/-- R127: the entry is queued on a speaker that takes it. -/
def queueShare (sh : Share) (sp : Speaker) (e : QueueEntry) (s : State) : State :=
  match sh with
  | .queued => s.withQueue sp (insertQueue e (s.chime.speaker sp).queue)
  | .dropped => s
  | .notNamed => s

end Sys2Proof.Machine
end

