-- ==== Sys2Proof/Machine/Power.lean ====
section
/-! DEFINITION. The power controller's operations (R160 to R164) and what every event leaves settled: choices of idle
speakers, the next grant, the beginning of park entry, the next nonvolatile write, lamps and views. -/

namespace Sys2Proof.Machine

/-- The state with the power controller changed. -/
def State.withPower (s : State) (f : PowerUnit → PowerUnit) : State := { s with power := f s.power }

/-- The part is in AWAKE, parking or not. -/
def inAwake (s : State) : Bool := alive s && s.power.state == .awake

/-- R161: the park delay restarts at `secs` seconds; it runs in AWAKE only. -/
def restartDelay (secs : Nat) (s : State) : State :=
  if inAwake s then s.withPower fun u => { u with delay := some (parkSeconds secs) } else s

/-- R164: a park entry ends, and the gauge unit is told. -/
def endParkEntry (s : State) : State :=
  if s.power.park.isSome then returnEnded (s.withPower fun u => { u with park := none }) else s

/-- R164: the end of a park entry by an event that ends cause DELAY only. -/
def endDelayPark (s : State) : State := if s.power.park = some .delay then endParkEntry s else s

/-- R161, R164: activity in AWAKE (a switch event, a transaction end, a start bit). -/
def activity (s : State) : State := endDelayPark (restartDelay parkDelayDefault s)

/-- R163: park entry begins: a slot write is queued and the return request is handed to the gauge unit. -/
def beginPark (c : ParkCause) (s : State) : State :=
  returnRequest (queueSlotWrite (s.withPower fun u => { u with park := some c }))

/-- R161: a delay that has run down begins park entry when no reason stands, or when the awake limit stands run out. -/
def settlePark (s : State) : State :=
  if inAwake s && s.power.park.isNone && s.power.delay == some 0 then
    if s.power.limit = some 0 then beginPark .limit s
    else if keepAwakeReason s then s
    else beginPark .delay s
  else s

/-- R160: the power state that the accepted ignition levels give outside PARKED. -/
def ignitionState (s : State) : PowerState := if level s 0 then .run else if level s 1 then .acc else .awake

/-- R160: an entry into RUN is handed to the gauge unit, the measurement unit and the warning unit. -/
def runEntry (fromAcc : Bool) (s : State) : State :=
  let s := gaugesRunEntry fromAcc s
  remind { s with meas := { s.meas with fastWindow := some 0 } }

/-- R160: leaving RUN. -/
def leaveRun (s : State) : State :=
  let s := gaugesLeaveRun s
  { s with meas := { s.meas with fastWindow := none } }

/-- R176: both silence timers restart. -/
def restartSilence (s : State) : State :=
  { s with port := { s.port with
      front := { s.port.front with silence := 0 }, rear := { s.port.rear with silence := 0 } } }

/-- R176: both links are marked not silent. -/
def unsilence (s : State) : State :=
  { s with port := { s.port with
      front := { s.port.front with silent := false }, rear := { s.port.rear with silent := false } } }

/-- R161: the park delay and the awake limit start. -/
def startAwakeTimers (s : State) : State :=
  s.withPower fun u => { u with delay := some (parkSeconds parkDelayDefault), limit := some (parkSeconds awakeLimitSeconds) }

/-- R160: entry into AWAKE from RUN or ACC. -/
def enterAwake (s : State) : State := startAwakeTimers (unsilence (release 23 s))

/-- R160: entry into RUN or ACC from AWAKE: the timers stop, a park entry ends, the silence timers restart (R176). -/
def leaveAwake (s : State) : State :=
  restartSilence (endParkEntry (s.withPower fun u => { u with delay := none, limit := none }))

/-- R160: the power state is set from the ignition levels at a switch change event of either line. -/
def setPower (s : State) : State :=
  let old := s.power.state
  let new := ignitionState s
  if new = old then s
  else
    let s := s.withPower fun u => { u with state := new }
    let s := if old = .run then leaveRun s else s
    let s := if old = .awake then leaveAwake s else s
    let s := if new = .awake then enterAwake s else s
    if new = .run then runEntry (decide (old = .acc)) s else s

/-- R160: the power state is chosen at the end of a start; RUN counts as entered from PARKED. -/
def choosePower (s : State) : State :=
  let new := ignitionState s
  let s := s.withPower fun u => { u with state := new, park := none, delay := none, limit := none }
  match new with
  | .run => runEntry false s
  | .acc => s
  | .awake => startAwakeTimers s
  | .parked => s

/-- R163: the conditions of PARKED entry stand together. -/
def parkReady (s : State) : Bool :=
  inAwake s && s.gauge.atRest && !nvBusy s && !s.clock.mainFault && s.store.grant.isNone
    && (match s.power.park with
        | none => false
        | some .delay => !keepAwakeReason s
        | some .limit => true)

/-- What every event leaves settled; `old` is the active list before the event. -/
def settleFrom (old : List Entry) (s : State) : State :=
  countViews old (workLamps (startWrite (settlePark (arbitrate (settleChimes s)))))

/-- What an event leaves settled. -/
def settle (before after : State) : State := settleFrom before.warn.list after

end Sys2Proof.Machine
end

