-- ==== Sys2Proof/Machine/Records.lean ====
section
/-! DEFINITION. The record commands (chapter 4): READ_RECORD, CLEAR_RECORD, CHARTER_OPEN, CHARTER_CLOSE, CHARTER_ACK,
CHARTER_RELEASE, ODO_PRESET, and RECORD_MARK_APPLY. -/

namespace Sys2Proof.Machine

/-- R63: the arrival check of a command that changes a record. -/
def faultRefusal (s : State) : Option Status := if s.clock.mainFault then some .clockFault else none

/-- R63: a change command under its grant: the fault that began while it waited, the check word of its record, its
permission, its state check, its work. A refused change is answered as a read. -/
def changeRecord (r : RecordNo) (allowed : Bool) (check : State → Option Status) (act : State → State) (faultSeen : Bool)
    (s : State) : Answer :=
  if faultSeen then (s, .bare .clockFault)
  else
    let s := verifyRecord r s
    if allowed = false then (s, recordReply .denied r s)
    else
      match check s with
      | some st => (s, recordReply st r s)
      | none =>
        let s := act s
        (s, recordReply .ok r s)

/-! ### READ RECORD (R67) -/

/-- R63, R173: the arrival check of READ RECORD. -/
def earlyReadRecord (record page : Byte) (_ : State) : Option Status :=
  if 4 < record.toNat ∨ 1 < page.toNat then some .badArgument else none

/-- R67: READ RECORD under its grant. -/
def workReadRecord (record page : Byte) (_ : Bool) (s : State) : Answer :=
  match recordOf record.toNat with
  | none => (s, .bare .badArgument)
  | some r =>
    let s := verifyRecord r s
    (s, ⟨.ok, if page = 0 then recordPage0 s r else recordPage1 s r⟩)

/-- READ_RECORD as a request of its port. -/
def serveReadRecord (p : Port) (record page : Byte) (s : State) : State :=
  underGrant p (.readRecord record page) (earlyReadRecord record page) (workReadRecord record page) s

/-- READ_RECORD (R67). -/
def execReadRecord (p : Port) (record page : Byte) (s : State) : Outcome :=
  .next (settle s (serveReadRecord p record page s))

/-! ### CLEAR RECORD (R70) -/

/-- The trip of a record number. -/
def tripOf (record : Byte) : Option TripNo :=
  match record.toNat with
  | 1 => some .a
  | 2 => some .b
  | 3 => some .p
  | _ => none

/-- The record of a trip. -/
def TripNo.record : TripNo → RecordNo
  | .a => .a
  | .b => .b
  | .p => .p

/-- R69: who may clear a trip. -/
def mayClear (p : Port) (t : TripNo) : Bool :=
  match t, p with
  | .a, .front => true
  | .b, .front => true
  | .p, .front => false
  | .a, .rear => false
  | .b, .rear => false
  | .p, .rear => true
  | _, .service => true

/-- R58, R70: a trip is cleared by a command. -/
def clearTrip (t : TripNo) (s : State) : State :=
  s.withStore fun r => r.setTrip t ((clearedBody s.clock.seconds r.odo.distance false).seal t.toNat)

/-- R63: the arrival check of CLEAR RECORD. -/
def earlyClearRecord (record : Byte) (s : State) : Option Status :=
  match tripOf record with
  | none => some .badArgument
  | some _ => faultRefusal s

/-- R70: CLEAR RECORD under its grant. -/
def workClearRecord (p : Port) (record : Byte) (faultSeen : Bool) (s : State) : Answer :=
  match tripOf record with
  | none => (s, .bare .badArgument)
  | some t => changeRecord t.record (mayClear p t) (fun _ => none) (fun s => clearTrip t (commandFold s)) faultSeen s

/-- CLEAR_RECORD as a request of its port. -/
def serveClearRecord (p : Port) (record : Byte) (s : State) : State :=
  underGrant p (.clearRecord record) (earlyClearRecord record) (workClearRecord p record) s

/-- CLEAR_RECORD (R70). -/
def execClearRecord (p : Port) (record : Byte) (s : State) : Outcome :=
  .next (settle s (serveClearRecord p record s))

/-! ### The charter (R71 to R74) -/

/-- R60: the charter changes phase: it is written with its check word, and the CHARTER notice is set. -/
def putCharter (c : Charter) (s : State) : State :=
  notifyBoth .charter (s.withStore fun r => { r with charter := c.seal })

/-- R71: the state check of CHARTER OPEN. -/
def checkOpen (s : State) : Option Status :=
  if s.store.charter.phase ≠ .vacant then some .wrongState else if s.clock.unset then some .clockUnset else none

/-- R71: CHARTER OPEN done. -/
def openCharter (s : State) : State :=
  let s := commandFold s
  putCharter ⟨clearedBody s.clock.seconds s.store.odo.distance false, .running, none, false, false, 0⟩ s

/-- R71: CHARTER OPEN under its grant. -/
def workCharterOpen (p : Port) (faultSeen : Bool) (s : State) : Answer :=
  changeRecord .charter (p == .front) checkOpen openCharter faultSeen s

/-- CHARTER_OPEN as a request of its port. -/
def serveCharterOpen (p : Port) (s : State) : State := underGrant p .charterOpen faultRefusal (workCharterOpen p) s

/-- CHARTER_OPEN (R71). -/
def execCharterOpen (p : Port) (s : State) : Outcome := .next (settle s (serveCharterOpen p s))

/-- R72: CHARTER CLOSE of a RUNNING charter. -/
def closeCharter (s : State) : State :=
  putCharter { s.store.charter with
    phase := .closed, endStamp := some s.clock.seconds, ackFront := false, ackRear := false } s

/-- R72: CHARTER CLOSE under its grant. A charter that the command fold's ODO reload made VACANT is not closed (log 31). -/
def workCharterClose (p : Port) (faultSeen : Bool) (s : State) : Answer :=
  if faultSeen then (s, .bare .clockFault)
  else
    let s := verifyCharter s
    if p ≠ .front then (s, recordReply .denied .charter s)
    else if s.store.charter.phase ≠ .running then (s, recordReply .wrongState .charter s)
    else
      let s := commandFold s
      if s.store.charter.phase ≠ .running then (s, recordReply .wrongState .charter s)
      else
        let s := closeCharter s
        (s, recordReply .ok .charter s)

/-- CHARTER_CLOSE as a request of its port. -/
def serveCharterClose (p : Port) (s : State) : State := underGrant p .charterClose faultRefusal (workCharterClose p) s

/-- CHARTER_CLOSE (R72). -/
def execCharterClose (p : Port) (s : State) : Outcome := .next (settle s (serveCharterClose p s))

/-- R73, R74: outside CLOSED the command is refused. -/
def checkClosed (s : State) : Option Status := if s.store.charter.phase ≠ .closed then some .wrongState else none

/-- R73, R74: a CLOSED charter becomes VACANT and keeps its figures. -/
def vacateCharter (s : State) : State :=
  putCharter { s.store.charter with phase := .vacant, ackFront := false, ackRear := false } s

/-- R73: CHARTER ACK done. -/
def ackCharter (p : Port) (s : State) : State :=
  let c := s.store.charter
  let f := c.ackFront || p == .front
  let r := c.ackRear || p == .rear
  if f = c.ackFront ∧ r = c.ackRear then s
  else if f && r then vacateCharter s
  else s.withStore fun x => { x with charter := Charter.seal { c with ackFront := f, ackRear := r } }

/-- R73: CHARTER ACK under its grant. -/
def workCharterAck (p : Port) (faultSeen : Bool) (s : State) : Answer :=
  changeRecord .charter (p != .service) checkClosed (ackCharter p) faultSeen s

/-- CHARTER_ACK as a request of its port. -/
def serveCharterAck (p : Port) (s : State) : State := underGrant p .charterAck faultRefusal (workCharterAck p) s

/-- CHARTER_ACK (R73). -/
def execCharterAck (p : Port) (s : State) : Outcome := .next (settle s (serveCharterAck p s))

/-- R74: what a grant found lets the front release a charter: the silent rear link, or 300 s since the charter's end. -/
def Grant.letsFrontRelease (g : Grant) (c : Charter) : Bool :=
  g.rearSilent || c.endStamp.any fun e => decide (e + 300 ≤ g.now)

/-- R74: the front may release, by what its grant found. -/
def frontMayRelease (s : State) : Bool := s.store.grant.any fun g => g.letsFrontRelease s.store.charter

/-- R74: the state check of CHARTER RELEASE. -/
def checkRelease (p : Port) (s : State) : Option Status :=
  if s.store.charter.phase ≠ .closed then some .wrongState
  else if p = .front ∧ frontMayRelease s = false then some .wrongState
  else none

/-- R74: CHARTER RELEASE under its grant. -/
def workCharterRelease (p : Port) (faultSeen : Bool) (s : State) : Answer :=
  changeRecord .charter (p != .rear) (checkRelease p) vacateCharter faultSeen s

/-- CHARTER_RELEASE as a request of its port. -/
def serveCharterRelease (p : Port) (s : State) : State :=
  underGrant p .charterRelease faultRefusal (workCharterRelease p) s

/-- CHARTER_RELEASE (R74). -/
def execCharterRelease (p : Port) (s : State) : Outcome := .next (settle s (serveCharterRelease p s))

/-! ### ODO PRESET (R79) -/

/-- R63: the arrival check of ODO PRESET. -/
def earlyOdoPreset (value : BitVec 24) (s : State) : Option Status :=
  if 9999999 < value.toNat then some .badArgument else faultRefusal s

/-- R79: the state check of ODO PRESET. -/
def checkPreset (s : State) : Option Status :=
  if s.store.odo.allowanceOpen = false then some .denied
  else if moving s then some .moving
  else if s.store.charter.phase ≠ .vacant then some .wrongState
  else none

/-- R79: the records as a preset leaves them. -/
def presetStore (value now : Nat) (r : RecordStore) : RecordStore :=
  let body := clearedBody now (value * 100) false
  { r with odo := Odo.seal ⟨value * 100, false, true, false, 0⟩, a := body.seal 1, b := body.seal 2, p := body.seal 3 }

/-- R79: ODO PRESET done. -/
def presetOdo (value : Nat) (s : State) : State :=
  let s := commandFold s
  queueSlotWrite (s.withStore (presetStore value s.clock.seconds))

/-- R79: ODO PRESET under its grant; the value was checked at arrival (R63). -/
def workOdoPreset (p : Port) (value : BitVec 24) (faultSeen : Bool) (s : State) : Answer :=
  if 9999999 < value.toNat then (s, .bare .badArgument)
  else changeRecord .odo (p == .service) checkPreset (presetOdo value.toNat) faultSeen s

/-- ODO_PRESET as a request of its port. -/
def serveOdoPreset (p : Port) (value : BitVec 24) (s : State) : State :=
  underGrant p (.odoPreset value) (earlyOdoPreset value) (workOdoPreset p value) s

/-- ODO_PRESET (R79). -/
def execOdoPreset (p : Port) (value : BitVec 24) (s : State) : Outcome := .next (settle s (serveOdoPreset p value s))

/-! ### RECORD_MARK_APPLY (R64) -/

/-- R64: the held marks are applied and held no longer. -/
def applyHeld (s : State) : State :=
  (applyMarks s.store.held s).withStore fun r => { r with held := ⟨false, false⟩ }

/-- RECORD_MARK_APPLY (R64): the grant during which the marks came has ended. -/
def execRecordMarkApply (s : State) : Outcome :=
  if alive s && marksHeld s && s.store.grant.isNone then .next (settle s (applyHeld s)) else .next s

end Sys2Proof.Machine
end

