-- ==== Sys2Proof/Machine/Waking.lean ====
section
/-! DEFINITION. The wake sources (R165 to R167): their numbers, enables and modes, and what firing does. -/

namespace Sys2Proof.Machine

/-- The place of a wake source in the table of R165. -/
def WakeSource.toNat : WakeSource → Nat
  | .ignition => 0
  | .keyIn => 1
  | .doorDriver => 2
  | .doorFrontPass => 3
  | .doorRearL => 4
  | .doorRearR => 5
  | .rearCall => 6
  | .frontLink => 7
  | .rearLink => 8
  | .serviceLine => 9
  | .alarm => 10

/-- A wake source as a member of a wake cause set. -/
def wakeBit (w : WakeSource) : BitVec 16 := (1 : BitVec 16) <<< (WakeSource.toNat w)

/-- R165, R181: the mode in force of a source: 0 disabled, 1 edge to active, 2 edge to inactive, 3 either edge. IGNITION is
always enabled. -/
def wakeMode (s : State) (w : WakeSource) : Nat :=
  match w with
  | .ignition => 1
  | _ => (s.power.armed[WakeSource.toNat w - 1]?).getD 0

/-- R165: a source is enabled. -/
def wakeEnabled (s : State) (w : WakeSource) : Bool := decide (wakeMode s w ≠ 0)

/-- The line of a switch source. -/
def sourceLine (w : WakeSource) : Option (Fin 16) :=
  match w with
  | .keyIn => some 2
  | .doorDriver => some 3
  | .doorFrontPass => some 4
  | .doorRearL => some 5
  | .doorRearR => some 6
  | .rearCall => some 15
  | .ignition => none
  | .frontLink => none
  | .rearLink => none
  | .serviceLine => none
  | .alarm => none

/-- The switch source of a line. -/
def lineSource (i : Fin 16) : Option WakeSource :=
  match i.val with
  | 2 => some .keyIn
  | 3 => some .doorDriver
  | 4 => some .doorFrontPass
  | 5 => some .doorRearL
  | 6 => some .doorRearR
  | 15 => some .rearCall
  | _ => none

/-- The line's bit in a set of lines. -/
def lineBit (i : Fin 16) : BitVec 16 := (1 : BitVec 16) <<< i.val

/-- R165: the reference of a firing switch source takes the new level: by the mode, active, inactive or the other level. -/
def newReference (mode : Nat) (i : Fin 16) (ref : BitVec 16) : BitVec 16 :=
  if mode = 1 then ref ||| lineBit i else if mode = 2 then ref &&& ~~~lineBit i else ref ^^^ lineBit i

/-- R165: the reference level of a firing source's line follows, and its hold time starts again. -/
def followFiring (w : WakeSource) (s : State) : State :=
  match sourceLine w with
  | none => s
  | some i => s.withPower fun u =>
      { u with reference := newReference (wakeMode s w) i u.reference, lineHold := u.lineHold.set i 0 }

/-- R166, R167: a source is recorded; the first begins the wake sequence, which empties the last wake set and starts the
main oscillator for 4 ms. -/
def recordSource (w : WakeSource) (s : State) : State :=
  s.withPower fun u =>
    { u with
      lastWake := (if u.waking.isSome then u.lastWake else 0) ||| wakeBit w
      causeFront := u.causeFront ||| wakeBit w
      causeRear := u.causeRear ||| wakeBit w
      waking := if u.waking.isSome then u.waking else some 4000 }

/-- R165: a source fires in PARKED when it is enabled. -/
def fireSource (w : WakeSource) (s : State) : State :=
  if parkedState s && wakeEnabled s w then recordSource w (followFiring w s) else s

end Sys2Proof.Machine
end

