-- ==== Sys2Proof/Machine/Clock.lean ====
section
/-! DEFINITION. The clock unit and the clock supervisor (chapter 9): SECOND_END, SET_CLOCK, TRIM_CLOCK, READ_CLOCK,
SET_ALARM, CLEAR_ALARM, SUB_MISSING, SUB_BACK, CALIBRATION_EXPIRY, CALIBRATION_COMPLETE, MAIN_CLOCK_FAULT_START,
MAIN_CLOCK_FAULT_END. -/

namespace Sys2Proof.Machine

/-- The state with the clock unit changed. -/
def State.withClock (s : State) (f : ClockUnit → ClockUnit) : State := { s with clock := f s.clock }

/-! ### The alarm (R155, R156) -/

/-- R155: the alarm is stored with its check word. -/
def storeAlarm (a : Option Nat) (s : State) : State :=
  s.withClock fun c => { c with alarm := a, alarmCheck := alarmCheck a }

/-- R156, R164, R165: an alarm in park entry ends it when the ALARM source is enabled, whatever the cause; the enable in force
is that of the last PARKED entry. -/
def alarmEndsPark (s : State) : State :=
  if s.power.park.isSome ∧ wakeEnabled s .alarm = true then endParkEntry (restartDelay parkDelayDefault s) else s

/-- R156: what the expiry of the alarm does by the power state. -/
def alarmRings (s : State) : State :=
  if alive s then alarmEndsPark (raise 20 false 0 s)
  else fireSource .alarm (s.withClock fun c => { c with alarmRang := true })

/-- R156: the alarm expires when it is at or below the counter. -/
def checkAlarm (s : State) : State :=
  match s.clock.alarm with
  | none => s
  | some t => if t ≤ s.clock.seconds then alarmRings (notifyBoth .clock (storeAlarm none s)) else s

/-- The alarm as a field of a reply. -/
def alarmField (s : State) : List Byte := encOpt 4 s.clock.alarm

/-- R155: SET ALARM; each reply carries the alarm as it stands after the command. -/
def setAlarm (p : Port) (seconds : BitVec 32) (s : State) : Answer :=
  if p ≠ .front then (s, ⟨.denied, alarmField s⟩)
  else if s.clock.mainFault then (s, ⟨.clockFault, alarmField s⟩)
  else if s.clock.unset then (s, ⟨.clockUnset, alarmField s⟩)
  else if seconds.toNat ≤ s.clock.seconds then (s, ⟨.badArgument, alarmField s⟩)
  else
    let s := storeAlarm (some seconds.toNat) s
    (s, ⟨.ok, alarmField s⟩)

/-- SET_ALARM as a request of its port. -/
def serveSetAlarm (p : Port) (seconds : BitVec 32) (s : State) : State := answerAtOnce p (setAlarm p seconds) s

/-- SET_ALARM (R155). -/
def execSetAlarm (p : Port) (seconds : BitVec 32) (s : State) : Outcome := .next (serveSetAlarm p seconds s)

/-- R155: CLEAR ALARM. -/
def clearAlarm (p : Port) (s : State) : Answer :=
  if p ≠ .front then (s, ⟨.denied, alarmField s⟩)
  else if s.clock.mainFault then (s, ⟨.clockFault, alarmField s⟩)
  else
    let s := storeAlarm none s
    (s, ⟨.ok, alarmField s⟩)

/-- CLEAR_ALARM as a request of its port. -/
def serveClearAlarm (p : Port) (s : State) : State := answerAtOnce p (clearAlarm p) s

/-- CLEAR_ALARM (R155). -/
def execClearAlarm (p : Port) (s : State) : Outcome := .next (serveClearAlarm p s)

/-! ### The seconds counter (R151 to R154) -/

/-- R151: a second ends: the prescaler rolls over, or the RC count returns to 0, and the counter goes up by 1. -/
def tickSecond (s : State) : State :=
  s.withClock fun c =>
    { c with
      seconds := (c.seconds + 1) % clockModulus
      prescaler := if c.onRc then c.prescaler else 0
      rcCount := if c.onRc then 0 else c.rcCount }

/-- R142, R151: the day change is handed to the service unit, outside PARKED (R150). -/
def dayChange (old : Nat) (s : State) : State := if alive s && decide (today s ≠ old) then evaluate s else s

/-- SECOND_END (R151, R156). -/
def execSecondEnd (s : State) : Outcome := .next (settle s (checkAlarm (dayChange (today s) (tickSecond s))))

/-- R154: the content of READ CLOCK. -/
def clockContent (s : State) : List Byte :=
  enc 4 s.clock.seconds ++ enc 2 (today s) ++ encBool s.clock.unset ++ encBool s.clock.onRc ++ enc 2 s.clock.divisor
    ++ encBool s.clock.mainFault ++ alarmField s

/-- R154: READ CLOCK. -/
def readClock (s : State) : Answer := (s, ⟨.ok, clockContent s⟩)

/-- READ_CLOCK as a request of its port. -/
def serveReadClock (p : Port) (s : State) : State := answerAtOnce p readClock s

/-- READ_CLOCK (R154). -/
def execReadClock (p : Port) (s : State) : Outcome := .next (serveReadClock p s)

/-- R152: a trip to be shifted has its check word verified. -/
def verifyShifted (s : State) : State :=
  let s := verifyTrip .p (verifyTrip .b (verifyTrip .a s))
  if s.store.charter.phase = .running then verifyCharter s else s

/-- R152: a start stamp moved by the delta. -/
def TripBody.shift (delta : Nat) (t : TripBody) : TripBody := { t with start := (t.start + delta) % clockModulus }

/-- R152: a VALID trip is shifted. -/
def shiftTrip (delta : Nat) (t : TripNo) (r : RecordStore) : RecordStore :=
  let x := r.trip t
  if x.body.damaged then r else r.setTrip t (TripBody.seal t.toNat (x.body.shift delta))

/-- R152: a RUNNING, VALID charter is shifted. -/
def shiftCharter (delta : Nat) (r : RecordStore) : RecordStore :=
  if r.charter.phase = .running ∧ r.charter.body.damaged = false then
    { r with charter := Charter.seal { r.charter with body := r.charter.body.shift delta } }
  else r

/-- R152: the start stamps move by the delta. -/
def shiftStamps (delta : Nat) (s : State) : State :=
  s.withStore fun r => shiftCharter delta (shiftTrip delta .p (shiftTrip delta .b (shiftTrip delta .a r)))

/-- R152: a set or trim that is refused is answered as a READ CLOCK would be. -/
def clockReply (st : Status) (s : State) : Reply := ⟨st, clockContent s⟩

/-- R152: the counter becomes a new value, and the prescaler or the RC count 0. -/
def writeCounter (n : Nat) (s : State) : State :=
  s.withClock fun c =>
    { c with
      seconds := n
      prescaler := if c.onRc then c.prescaler else 0
      rcCount := if c.onRc then 0 else c.rcCount }

/-- R152: the first set, or the clock set, is handed to the service unit. -/
def handClockSet (s : State) : State :=
  if s.clock.unset then firstSet (s.withClock fun c => { c with unset := false }) else evaluate s

/-- R152: SET CLOCK done. -/
def doSetClock (n : Nat) (s : State) : State :=
  let s := writeCounter n (shiftStamps (sinceStart n s.clock.seconds) s)
  notifyBoth .clock (checkAlarm (handClockSet s))

/-- R152: SET CLOCK under its grant. -/
def workSetClock (p : Port) (seconds : BitVec 32) (faultSeen : Bool) (s : State) : Answer :=
  if faultSeen then (s, .bare .clockFault)
  else
    let s := verifyShifted s
    if p = .rear then (s, clockReply .denied s)
    else
      let s := doSetClock seconds.toNat s
      (s, clockReply .ok s)

/-- SET_CLOCK as a request of its port. -/
def serveSetClock (p : Port) (seconds : BitVec 32) (s : State) : State :=
  underGrant p (.setClock seconds) faultRefusal (workSetClock p seconds) s

/-- SET_CLOCK (R152). -/
def execSetClock (p : Port) (seconds : BitVec 32) (s : State) : Outcome := .next (settle s (serveSetClock p seconds s))

/-- R153: the argument clamped to -59..59. -/
def trimAmount (seconds : BitVec 8) : Int := max (-59) (min 59 seconds.toInt)

/-- R153: TRIM CLOCK done: the prescaler and the RC count are left as they are. -/
def doTrimClock (n : Int) (s : State) : State :=
  let delta := (n % clockModulus).toNat
  let s := (shiftStamps delta s).withClock fun c => { c with seconds := (c.seconds + delta) % clockModulus }
  notifyBoth .clock (checkAlarm (evaluate s))

/-- R63, R153: the arrival checks of TRIM CLOCK (log 19). -/
def earlyTrimClock (seconds : BitVec 8) (s : State) : Option Status :=
  if seconds = 0 then some .badArgument else faultRefusal s

/-- R153: TRIM CLOCK under its grant. -/
def workTrimClock (p : Port) (seconds : BitVec 8) (faultSeen : Bool) (s : State) : Answer :=
  if faultSeen then (s, .bare .clockFault)
  else
    let s := verifyShifted s
    if p = .rear then (s, clockReply .denied s)
    else if s.clock.unset then (s, clockReply .clockUnset s)
    else
      let s := doTrimClock (trimAmount seconds) s
      (s, clockReply .ok s)

/-- TRIM_CLOCK as a request of its port. -/
def serveTrimClock (p : Port) (seconds : BitVec 8) (s : State) : State :=
  underGrant p (.trimClock seconds) (earlyTrimClock seconds) (workTrimClock p seconds) s

/-- TRIM_CLOCK (R153). -/
def execTrimClock (p : Port) (seconds : BitVec 8) (s : State) : Outcome := .next (settle s (serveTrimClock p seconds s))

/-! ### The supervisor (R157 to R159) -/

/-- R157: the degradation is handed at once, or held while the part is PARKED. -/
def handDegraded (s : State) : State :=
  if alive s then handMarks ⟨true, false⟩ (raise 17 false 0 s)
  else (s.withClock fun c => { c with heldW17 := true }).withStore fun r =>
    { r with held := { r.held with timeDegraded := true } }

/-- SUB_MISSING (R157): the seconds source becomes RC; the gap that brings it starts the 2 s of good edges again. -/
def execSubMissing (s : State) : Outcome :=
  if s.clock.onRc then .next s
  else
    .next (settle s (handDegraded (notifyBoth .clock (s.withClock fun c =>
      { c with onRc := true, rcCount := 0, prescaler := 0, subGood := 0 }))))

/-- R157: W17 is released, or a held degradation is handed as neither. -/
def dropDegraded (s : State) : State :=
  if alive s then release 17 s else s.withClock fun c => { c with heldW17 := false }

/-- SUB_BACK (R157): the seconds source becomes SUB; the edges that bring it leave no gap. -/
def execSubBack (s : State) : Outcome :=
  if s.clock.onRc then
    .next (settle s (dropDegraded (notifyBoth .clock (s.withClock fun c =>
      { c with onRc := false, prescaler := 0, subGap := 0 }))))
  else .next s

/-- CALIBRATION_EXPIRY (R158): a calibration begins. -/
def execCalibrationExpiry (s : State) : Outcome :=
  if clocked s then
    .next ({ s with timers := { s.timers with calib := fourSeconds } }.withClock fun c =>
      { c with calib := some ⟨0, 1000000⟩ })
  else .next s

/-- CALIBRATION_COMPLETE (R158): the count becomes the divisor if it lies in 24,000..40,000. -/
def execCalibrationComplete (count : Nat) (s : State) : Outcome :=
  if clocked s && s.clock.calib.isSome then
    .next (s.withClock fun c =>
      { c with calib := none, divisor := if 24000 ≤ count ∧ count ≤ 40000 then count else c.divisor })
  else .next s

/-- R18, R133, R158, R159: what the start of a main-clock fault does in the blocks. -/
def faultStart (s : State) : State :=
  let s := s.withClock fun c => { c with mainFault := true, mainGood := 0, calib := none }
  let s := suspendChimes { s with meas := { s.meas with residue := 0 } }
  notifyBoth .status (handMarks ⟨false, true⟩ s)

/-- MAIN_CLOCK_FAULT_START (R159). -/
def execMainClockFaultStart (s : State) : Outcome := if clocked s then .next (settle s (faultStart s)) else .next s

/-- R18: a pulse timer at the end of a fault. -/
def PulseTimer.afterFault (t : PulseTimer) : PulseTimer := ⟨t.period, 0, true⟩

/-- R18, R31, R35, R42, R53, R119, R158: the suspended expiries come one full interval after the end of a fault. -/
def Timers.afterFault (t : Timers) : Timers :=
  { t with
    speed := samplePeriod
    rpm := samplePeriod
    analog := samplePeriod
    gauge := gaugePeriod
    fold := quarterSecond
    model := fourSeconds
    warning := quarterSecond
    calib := fourSeconds
    flasher := flasherPeriod }

/-- R31, R159: what the end of a main-clock fault does in the blocks; the running PWM frame keeps its RC timing to its end. -/
def faultEnd (s : State) : State :=
  let s := s.withClock fun c => { c with mainFault := false, mainGap := 0 }
  let s := { s with
    timers := s.timers.afterFault
    gauge := { s.gauge with frameOnRc := true }
    meas := { s.meas with road := s.meas.road.afterFault, engine := s.meas.engine.afterFault } }
  notifyBoth .status s

/-- MAIN_CLOCK_FAULT_END (R159). -/
def execMainClockFaultEnd (s : State) : Outcome :=
  if alive s && s.clock.mainFault then .next (settle s (faultEnd s)) else .next s

end Sys2Proof.Machine
end

