-- ==== Sys2Proof/Machine/Gauges.lean ====
section
/-! DEFINITION. The gauge unit's commands and events (chapter 2): GAUGE_STEP_EXPIRY, MANUAL_SILENCE_RELEASE,
PWM_FRAME_START, GAUGE_SET, GAUGE_RELEASE, READ_GAUGES, FLASHER_PHASE_CHANGE, BULB_CHECK_END, LAMP_TEST_END. -/

namespace Sys2Proof.Machine

/-- The state with the gauge unit changed. -/
def State.withGauge (s : State) (f : GaugeUnit → GaugeUnit) : State := { s with gauge := f s.gauge }

/-- GAUGE_STEP_EXPIRY (R22, R27, R29). -/
def execGaugeStepExpiry (s : State) : Outcome :=
  if clocked s then .next (stepGauges { s with timers := { s.timers with gauge := gaugePeriod } }) else .next s

/-- MANUAL_SILENCE_RELEASE (R29): the count has reached 640. A gauge step that brings it there releases by itself; this row is
the same event asserted from outside (log 3). -/
def execManualSilenceRelease (s : State) : Outcome :=
  if clocked s && s.gauge.silence.isSome then .next (releaseAllManual s) else .next s

/-- PWM_FRAME_START (R24, R30); frames go on during a main-clock fault (R31). -/
def execPwmFrameStart (s : State) : Outcome := if alive s then .next (frameStart s) else .next s

/-! ### Replies (R28, R32) -/

/-- The number of a gauge mode in replies. -/
def GaugeMode.toNat : GaugeMode → Nat
  | .follow => 0
  | .sweep => 1
  | .manual => 2
  | .ret => 3
  | .off => 4

/-- The number of a sweep phase in replies. -/
def SweepPhase.toNat : SweepPhase → Nat
  | .up => 0
  | .down => 1

/-- R32: a gauge's entry. -/
def gaugeField (x : Gauge) : List Byte :=
  enc 1 x.mode.toNat ++ encOpt 1 (if x.mode = .sweep then some x.phase.toNat else none)
    ++ encOpt 2 (if x.mode = .manual then some x.manualAngle else none)
    ++ enc 2 x.target ++ enc 2 x.commanded
    ++ enc 1 x.latched.a.duty ++ encBool x.latched.a.reverse ++ enc 1 x.latched.b.duty ++ encBool x.latched.b.reverse

/-- The number of a lamp state in replies. -/
def LampState.toNat : LampState → Nat
  | .off => 0
  | .on => 1
  | .flashing => 2

/-- R36: a bulb check or a lamp test holds the lamp. -/
def lampHeld (s : State) (l : Fin 8) : Bool := s.gauge.bulbCheck.isSome || (s.gauge.lampTests[l]).isSome

/-- R35, R36, R37: the output level of a lamp: low in PARKED, high while held, else by its state and the flasher. -/
def lampOutput (s : State) (l : Fin 8) : Bool :=
  alive s && (lampHeld s l || match s.gauge.lamps[l] with | .off => false | .on => true | .flashing => s.gauge.flasherOn)

/-- R32: a lamp's entry. -/
def lampField (s : State) (l : Fin 8) : List Byte :=
  enc 1 (s.gauge.lamps[l]).toNat ++ encBool (lampHeld s l) ++ encBool (lampOutput s l)

/-- R32: the fields of READ GAUGES. -/
def gaugeFields (s : State) : List (List Byte) :=
  encBool s.gauge.live :: s.gauge.gauges.toList.map gaugeField ++ [encOpt 2 s.gauge.silence]
    ++ (List.finRange 8).map (lampField s) ++ [enc 1 (!s.gauge.flasherOn).toNat]

/-- R32: READ GAUGES. -/
def readGauges (page : Byte) (s : State) : Answer := (s, pagedReply [] page (gaugeFields s))

/-- READ_GAUGES as a request of its port. -/
def serveReadGauges (p : Port) (page : Byte) (s : State) : State := answerAtOnce p (readGauges page) s

/-- READ_GAUGES (R32). -/
def execReadGauges (p : Port) (page : Byte) (s : State) : Outcome := .next (serveReadGauges p page s)

/-! ### GAUGE SET and GAUGE RELEASE (R28, R29) -/

/-- The state with one gauge changed. -/
def setGauge (g : Fin 6) (x : Gauge) (s : State) : State :=
  s.withGauge fun u => { u with gauges := u.gauges.set g x }

/-- R28: a GAUGE SET of an existing gauge. -/
def putManual (g : Fin 6) (angle : Nat) (s : State) : State :=
  (setGauge g { s.gauge.gauges[g] with mode := .manual, manualAngle := min 1079 angle } s).withGauge fun u =>
    { u with silence := some 0 }

/-- R28: GAUGE SET. -/
def gaugeSet (p : Port) (gauge : Byte) (angle : BitVec 16) (s : State) : Answer :=
  if h : gauge.toNat < 6 then
    let g : Fin 6 := ⟨gauge.toNat, h⟩
    if p ≠ .service then (s, ⟨.denied, gaugeField s.gauge.gauges[g]⟩)
    else if s.clock.mainFault then (s, ⟨.clockFault, gaugeField s.gauge.gauges[g]⟩)
    else if s.power.park.isSome then (s, ⟨.wrongState, gaugeField s.gauge.gauges[g]⟩)
    else
      let s := putManual g angle.toNat s
      (s, ⟨.ok, gaugeField s.gauge.gauges[g]⟩)
  else (s, .bare .badArgument)

/-- GAUGE_SET as a request of its port. -/
def serveGaugeSet (p : Port) (gauge : Byte) (angle : BitVec 16) (s : State) : State :=
  answerAtOnce p (gaugeSet p gauge angle) s

/-- GAUGE_SET (R28). -/
def execGaugeSet (p : Port) (gauge : Byte) (angle : BitVec 16) (s : State) : Outcome :=
  .next (settle s (serveGaugeSet p gauge angle s))

/-- R29: one gauge is released; the silence count stops with the last gauge in MANUAL. -/
def releaseOneManual (g : Fin 6) (s : State) : State :=
  (setGauge g ((s.gauge.gauges[g]).releaseManual s.gauge.live) s).withGauge fun u =>
    { u with silence := if anyManual u.gauges then u.silence else none }

/-- R29: GAUGE RELEASE; its replies carry no content (log 29). -/
def gaugeRelease (p : Port) (gauge : Byte) (s : State) : Answer :=
  if 6 < gauge.toNat then (s, .bare .badArgument)
  else if p ≠ .service then (s, .bare .denied)
  else if s.clock.mainFault then (s, .bare .clockFault)
  else if s.power.park.isSome then (s, .bare .wrongState)
  else if h : gauge.toNat < 6 then
    let g : Fin 6 := ⟨gauge.toNat, h⟩
    if (s.gauge.gauges[g]).mode = .manual then (releaseOneManual g s, .bare .ok) else (s, .bare .wrongState)
  else (releaseAllManual s, .bare .ok)

/-- GAUGE_RELEASE as a request of its port. -/
def serveGaugeRelease (p : Port) (gauge : Byte) (s : State) : State := answerAtOnce p (gaugeRelease p gauge) s

/-- GAUGE_RELEASE (R29). -/
def execGaugeRelease (p : Port) (gauge : Byte) (s : State) : Outcome := .next (settle s (serveGaugeRelease p gauge s))

/-! ### Flasher and holds (R35, R36) -/

/-- FLASHER_PHASE_CHANGE (R35). -/
def execFlasherPhaseChange (s : State) : Outcome :=
  if clocked s then
    .next ({ s with timers := { s.timers with flasher := flasherPeriod } }.withGauge fun u =>
      { u with flasherOn := !u.flasherOn })
  else .next s

/-- BULB_CHECK_END (R36). -/
def execBulbCheckEnd (s : State) : Outcome :=
  if clocked s then .next (s.withGauge fun u => { u with bulbCheck := none }) else .next s

/-- LAMP_TEST_END (R36). -/
def execLampTestEnd (l : Fin 8) (s : State) : Outcome :=
  if clocked s then .next (s.withGauge fun u => { u with lampTests := u.lampTests.set l none }) else .next s

end Sys2Proof.Machine
end

