-- ==== Sys2Proof/Machine/Measure.lean ====
section
/-! DEFINITION. The measurement unit (chapter 1): ROAD_PULSE_EDGE, ROAD_AGE_STALE, SPEED_SAMPLE_EXPIRY,
ENGINE_PULSE_EDGE, ENGINE_AGE_STALE, RPM_SAMPLE_EXPIRY, OPEN_TICK, ANALOG_SCAN_EXPIRY, SWITCH_SCAN_EXPIRY, READ_INPUTS. -/

namespace Sys2Proof.Machine

/-- The state with the measurement unit changed. -/
def State.withMeas (s : State) (f : Measure → Measure) : State := { s with meas := f s.meas }

/-! ### Pulses (R2 to R8) -/

/-- R3, R6: an edge on a timed pulse input whose stale age is `stale`. -/
def PulseTimer.edge (stale : Nat) (t : PulseTimer) : PulseTimer :=
  if t.broken then ⟨t.period, 0, false⟩
  else if t.age = stale then ⟨none, 0, false⟩
  else ⟨some (max 1 t.age), 0, false⟩

/-- R2: a road edge is counted. -/
def countPulse (s : State) : State :=
  if s.fold.buf.pulses < 65535 then
    s.withFold fun f => { f with buf := { f.buf with pulses := f.buf.pulses + 1 } }
  else s

/-- ROAD_PULSE_EDGE (R2, R3); during a main-clock fault it is counted only (R18). -/
def execRoadPulseEdge (s : State) : Outcome :=
  if alive s then
    let s := countPulse s
    if s.clock.mainFault then .next s else .next (s.withMeas fun m => { m with road := m.road.edge roadStale })
  else .next s

/-- ROAD_AGE_STALE (R3). -/
def execRoadAgeStale (s : State) : Outcome :=
  if clocked s then .next (s.withMeas fun m => { m with road := { m.road with age := roadStale } }) else .next s

/-- R4: the raw speed. -/
def formSpeed (kr : Nat) (t : PulseTimer) : Nat :=
  match t.period with
  | none => 0
  | some p => if t.age = roadStale then 0 else min 2550 (roundHalfUp 36000000000 (kr * max p t.age))

/-- R5, R7: a filter that snaps to the raw value within `band`, and otherwise steps by the difference over `d`. -/
def snapFilter (band : Nat) (d : Int) (f r : Nat) : Nat :=
  if ((r : Int) - f).natAbs < band then r else (filterStep f r d).toNat

/-- SPEED_SAMPLE_EXPIRY (R4, R5). -/
def execSpeedSampleExpiry (s : State) : Outcome :=
  if clocked s then
    let r := formSpeed s.settings.work.kr s.meas.road
    .next ({ s with timers := { s.timers with speed := samplePeriod } }.withMeas fun m =>
      { m with rawSpeed := r, speed := snapFilter 4 4 m.speed r })
  else .next s

/-- ENGINE_PULSE_EDGE (R6). -/
def execEnginePulseEdge (s : State) : Outcome :=
  if clocked s then .next (s.withMeas fun m => { m with engine := m.engine.edge engineStale, running := true })
  else .next s

/-- ENGINE_AGE_STALE (R6). -/
def execEngineAgeStale (s : State) : Outcome :=
  if clocked s then
    .next (s.withMeas fun m => { m with engine := { m.engine with age := engineStale }, running := false })
  else .next s

/-- R7: the raw rpm. -/
def formRpm (ppr : Nat) (t : PulseTimer) : Nat :=
  match t.period with
  | none => 0
  | some p => if t.age = engineStale then 0 else min 9999 (roundHalfUp 60000000 (ppr * p))

/-- RPM_SAMPLE_EXPIRY (R7). -/
def execRpmSampleExpiry (s : State) : Outcome :=
  if clocked s then
    let r := formRpm s.settings.work.ppr s.meas.engine
    .next ({ s with timers := { s.timers with rpm := samplePeriod } }.withMeas fun m =>
      { m with rawRpm := r, rpm := snapFilter 2 2 m.rpm r })
  else .next s

/-- R8: an open tick is counted. -/
def countTick (s : State) : State :=
  if s.fold.buf.ticks < 16777215 then s.withFold fun f => { f with buf := { f.buf with ticks := f.buf.ticks + 1 } }
  else s

/-- OPEN_TICK (R8): the residue returns to 0 and one tick is pending. -/
def execOpenTick (s : State) : Outcome :=
  if clocked s then .next (countTick (s.withMeas fun m => { m with residue := 0 })) else .next s

/-! ### Channels (R9 to R13) -/

/-- A sample is in range (section 1.5). -/
def sampleInRange (v : Byte) : Bool := decide (4 ≤ v.toNat) && decide (v.toNat ≤ 251)

/-- R11: what a channel passes on from its filter. -/
def Channel.pass (c : Channel) (curve : Curve) : Channel :=
  let x := roundHalfUp c.filter 256
  { c with x := x, value := curve.apply x }

/-- R9: an in-range sample in NORMAL or COUNTING. -/
def Channel.good (c : Channel) (k : Nat) (v : Byte) : Channel :=
  { c with
    filter :=
      if c.provisional then v.toNat * 256 else (filterStep c.filter (v.toNat * 256 : Nat) (2 ^ k : Nat)).toNat
    provisional := false
    outCount := 0
    state := .normal }

/-- R12: an out-of-range sample in NORMAL or COUNTING. -/
def Channel.bad (c : Channel) (curve : Curve) : Channel :=
  if c.outCount + 1 < 8 then { c with outCount := c.outCount + 1, state := .counting }.pass curve
  else { c with outCount := 8, inCount := 0, state := .fault }

/-- R13: a sample in FAULT. -/
def Channel.recover (c : Channel) (curve : Curve) (v : Byte) : Channel :=
  if sampleInRange v = false then { c with inCount := 0 }
  else if c.inCount + 1 < 16 then { c with inCount := c.inCount + 1 }
  else
    { c with filter := v.toNat * 256, provisional := false, state := .normal, outCount := 0, inCount := 0 }.pass curve

/-- R9 to R13: one scan of one channel. -/
def Channel.scan (k : Nat) (curve : Curve) (v : Byte) (c : Channel) : Channel :=
  let c := { c with sample := v }
  match c.state with
  | .fault => c.recover curve v
  | .normal | .counting => if sampleInRange v then (c.good k v).pass curve else c.bad curve

/-- R10: the filter constant of a channel. -/
def filterConstant (s : State) (i : Fin 6) : Nat :=
  match i.val with
  | 0 | 1 =>
    if s.power.state = .run ∧ s.meas.fastWindow.isSome = true then 1
    else if s.power.state = .run ∧ moving s = true then 7
    else 5
  | 2 => 4
  | 3 => 2
  | 4 => 3
  | _ => 6

/-- R9: every channel scanned. -/
def scanChannels (samples : Vector Byte 6) (s : State) : Vector Channel 6 :=
  Vector.ofFn fun i => (s.meas.channels[i]).scan (filterConstant s i) s.settings.work.senders[i] samples[i]

/-- R12, R13: a channel that entered or left FAULT is handed to the warning unit. -/
def handChannel (old new : Vector Channel 6) (s : State) (i : Fin 6) : State :=
  let a := old[i].state == .fault
  let b := new[i].state == .fault
  if b && !a then raise 15 true (member i.val) s else if a && !b then dropMember 15 (member i.val) s else s

/-- R10: the fast window counts a scan in RUN; its eighth closes it and hands its end on. -/
def countFast (s : State) : State :=
  match s.meas.fastWindow with
  | none => s
  | some n =>
    if s.power.state ≠ .run then s
    else if n + 1 < 8 then s.withMeas fun m => { m with fastWindow := some (n + 1) }
    else fastWindowEnd (s.withMeas fun m => { m with fastWindow := none })

/-- R9 to R13: an analog scan. The channels that entered or left FAULT are handed on in the order of their numbers, so a
channel that leaves while a higher one enters can release W15 and raise it afresh (log 15). -/
def analogScan (samples : Vector Byte 6) (s : State) : State :=
  let old := s.meas.channels
  let new := scanChannels samples s
  let s := s.withMeas fun m => { m with channels := new }
  countFast ((List.finRange 6).foldl (handChannel old new) s)

/-- ANALOG_SCAN_EXPIRY (R9 to R13). -/
def execAnalogScanExpiry (samples : Vector Byte 6) (s : State) : Outcome :=
  if clocked s then
    .next (settle s (analogScan samples
      { s with timers := { s.timers with analog := samplePeriod }, pins := { s.pins with samples := samples } }))
  else .next s

/-! ### Switch lines (R16, R17) -/

/-- R16: the lines that accept a new level: the fourth reading in a row that differs. -/
def lineAccepts (m : Measure) (lines : BitVec 16) (i : Fin 16) : Bool :=
  (lines.getLsbD i.val != m.levels.getLsbD i.val) && decide (3 ≤ m.candidates[i])

/-- R16: the candidate count of a line after a reading. -/
def nextCandidate (m : Measure) (lines : BitVec 16) (i : Fin 16) : Nat :=
  if lines.getLsbD i.val = m.levels.getLsbD i.val then 0
  else if lineAccepts m lines i then 0
  else m.candidates[i] + 1

/-- The set of the lines that satisfy a condition. -/
def lineSet (f : Fin 16 → Bool) : BitVec 16 :=
  (List.finRange 16).foldl (fun n i => if f i then n ||| ((1 : BitVec 16) <<< i.val) else n) 0

/-- R16: the measurement unit after a switch scan; the accepted lines take their new levels. -/
def scanLines (lines : BitVec 16) (m : Measure) : Measure :=
  { m with
    levels := m.levels ^^^ lineSet (lineAccepts m lines)
    candidates := Vector.ofFn (nextCandidate m lines) }

/-- R55: a change of TRANSFER PUMP at the tank model. -/
def pumpChange (active : Bool) (s : State) : State :=
  s.withFoldBare fun f => { f with hold := if active then .pumping else .ending transferPeriod }

/-- R17: a switch change event is delivered to the power controller, the warning unit and the tank model. -/
def switchEvent (s : State) (i : Fin 16) : State :=
  let s := if i.val ≤ 1 then setPower s else s
  let s := activity s
  let s := if i.val = 15 ∧ level s 15 = true then raise 19 false 0 s else s
  if i.val = 14 then pumpChange (level s 14) s else s

/-- R16, R17: a switch scan; all levels are accepted before the events are delivered in line order (log 15). -/
def switchScan (lines : BitVec 16) (s : State) : State :=
  let events := (List.finRange 16).filter (lineAccepts s.meas lines)
  events.foldl switchEvent (s.withMeas (scanLines lines))

/-- SWITCH_SCAN_EXPIRY (R16, R17); it goes on during a main-clock fault (R18), at the first RC edge at or past 8 ms, from
which the next 8 ms count (log 43). -/
def execSwitchScanExpiry (lines : BitVec 16) (s : State) : Outcome :=
  if alive s then
    .next (settle s (switchScan lines
      { s with timers := { s.timers with switch := switchPeriod }, pins := { s.pins with lines := lines } }))
  else .next s

/-! ### READ INPUTS (R20) -/

/-- The width of a channel's engineering value (section 1.5). -/
def valueWidth (i : Fin 6) : Nat :=
  match i.val with
  | 0 | 1 => 3
  | 2 | 3 => 2
  | _ => 1

/-- The number of a channel state in READ INPUTS. -/
def channelStateByte : ChannelState → Nat
  | .normal => 0
  | .counting => 1
  | .fault => 2

/-- R20: a channel's entry. -/
def channelField (i : Fin 6) (c : Channel) : List Byte :=
  [c.sample] ++ enc 1 c.x ++ encInt (valueWidth i) c.value ++ enc 1 (channelStateByte c.state) ++ enc 1 c.outCount
    ++ enc 1 c.inCount ++ encBool c.provisional

/-- R20: the fields of READ INPUTS. -/
def inputFields (s : State) : List (List Byte) :=
  let m := s.meas
  [enc 2 m.rawSpeed, enc 2 m.speed, encBool (moving s), enc 2 m.rawRpm, enc 2 m.rpm, encBool m.running,
    encOpt 3 m.road.period, encOpt 3 m.engine.period]
    ++ (List.finRange 6).map (fun i => channelField i m.channels[i])
    ++ [encOpt 1 m.fastWindow, enc 2 m.levels.toNat, enc 2 s.fold.buf.pulses, enc 3 s.fold.buf.ticks]

/-- R20: READ INPUTS. -/
def readInputs (page : Byte) (s : State) : Answer := (s, pagedReply [] page (inputFields s))

/-- READ_INPUTS as a request of its port. -/
def serveReadInputs (p : Port) (page : Byte) (s : State) : State := answerAtOnce p (readInputs page) s

/-- READ_INPUTS (R20). -/
def execReadInputs (p : Port) (page : Byte) (s : State) : Outcome := .next (serveReadInputs p page s)

end Sys2Proof.Machine
end

