-- ==== Sys2Proof/Machine/Nonvolatile.lean ====
section
/-! DEFINITION. The array's events: SLOT_WRITE_COMPLETE (R81), COMMIT_COMPLETE (R184), SUPPLY_LOSS (R185), and the command
COMMIT_SETTINGS (R184). -/

namespace Sys2Proof.Machine

/-- SLOT_WRITE_COMPLETE (R81). -/
def execSlotWriteComplete (s : State) : Outcome := if clocked s then .next (settle s (slotWritten s)) else .next s

/-- COMMIT_COMPLETE (R184): the write and its read-back are over; `agrees` is the read-back's outcome. -/
def execCommitComplete (agrees : Bool) (s : State) : Outcome :=
  if clocked s then .next (settle s (commitWritten agrees s)) else .next s

/-- SUPPLY_LOSS (R81, R185): a write in flight is cut; the part acts on nothing until a reset (log 22). -/
def execSupplyLoss (s : State) : Outcome := .next ((cutFlight s).withPower fun u => { u with supplied := false })

/-- R184: a commit is queued or in flight. -/
def commitBusy (s : State) : Bool :=
  s.nv.pendingCommit || match s.nv.flight with | none => false | some (.slot _ _ _ _) => false | some (.commit _ _) => true

/-- R184: a commit is queued. -/
def queueCommit (s : State) : State :=
  { s with nv := { s.nv with pendingCommit := true }, settings := { s.settings with commit := .inProgress } }

/-- R184: COMMIT SETTINGS. -/
def commitSettings (p : Port) (s : State) : Answer :=
  if p ≠ .service then (s, .bare .denied)
  else if s.clock.mainFault then (s, .bare .clockFault)
  else if moving s then (s, .bare .moving)
  else if commitBusy s then (s, .bare .settingsBusy)
  else (queueCommit s, .bare .ok)

/-- COMMIT_SETTINGS as a request of its port. -/
def serveCommitSettings (p : Port) (s : State) : State := answerAtOnce p (commitSettings p) s

/-- COMMIT_SETTINGS (R184). -/
def execCommitSettings (p : Port) (s : State) : Outcome := .next (settle s (serveCommitSettings p s))

end Sys2Proof.Machine
end

