-- ==== Sys2Proof/Machine/Parking.lean ====
section
/-! DEFINITION. The power controller's commands and events (chapter 9): PARK_DELAY_EXPIRY, AWAKE_LIMIT_EXPIRY,
PARKED_ENTRY, KEEP_AWAKE, WAKE_SOURCE_FIRES, WAKE_LINE_EDGE, READ_WAKE_CAUSES. -/

namespace Sys2Proof.Machine

/-- PARK_DELAY_EXPIRY (R161): the delay has run down; park entry begins when the rule lets it. -/
def execParkDelayExpiry (s : State) : Outcome :=
  if inAwake s && s.power.park.isNone && s.power.delay.isSome then
    .next (settle s (s.withPower fun u => { u with delay := some 0 }))
  else .next s

/-- R161: the awake limit has run out: park entry with cause LIMIT begins, or one in progress takes that cause. -/
def limitOut (s : State) : State :=
  let s := s.withPower fun u => { u with limit := some 0 }
  match s.power.park with
  | none => beginPark .limit s
  | some _ => s.withPower fun u => { u with park := some .limit }

/-- AWAKE_LIMIT_EXPIRY (R161). -/
def execAwakeLimitExpiry (s : State) : Outcome :=
  if inAwake s && s.power.limit.isSome then .next (settle s (limitOut s)) else .next s

/-! ### PARKED entry (R163) -/

/-- R64, R171: a link at PARKED entry: a waiting request is dropped, a transaction in progress is no longer received. A SELECT
that stands asserted at PARKED entry fires no wake source: only its assertion in PARKED does (log 24). -/
def parkLink (x : LinkState) : LinkState :=
  { x with
    select := none
    slot := match x.slot with | .waiting _ => .empty | .empty => .empty | .done r => .done r }

/-- R64, R179: the port block at PARKED entry. -/
def parkPorts (p : PortBlock) : PortBlock where
  front := parkLink p.front
  rear := parkLink p.rear
  service := { p.service with rx := .waitQuiet, request := none, output := [], transmitting := false, sendLeft := 0 }

/-- R120: the warning unit at PARKED entry. -/
def parkWarnings (w : WarningUnit) : WarningUnit :=
  { w with
    list := []
    qualify := Vector.replicate 24 0
    release := Vector.replicate 24 0
    engineRun := 0
    runCount := 0 }

/-- R36, R37: holds end at PARKED entry. -/
def parkLamps (g : GaugeUnit) : GaugeUnit := { g with bulbCheck := none, lampTests := Vector.replicate 8 none }

/-- R163: the power controller at PARKED entry: the enables, modes and reference levels of the wake logic are latched. -/
def parkPower (raw : BitVec 16) (w : Settings) (u : PowerUnit) : PowerUnit :=
  { u with
    state := .parked
    park := none
    delay := none
    limit := none
    armed := w.wakeModes
    reference := raw
    lineHold := Vector.replicate 16 0
    waking := none }

/-- R163: PARKED entry, handed to every block. -/
def enterParked (raw : BitVec 16) (s : State) : State :=
  let s := parkChimes s
  { s with
    warn := parkWarnings s.warn
    gauge := parkLamps s.gauge
    fold := { s.fold with waiting := false }
    port := parkPorts s.port
    power := parkPower raw s.settings.work s.power
    clock := { s.clock with calib := none, mainGap := 0, mainGood := 0 }
    pins := { s.pins with lines := raw } }

/-- PARKED_ENTRY (R163). -/
def execParkedEntry (raw : BitVec 16) (s : State) : Outcome :=
  if parkReady s then .next (settle s (enterParked raw s)) else .next s

/-! ### KEEP AWAKE and READ WAKE CAUSES (R162, R167) -/

/-- The number of a power state in replies. -/
def PowerState.toNat : PowerState → Nat
  | .run => 0
  | .acc => 1
  | .awake => 2
  | .parked => 3

/-- The number of a park entry cause in replies. -/
def ParkCause.toNat : ParkCause → Nat
  | .delay => 0
  | .limit => 1

/-- A power timer in whole seconds; a stopped one reads 0 (log 13). -/
def shownSeconds (t : Option Nat) : Nat := t.getD 0 / 32768

/-- R162: the content of a KEEP AWAKE reply. An AWAKE that is parking shows as the AWAKE byte (log 13). -/
def keepAwakeContent (s : State) : List Byte := enc 1 s.power.state.toNat ++ enc 2 (shownSeconds s.power.delay)

/-- R162: KEEP AWAKE. -/
def keepAwake (seconds : BitVec 16) (s : State) : Answer :=
  if s.clock.mainFault then (s, ⟨.clockFault, keepAwakeContent s⟩)
  else if s.power.state ≠ .awake ∨ s.power.park = some .limit then (s, ⟨.wrongState, keepAwakeContent s⟩)
  else
    let s := restartDelay (max 1 (min 600 seconds.toNat)) s
    (s, ⟨.ok, keepAwakeContent s⟩)

/-- KEEP_AWAKE as a request of its port. -/
def serveKeepAwake (p : Port) (seconds : BitVec 16) (s : State) : State := answerAtOnce p (keepAwake seconds) s

/-- KEEP_AWAKE (R162). -/
def execKeepAwake (p : Port) (seconds : BitVec 16) (s : State) : Outcome := .next (settle s (serveKeepAwake p seconds s))

/-- R167: the set that READ WAKE CAUSES gives a port. -/
def wakeCauses (s : State) (p : Port) : BitVec 16 :=
  match p with
  | .front => s.power.causeFront
  | .rear => s.power.causeRear
  | .service => s.power.lastWake

/-- R167: a console's cause set is emptied. -/
def emptyCauses (p : Port) (s : State) : State :=
  match p with
  | .front => s.withPower fun u => { u with causeFront := 0 }
  | .rear => s.withPower fun u => { u with causeRear := 0 }
  | .service => s

/-- R161, R167: the keep-awake reasons that stand, as a set. -/
def reasonSet (s : State) : BitVec 8 :=
  (if chimeBusy s then 1 else 0) ||| (if nvBusy s then 2 else 0) ||| (if keyOrLights s then 4 else 0)

/-- R167: READ WAKE CAUSES. -/
def readWakeCauses (p : Port) (s : State) : Answer :=
  (emptyCauses p s,
    ⟨.ok, enc 2 (wakeCauses s p).toNat ++ enc 1 s.power.state.toNat ++ encOpt 1 (s.power.park.map ParkCause.toNat)
      ++ enc 2 (shownSeconds s.power.delay) ++ enc 2 (shownSeconds s.power.limit) ++ [reasonSet s]⟩)

/-- READ_WAKE_CAUSES as a request of its port. -/
def serveReadWakeCauses (p : Port) (s : State) : State := answerAtOnce p (readWakeCauses p) s

/-- READ_WAKE_CAUSES (R167). -/
def execReadWakeCauses (p : Port) (s : State) : Outcome := .next (serveReadWakeCauses p s)

/-! ### Wake logic (R165) -/

/-- WAKE_SOURCE_FIRES (R165, R166). -/
def execWakeSourceFires (w : WakeSource) (s : State) : Outcome := .next (fireSource w s)

/-- WAKE_LINE_EDGE (R165): the reference of the line takes the other level; no source fires. -/
def execWakeLineEdge (i : Fin 16) (s : State) : Outcome :=
  if parkedState s then
    .next (s.withPower fun u => { u with reference := u.reference ^^^ lineBit i, lineHold := u.lineHold.set i 0 })
  else .next s

end Sys2Proof.Machine
end

