-- ==== Sys2Proof/Machine/Chimes.lean ====
section
/-! DEFINITION. The chime commands and events (chapter 7): NOTE_BOUNDARY, REPEAT_TIMER_EXPIRY, PLAY_CHIME, CANCEL_CHIMES,
REAR_QUIET, READ_CHIMES. -/

namespace Sys2Proof.Machine

/-- NOTE_BOUNDARY (R130): a step of the current play ends. -/
def execNoteBoundary (sp : Speaker) (s : State) : Outcome :=
  if clocked s then
    match (s.chime.speaker sp).play with
    | none => .next s
    | some q => .next (settle s (boundary sp q s))
  else .next s

/-- R125: a RESTING chime state becomes PENDING. -/
def repeatEnd (w : Fin 24) (sp : Speaker) (s : State) : State :=
  match findEntry w s.warn.list with
  | none => s
  | some e => if e.chimeIs sp .resting then setChime w sp ⟨.pending, none⟩ s else s

/-- REPEAT_TIMER_EXPIRY (R125). -/
def execRepeatTimerExpiry (w : Fin 24) (sp : Speaker) (s : State) : Outcome :=
  if clocked s then .next (settle s (repeatEnd w sp s)) else .next s

/-- R127: the number of a share in the reply. -/
def Share.toNat : Share → Nat
  | .queued => 0
  | .dropped => 1
  | .notNamed => 2

/-- R127: the reply of a PLAY CHIME: each speaker's share and the number of entries its queue then holds. -/
def sharesReply (f r : Share) (s : State) : Reply :=
  ⟨.ok, enc 1 f.toNat ++ enc 1 s.chime.front.queue.length ++ enc 1 r.toNat ++ enc 1 s.chime.rear.queue.length⟩

/-- R127: a pattern is queued on the speakers that take it, or refused FULL. -/
def queuePattern (e : QueueEntry) (onFront onRear : Bool) (s : State) : Answer :=
  let f := shareOf s onFront .front
  let r := shareOf s onRear .rear
  if shareFull s f .front || shareFull s r .rear then (s, .bare .full)
  else
    let s := queueShare r .rear e (queueShare f .front e s)
    (s, sharesReply f r s)

/-- R127: PLAY CHIME. -/
def playChime (p : Port) (pattern speakers cls : Byte) (s : State) : Answer :=
  if h : pattern.toNat < 8 ∧ 1 ≤ speakers.toNat ∧ speakers.toNat ≤ 3 then
    if s.clock.mainFault then (s, .bare .clockFault)
    else
      queuePattern ⟨⟨pattern.toNat, h.1⟩, min 3 cls.toNat, p, false⟩ (speakers.getLsbD 0) (speakers.getLsbD 1) s
  else (s, .bare .badArgument)

/-- PLAY_CHIME as a request of its port. -/
def servePlayChime (p : Port) (pattern speakers cls : Byte) (s : State) : State :=
  answerAtOnce p (playChime p pattern speakers cls) s

/-- PLAY_CHIME (R127). -/
def execPlayChime (p : Port) (pattern speakers cls : Byte) (s : State) : Outcome :=
  .next (settle s (servePlayChime p pattern speakers cls s))

/-- R128: a queue without the entries of a requester. -/
def withoutRequester (p : Port) (q : List QueueEntry) : List QueueEntry := q.filter fun e => e.requester != p

/-- R128: CANCEL CHIMES. -/
def cancelChimes (p : Port) (s : State) : Answer :=
  if s.clock.mainFault then (s, .bare .clockFault)
  else
    let f := withoutRequester p s.chime.front.queue
    let r := withoutRequester p s.chime.rear.queue
    let n := s.chime.front.queue.length - f.length + (s.chime.rear.queue.length - r.length)
    ((s.withQueue .front f).withQueue .rear r, ⟨.ok, enc 1 n⟩)

/-- CANCEL_CHIMES as a request of its port. -/
def serveCancelChimes (p : Port) (s : State) : State := answerAtOnce p (cancelChimes p) s

/-- CANCEL_CHIMES (R128). -/
def execCancelChimes (p : Port) (s : State) : Outcome := .next (settle s (serveCancelChimes p s))

/-- R132: a warning entry of class below 5 is DONE on the rear. -/
def Entry.silenceRear (e : Entry) : Entry :=
  if (warnDef e.w).cls < 5 then { e with chimeRear := e.chimeRear.map fun _ => ⟨.done, none⟩ } else e

/-- R132: quiet takes the rear. -/
def quietTakesRear (s : State) : State :=
  let s := chimeDoneAll s.chime.rear.queue s
  let s := s.withQueue .rear []
  let s := s.withList (s.warn.list.map Entry.silenceRear)
  let q : Quiet :=
    match s.chime.rear.play with
    | none => .on
    | some x => if 5 ≤ x.cls then .on else .quieting
  { s with chime := { s.chime with quiet := q } }

/-- R132: the number of the quiet state in replies. -/
def Quiet.toNat : Quiet → Nat
  | .off => 0
  | .quieting => 1
  | .on => 2

/-- R132: REAR QUIET. -/
def setRearQuiet (p : Port) (arg : Byte) (s : State) : Answer :=
  if 1 < arg.toNat then (s, .bare .badArgument)
  else if p ≠ .rear then (s, .bare .denied)
  else if s.clock.mainFault then (s, .bare .clockFault)
  else
    let s :=
      if arg = 0 then { s with chime := { s.chime with quiet := .off } }
      else if s.chime.quiet = .off then quietTakesRear s
      else s
    (s, ⟨.ok, enc 1 s.chime.quiet.toNat⟩)

/-- REAR_QUIET as a request of its port. -/
def serveRearQuiet (p : Port) (arg : Byte) (s : State) : State := answerAtOnce p (setRearQuiet p arg) s

/-- REAR_QUIET (R132). -/
def execRearQuiet (p : Port) (arg : Byte) (s : State) : Outcome := .next (settle s (serveRearQuiet p arg s))

/-! ### READ CHIMES (R136) -/

/-- The number of a port in replies. -/
def portNumber : Port → Nat
  | .front => 0
  | .rear => 1
  | .service => 2

/-- R136: the channel of a speaker as one optional field: source kind (0 warning, 1 queue entry) and number, class,
pattern, step from 1 and whether it is wanted; a queue position counts from 0 (log 13). The position of an entry that has gone
is a free value (log 14). -/
def playField (s : State) (sp : Speaker) : List Byte :=
  match (s.chime.speaker sp).play with
  | none => enc 7 0
  | some q =>
    let src : List Byte :=
      match q.source with
      | .warning w => enc 1 0 ++ enc 1 w.val
      | .queue =>
        match (s.chime.speaker sp).queue.findIdx? QueueEntry.playing with
        | some i => enc 1 1 ++ enc 1 i
        | none => enc 1 1 ++ [Config.goneQueuePosition s.own.free]
    enc 1 1 ++ src ++ enc 1 q.cls ++ enc 1 q.pattern.val ++ enc 1 (q.step + 1) ++ encBool (wanted s sp q)

/-- A queue entry in a reply. -/
def queueEntryField (e : QueueEntry) : List Byte :=
  enc 1 e.pattern.val ++ enc 1 e.cls ++ enc 1 (portNumber e.requester) ++ encBool e.playing

/-- A list in a reply: its count, its entries, and zeros to its capacity. -/
def listFields (capacity width : Nat) (entries : List (List Byte)) : List (List Byte) :=
  enc 1 entries.length :: entries ++ List.replicate (capacity - entries.length) (enc width 0)

/-- R136: the number of queue entries that a port has on a speaker. -/
def ownEntries (s : State) (p : Port) (sp : Speaker) : Nat :=
  ((s.chime.speaker sp).queue.filter fun e => e.requester == p).length

/-- R136: the fields of READ CHIMES. -/
def chimeFields (s : State) (p : Port) : List (List Byte) :=
  [enc 1 s.chime.quiet.toNat, encBool s.clock.mainFault, playField s .front, playField s .rear]
    ++ listFields 4 4 (s.chime.front.queue.map queueEntryField)
    ++ listFields 4 4 (s.chime.rear.queue.map queueEntryField)
    ++ [enc 1 (ownEntries s p .front), enc 1 (ownEntries s p .rear)]

/-- R136: READ CHIMES. -/
def readChimes (p : Port) (page : Byte) (s : State) : Answer := (s, pagedReply [] page (chimeFields s p))

/-- READ_CHIMES as a request of its port. -/
def serveReadChimes (p : Port) (page : Byte) (s : State) : State := answerAtOnce p (readChimes p page) s

/-- READ_CHIMES (R136). -/
def execReadChimes (p : Port) (page : Byte) (s : State) : Outcome := .next (serveReadChimes p page s)

end Sys2Proof.Machine
end

