-- ==== Sys2Proof/Machine/Fold.lean ====
section
/-! DEFINITION. The fold engine's events and commands (chapter 3): FOLD_EXPIRY, FOLD, MODEL_EXPIRY, TRANSFER_HOLD_END,
READ_FOLD, WRITE_SETTING_KR_KF. -/

namespace Sys2Proof.Machine

/-- A count of the fold buffer goes up by 1 when its condition holds, held at 65,535. -/
def bump (b : Bool) (n : Nat) : Nat := if b then min 65535 (n + 1) else n

/-- R39: the COOLANT channel is cold. -/
def coolantCold (s : State) : Bool :=
  s.meas.channels[2].state == .fault || decide (s.meas.channels[2].value < s.settings.work.cold)

/-- R39: the qs counts after a fold expiry. -/
def countQs (s : State) (q : QsCounts) : QsCounts where
  elapsed := bump true q.elapsed
  run := bump (level s 0) q.run
  moving := bump (moving s) q.moving
  engine := bump s.meas.running q.engine
  idle := bump (s.meas.running && !moving s) q.idle
  cold := q.cold || coolantCold s

/-- R41: a fold expiry that comes while a command holds the store is counted as come after the grant. -/
def countSince (s : State) : State :=
  s.withStore fun r => { r with grant := r.grant.map fun g => { g with since := countQs s g.since } }

/-- R39, R40: a fold expiry: the fold engine counts, then makes a request, or merges into the waiting one. -/
def foldExpiry (s : State) : State :=
  (countSince s).withFold fun f => { f with
    buf := f.buf.withQs (countQs s f.buf.qs), waiting := true
    merges := if f.waiting then min 255 (f.merges + 1) else 0 }

/-- FOLD_EXPIRY (R39, R40). -/
def execFoldExpiry (s : State) : Outcome :=
  if clocked s then .next (foldExpiry { s with timers := { s.timers with fold := quarterSecond } }) else .next s

/-- FOLD (R46): under its grant, taken whole (log 7). -/
def execFold (s : State) : Outcome :=
  if foldGranted s then .next (settle s ((performFold s).withFoldBare fun f => { f with waiting := false })) else .next s

/-- R53, R55: the divisor of the correction. -/
def correctionDivisor (s : State) : Int := if s.fold.hold = .off then 16 else 64

/-- R53: the correction of Q at a model expiry. -/
def correctTank (s : State) : State :=
  if (s.power.state = .run ∨ s.power.state = .acc) ∧ s.fold.tank.settled = true ∧ fuelFault s = false then
    let q := clampQ s (s.fold.tank.q + truncDiv (senderSum s - s.fold.tank.q) (correctionDivisor s))
    s.withFold fun f => { f with tank := { f.tank with q := q } }
  else s

/-- MODEL_EXPIRY (R53). -/
def execModelExpiry (s : State) : Outcome :=
  if clocked s then .next (correctTank { s with timers := { s.timers with model := fourSeconds } }) else .next s

/-- R55: the 60 s after the pump stopped are over. -/
def endHold (h : TransferHold) : TransferHold :=
  match h with
  | .ending _ => .off
  | .off => .off
  | .pumping => .pumping

/-- TRANSFER_HOLD_END (R55). -/
def execTransferHoldEnd (s : State) : Outcome :=
  if clocked s then .next (s.withFoldBare fun f => { f with hold := endHold f.hold }) else .next s

/-! ### READ FOLD (R57) -/

/-- R57: the asker's refuel mark. -/
def refuelMark (s : State) (p : Port) : Bool :=
  match p with
  | .front => s.fold.tank.front
  | .rear => s.fold.tank.rear
  | .service => s.fold.tank.service

/-- R57: the asker's refuel mark is cleared. -/
def clearRefuelMark (p : Port) (s : State) : State :=
  s.withFold fun f => { f with tank :=
    match p with
    | .front => { f.tank with front := false }
    | .rear => { f.tank with rear := false }
    | .service => { f.tank with service := false } }

/-- The number of a channel state in replies. -/
def ChannelState.toNat : ChannelState → Nat
  | .normal => 0
  | .counting => 1
  | .fault => 2

/-- R57, R173: the fields of READ FOLD; the refuel mark comes first, since page 0 carries it (log 13). Settled is sent as
01h, and the open segment's metres and millilitres are one field of 6 bytes, which a page holds whole (log 34). -/
def foldFields (s : State) (p : Port) : List (List Byte) :=
  let f := s.fold
  [encBool (refuelMark s p), encBool f.waiting, enc 1 f.merges, enc 2 f.buf.pulses, enc 3 f.buf.ticks, enc 2 f.buf.elapsed,
    enc 2 f.buf.run, enc 2 f.buf.moving, enc 2 f.buf.engine, enc 2 f.buf.idle, encBool f.buf.cold, enc 2 f.rd, enc 3 f.rf,
    enc 2 s.settings.work.kr, enc 2 s.settings.work.kf]
    ++ listFields 8 7 (f.window.map fun e => enc 2 e.metres ++ enc 3 e.ml ++ enc 2 e.qs)
    ++ listFields 10 6 (f.closed.map fun e => enc 3 e.metres ++ enc 3 e.ml)
    ++ [enc 3 f.seg.metres ++ enc 3 f.seg.ml, enc 3 f.tank.q, encBool f.tank.settled, encInt 3 (senderSum s),
      encInt 3 s.meas.channels[0].value, enc 1 s.meas.channels[0].state.toNat,
      encInt 3 s.meas.channels[1].value, enc 1 s.meas.channels[1].state.toNat,
      enc 3 s.settings.work.cm, enc 3 s.settings.work.ca, encBool (f.hold != .off), encBool f.lost]

/-- R57: READ FOLD. -/
def readFold (p : Port) (page : Byte) (s : State) : Answer :=
  (if page = 0 ∧ refuelMark s p = true then clearRefuelMark p s else s, pagedReply [] page (foldFields s p))

/-- READ_FOLD as a request of its port. -/
def serveReadFold (p : Port) (page : Byte) (s : State) : State := answerAtOnce p (readFold p page) s

/-- READ_FOLD (R57). -/
def execReadFold (p : Port) (page : Byte) (s : State) : Outcome := .next (serveReadFold p page s)

/-! ### WRITE SETTING of Kr or Kf (R49) -/

/-- R49: the value lies in its range. -/
def calInRange (c : CalConstant) (v : Nat) : Bool :=
  match c with
  | .kr => decide (1000 ≤ v) && decide (v ≤ 25000)
  | .kf => decide (1 ≤ v) && decide (v ≤ 4000)

/-- R49, R183: the arrival check. -/
def earlyKrKf (p : Port) (c : CalConstant) (v : BitVec 16) (s : State) : Option Status :=
  if p ≠ .service then some .denied
  else if calInRange c v.toNat = false then some .badArgument
  else faultRefusal s

/-- R49: the remainder of the constant is lost and the new constant is installed. -/
def installCal (c : CalConstant) (v : Nat) (s : State) : State :=
  match c with
  | .kr => (s.withFold fun f => { f with rd := 0 }).withWork fun w => { w with kr := v }
  | .kf => (s.withFold fun f => { f with rf := 0 }).withWork fun w => { w with kf := v }

/-- R49: the write under its grant; the reply is OK without content (log 18). -/
def workKrKf (c : CalConstant) (v : BitVec 16) (faultSeen : Bool) (s : State) : Answer :=
  if faultSeen then (s, .bare .clockFault) else (installCal c v.toNat (commandFold s), .bare .ok)

/-- WRITE_SETTING_KR_KF as a request of its port. -/
def serveWriteSettingKrKf (p : Port) (c : CalConstant) (v : BitVec 16) (s : State) : State :=
  underGrant p (.writeKrKf c v) (earlyKrKf p c v) (workKrKf c v) s

/-- WRITE_SETTING_KR_KF (R49). -/
def execWriteSettingKrKf (p : Port) (c : CalConstant) (v : BitVec 16) (s : State) : Outcome :=
  .next (settle s (serveWriteSettingKrKf p c v s))

end Sys2Proof.Machine
end

