-- ==== Sys2Proof/Machine/SettingsStore.lean ====
section
/-! DEFINITION. The settings commands (chapter 10): READ_SETTING, WRITE_SETTING. -/

namespace Sys2Proof.Machine

/-- R183: the points of a curve page, zeros where the curve has fewer. -/
def curvePoints (points : Curve) : List Byte := (((points.map encPoint) ++ List.replicate 4 (enc 5 0)).take 4).flatten

/-- R183: a page of a curve: the point count and points 1 to 4, or points 5 to 8. -/
def curvePage (c : Curve) (page : Nat) : List Byte :=
  if page = 0 then enc 1 c.length ++ curvePoints (c.take 4) else curvePoints (c.drop 4)

/-- R183: the number of pages of an item. -/
def settingPages (item : Nat) : Nat := if (itemCurve item).isSome then 2 else 1

/-- R183: the value of an item on a page. -/
def settingValue (w : Settings) (item page : Nat) : List Byte :=
  match itemCurve item with
  | some i => curvePage (w.curve i) page
  | none => encInt (itemWidth item) (w.number item)

/-- R183: the content of READ SETTING. -/
def settingContent (w : Settings) (item page : Nat) : List Byte :=
  enc 1 item ++ enc 1 page ++ enc 1 (settingPages item) ++ settingValue w item page

/-- R183: READ SETTING. -/
def readSetting (item page : Byte) (s : State) : Answer :=
  if 45 < item.toNat ∨ settingPages item.toNat ≤ page.toNat then (s, .bare .badArgument)
  else (s, ⟨.ok, settingContent s.settings.work item.toNat page.toNat⟩)

/-- READ_SETTING as a request of its port. -/
def serveReadSetting (p : Port) (item page : Byte) (s : State) : State := answerAtOnce p (readSetting item page) s

/-- READ_SETTING (R183). -/
def execReadSetting (p : Port) (item page : Byte) (s : State) : Outcome := .next (serveReadSetting p item page s)

/-! ### WRITE SETTING (R183) -/

/-- R183: the staging holds the part 0 of an item. -/
def stagingFor (s : State) (item : Nat) : Option Staging :=
  match s.settings.staging with
  | none => none
  | some g => if g.item = item then some g else none

/-- R183: a value has the length of its item (log 18). -/
def lengthGood (s : State) (item part : Nat) (value : List Byte) : Bool :=
  match itemCurve item with
  | none => decide (value.length = itemWidth item)
  | some _ =>
    if part = 0 then decide (value.length = 1 + 5 * min 4 (value.headD 0).toNat)
    else
      match stagingFor s item with
      | none => false
      | some g => decide (part = 1) && decide (value.length = 5 * (g.count - 4))

/-- R183: the reply to a write: the item as READ SETTING page 0 gives it. -/
def settingReply (s : State) (item : Nat) : Reply := ⟨.ok, settingContent s.settings.work item 0⟩

/-- R183: the staging is changed. -/
def setStaging (g : Option Staging) (s : State) : State := { s with settings := { s.settings with staging := g } }

/-- R15, R183: a complete curve is checked and installed, or refused; the staging is emptied. -/
def installCurve (item i : Nat) (c : Curve) (s : State) : Answer :=
  let s := setStaging none s
  if curveGood i c then
    let s := s.withWork fun w => w.setCurve i c
    (s, settingReply s item)
  else (s, .bare .badCurve)

/-- R183: part 0 of a curve. -/
def writePart0 (item i : Nat) (value : List Byte) (s : State) : Answer :=
  let n := (value.headD 0).toNat
  let points := decPoints (value.drop 1)
  if n < 2 ∨ 8 < n then (s, .bare .badCurve)
  else if n ≤ 4 then installCurve item i points s
  else
    let s := setStaging (some ⟨item, n, points⟩) s
    (s, settingReply s item)

/-- R183: part 1 of a curve. -/
def writePart1 (item i : Nat) (value : List Byte) (s : State) : Answer :=
  match stagingFor s item with
  | none => (s, .bare .badArgument)
  | some g => installCurve item i (g.points ++ decPoints value) s

/-- R51: after a write of a capacity Q is clamped. -/
def afterNumber (item : Nat) (s : State) : State := if item = 3 ∨ item = 4 then clampTank s else s

/-- R183: a number is checked against its range and installed. -/
def writeNumber (item : Nat) (value : List Byte) (s : State) : Answer :=
  let v : Int := if item = 33 then decInt value else decNat value
  match itemRange item with
  | none => (s, .bare .badArgument)
  | some r =>
    if inRange r v then
      let s := afterNumber item (s.withWork fun w => w.setNumber item v)
      (s, settingReply s item)
    else (s, .bare .badArgument)

/-- R183: WRITE SETTING of an item other than Kr and Kf. -/
def writeSetting (p : Port) (item part : Byte) (value : List Byte) (s : State) : Answer :=
  if p ≠ .service then (s, .bare .denied)
  else if 45 < item.toNat ∨ lengthGood s item.toNat part.toNat value = false then (s, .bare .badArgument)
  else if s.clock.mainFault then (s, .bare .clockFault)
  else
    match itemCurve item.toNat with
    | some i => if part = 0 then writePart0 item.toNat i value s else writePart1 item.toNat i value s
    | none => writeNumber item.toNat value s

/-- R49, R183: a WRITE SETTING of Kr or Kf of two bytes needs the grant; any other length is refused. -/
def writeConstant (p : Port) (item : Byte) (value : List Byte) : Option (CalConstant × BitVec 16) :=
  match value with
  | [a, b] => if p = .service then some (if item = 0 then .kr else .kf, a ++ b) else none
  | _ => none

/-- WRITE_SETTING as a request of its port. -/
def serveWriteSetting (p : Port) (item part : Byte) (value : List Byte) (s : State) : State :=
  if item.toNat ≤ 1 then
    match writeConstant p item value with
    | some q => serveWriteSettingKrKf p q.1 q.2 s
    | none => answerAtOnce p (fun s => (s, .bare (if p = .service then .badArgument else .denied))) s
  else answerAtOnce p (writeSetting p item part value) s

/-- WRITE_SETTING (R183). -/
def execWriteSetting (p : Port) (item part : Byte) (value : List Byte) (s : State) : Outcome :=
  .next (settle s (serveWriteSetting p item part value s))

end Sys2Proof.Machine
end

