-- ==== Sys2Proof/Machine/Service.lean ====
section
/-! DEFINITION. The service unit's commands (chapter 8): READ_SERVICE, RESET_SERVICE, WRITE_SERVICE_ITEM. -/

namespace Sys2Proof.Machine

/-- R85: the unit choice of a port: 0 METRIC, 1 US, 2 UK; the service line is METRIC. -/
def unitOf (s : State) (p : Port) : Nat :=
  match p with
  | .front => s.units.front
  | .rear => s.units.rear
  | .service => 0

/-- R149: the mark of a dimension: 0 USED, 1 UNUSED, 2 ABSENT. -/
def dimensionMark (used counts given : Bool) : Nat :=
  if used = false then 1 else if counts && given then 0 else 2

/-- R149: a dimension: its mark, and after it (log 39) its number when USED. -/
def dimensionField (w mark : Nat) (v : Int) : List Byte := enc 1 mark ++ encInt w (if mark = 0 then v else 0)

/-- R149: the remaining distance in the unit choice. -/
def shownDistance (unit : Nat) (v : Int) : Int := if unit = 0 then truncDiv v 1000 else truncDiv (v * 1000) 1609344

/-- R149: the definition of an item, field by field. -/
def definitionFields (d : ItemDef) : List (List Byte) :=
  [encBool d.enabled, enc 1 d.name, enc 3 d.km, enc 2 d.days, enc 2 d.hours, enc 3 d.noticeKm, enc 2 d.noticeDays,
    enc 2 d.noticeHours, enc 1 d.wn, enc 1 d.wc, enc 2 d.wi, encBool d.driver]

/-- R149: the fields of READ SERVICE for an item and a port. -/
def serviceFields (s : State) (p : Port) (k : Fin 8) : List (List Byte) :=
  let d := s.settings.work.items[k]
  let i := s.service.items[k]
  let days : Int := (i.due.getD 0 : Int) - today s
  definitionFields d
    ++ [enc 1 i.state.toNat,
      dimensionField 3 (dimensionMark (decide (0 < d.km)) i.counts true) (shownDistance (unitOf s p) i.dist),
      dimensionField 3 (dimensionMark (decide (0 < d.days)) i.counts i.due.isSome) days,
      dimensionField 2 (dimensionMark (decide (0 < d.hours)) i.counts true) (truncDiv i.time 360)]
    ++ (match p with
        | .service => [encInt 4 i.dist, encOpt 2 i.due, enc 2 (today s), encInt 3 i.time, enc 1 i.rq, enc 1 i.ri, enc 1 i.re]
        | .front => []
        | .rear => [])

/-- R149, R173: one page of READ SERVICE. -/
def servicePage (s : State) (p : Port) (k : Fin 8) (page : Byte) : Reply :=
  pagedReply (enc 1 k.val) page (serviceFields s p k)

/-- R149: READ SERVICE. -/
def readService (p : Port) (item page : Byte) (s : State) : Answer :=
  if h : item.toNat < 8 then (s, servicePage s p ⟨item.toNat, h⟩ page) else (s, .bare .badArgument)

/-- READ_SERVICE as a request of its port. -/
def serveReadService (p : Port) (item page : Byte) (s : State) : State := answerAtOnce p (readService p item page) s

/-- READ_SERVICE (R149). -/
def execReadService (p : Port) (item page : Byte) (s : State) : Outcome := .next (serveReadService p item page s)

/-- R173: page 0 of the READ SERVICE reply, with a status. -/
def serviceReplyPage (st : Status) (s : State) (p : Port) (k : Fin 8) : Reply :=
  { servicePage s p k 0 with status := st }

/-- R145, R146: an item gets a fresh start and the table is evaluated; the SERVICE notice is set. -/
def resetItem (k : Fin 8) (s : State) : State :=
  notifyBoth .service
    (evaluateFrom s.service.items
      (s.service.items.set k (freshItem s.settings.work.items[k] s.clock.unset (today s))) s)

/-- R146: RESET SERVICE. -/
def resetService (p : Port) (item : Byte) (s : State) : Answer :=
  if h : item.toNat < 8 then
    let k : Fin 8 := ⟨item.toNat, h⟩
    if p = .rear then (s, serviceReplyPage .denied s p k)
    else if s.clock.mainFault then (s, .bare .clockFault)
    else if p = .front ∧ (s.settings.work.items[k]).driver = false then (s, serviceReplyPage .denied s p k)
    else if (s.service.items[k]).state = .off then (s, serviceReplyPage .wrongState s p k)
    else
      let s := resetItem k s
      (s, serviceReplyPage .ok s p k)
  else (s, .bare .badArgument)

/-- RESET_SERVICE as a request of its port. -/
def serveResetService (p : Port) (item : Byte) (s : State) : State := answerAtOnce p (resetService p item) s

/-- RESET_SERVICE (R146). -/
def execResetService (p : Port) (item : Byte) (s : State) : Outcome := .next (settle s (serveResetService p item s))

/-- R148: the item of a definition that is written disabled. -/
def disabledItem : Item := ⟨.off, 0, none, 0, 0, 0, 0⟩

/-- R148: a definition is installed and the item has its fresh start, or becomes OFF. -/
def installItem (k : Fin 8) (d : ItemDef) (s : State) : State :=
  let i := if d.enabled then freshItem d s.clock.unset (today s) else disabledItem
  let s := s.withWork fun w => { w with items := w.items.set k d }
  notifyBoth .service (evaluateFrom s.service.items (s.service.items.set k i) s)

/-- R148: WRITE SERVICE ITEM. -/
def writeServiceItem (p : Port) (item : Byte) (args : ItemArgs) (s : State) : Answer :=
  if h : item.toNat < 8 then
    match ItemArgs.toDef args with
    | none => (s, .bare .badArgument)
    | some d =>
      if p ≠ .service then (s, .bare .denied)
      else if s.clock.mainFault then (s, .bare .clockFault)
      else
        let s := installItem ⟨item.toNat, h⟩ d s
        (s, serviceReplyPage .ok s p ⟨item.toNat, h⟩)
  else (s, .bare .badArgument)

/-- WRITE_SERVICE_ITEM as a request of its port. -/
def serveWriteServiceItem (p : Port) (item : Byte) (d : ItemArgs) (s : State) : State :=
  answerAtOnce p (writeServiceItem p item d) s

/-- WRITE_SERVICE_ITEM (R148). -/
def execWriteServiceItem (p : Port) (item : Byte) (d : ItemArgs) (s : State) : Outcome :=
  .next (settle s (serveWriteServiceItem p item d s))

end Sys2Proof.Machine
end

