-- ==== Sys2Proof/Machine/Trip.lean ====
section
/-! DEFINITION. The trip computer (chapter 5): the figures of R88 to R99, READ_DERIVED, READ_LIVE, SET_UNITS. -/

namespace Sys2Proof.Machine

/-- The validity marks (section 5.2). -/
inductive Mark where
  | valid
  | none
  | saturated
  | approx
  deriving DecidableEq, Repr

/-- R186: the number of a mark. -/
def Mark.toNat : Mark → Nat
  | .valid => 0
  | .none => 1
  | .saturated => 2
  | .approx => 3

/-- A figure with its mark. -/
structure Figure where
  number : Nat
  mark   : Mark
  deriving DecidableEq, Repr

/-- A figure marked NONE. -/
def Figure.absent : Figure := ⟨0, .none⟩

/-- R86: VALID, or APPROX when an input is incomplete. -/
def approxIf (b : Bool) (n : Nat) : Figure := ⟨n, if b then .approx else .valid⟩

/-- R86: a figure held at a ceiling: SATURATED above it, else APPROX or VALID. -/
def heldAt (ceiling : Nat) (approx : Bool) (n : Nat) : Figure :=
  if ceiling < n then ⟨ceiling, .saturated⟩ else approxIf approx n

/-! ### The figures of READ DERIVED (R88 to R92) -/

/-- R88: the distance figure. -/
def distanceFigure (unit d : Nat) : Nat := if unit = 0 then d / 100 else d * 10000 / 1609344

/-- R89, R98: millilitres in the fuel unit, truncated. -/
def fuelUnits (unit f : Nat) : Nat :=
  match unit with
  | 0 => f / 100
  | 1 => f * 264172 / 100000000
  | _ => f * 219969 / 100000000

/-- R89: the fuel figure. -/
def fuelFigure (unit f : Nat) (incomplete : Bool) : Figure :=
  if f = fuelCeiling then ⟨fuelUnits unit f, .saturated⟩ else approxIf incomplete (fuelUnits unit f)

/-- R90: the average speed. -/
def averageSpeed (unit d trun : Nat) (incomplete : Bool) : Figure :=
  if trun < 240 ∨ d < 100 then .absent
  else heldAt 2999 incomplete
    (if unit = 0 then roundHalfUp (144 * d) trun else roundHalfUp (1125000 * d) (12573 * trun))

/-- R91, R95: the economy of a distance and a fuel. -/
def economy (unit d f : Nat) : Nat :=
  match unit with
  | 0 => roundHalfUp (1000 * f) d
  | 1 => roundHalfUp (d * 235215) (f * 10000)
  | _ => roundHalfUp (d * 282481) (f * 10000)

/-- R91: the average economy. -/
def averageEconomy (unit d f : Nat) (incomplete : Bool) : Figure :=
  if d < 1000 ∨ f < 100 then .absent
  else if f = fuelCeiling then ⟨min 999 (economy unit d f), .saturated⟩
  else heldAt 999 incomplete (economy unit d f)

/-- R87, R92: the derived times are NONE for ODO and for a VACANT charter without end stamp. -/
def noTimes (s : State) (r : RecordNo) : Bool :=
  match r with
  | .odo => true
  | .charter => s.store.charter.phase == .vacant && s.store.charter.endStamp.isNone
  | .a => false
  | .b => false
  | .p => false

/-- A time figure (R92). -/
def timeFigure (gone approx : Bool) (n : Nat) : Figure := if gone then .absent else approxIf approx n

/-- R87: the six figures of a record: distance, fuel, average speed, average economy, elapsed, waiting. -/
structure Derived where
  distance : Figure
  fuel     : Figure
  speed    : Figure
  economy  : Figure
  elapsed  : Figure
  waiting  : Figure
  deriving DecidableEq, Repr

/-- R87 to R92: the figures of a record in a unit choice. -/
def derived (s : State) (r : RecordNo) (unit : Nat) : Derived :=
  let d := reportedDistance s r
  let dist : Figure := ⟨distanceFigure unit d, .valid⟩
  match bodyOf s r with
  | none => ⟨dist, .absent, .absent, .absent, .absent, .absent⟩
  | some t =>
    let f := reportedFuel s r
    let gone := noTimes s r
    ⟨dist, fuelFigure unit f t.fuelIncomplete, averageSpeed unit d t.runQs t.fuelIncomplete,
      averageEconomy unit d f t.fuelIncomplete, timeFigure gone t.timeDegraded (elapsed s r),
      timeFigure gone (t.timeDegraded || t.fuelIncomplete) (waiting s r)⟩

/-- Marks packed two bits each, lowest first. -/
def packMarks (ms : List Mark) : Nat := ms.foldr (fun m n => m.toNat + 4 * n) 0

/-- R186: the content of a READ DERIVED reply. -/
def derivedContent (s : State) (r : RecordNo) (unit : Nat) : List Byte :=
  let g := derived s r unit
  enc 1 (recordNumber r) ++ enc 1 (recordMarks s r) ++ enc 1 (phaseAcks s r) ++ enc 1 unit
    ++ enc 1 (packMarks [g.distance.mark, g.fuel.mark, g.speed.mark, g.economy.mark])
    ++ enc 1 (packMarks [g.elapsed.mark, g.waiting.mark])
    ++ enc 3 g.distance.number ++ enc 3 g.fuel.number ++ enc 2 g.speed.number ++ enc 2 g.economy.number
    ++ enc 4 g.elapsed.number ++ enc 4 g.waiting.number

/-- R63: the arrival check of READ DERIVED. -/
def earlyReadDerived (record : Byte) (_ : State) : Option Status :=
  if 4 < record.toNat then some .badArgument else none

/-- R87: READ DERIVED under its grant. -/
def workReadDerived (p : Port) (record : Byte) (_ : Bool) (s : State) : Answer :=
  match recordOf record.toNat with
  | none => (s, .bare .badArgument)
  | some r =>
    let s := verifyRecord r s
    (s, ⟨.ok, derivedContent s r (unitOf s p)⟩)

/-- READ_DERIVED as a request of its port. -/
def serveReadDerived (p : Port) (record : Byte) (s : State) : State :=
  underGrant p (.readDerived record) (earlyReadDerived record) (workReadDerived p record) s

/-- READ_DERIVED (R87). -/
def execReadDerived (p : Port) (record : Byte) (s : State) : Outcome := .next (settle s (serveReadDerived p record s))

/-! ### The figures of READ LIVE (R94 to R99) -/

/-- R94: the speed figure. -/
def speedFigure (unit v : Nat) : Nat := if unit = 0 then v else roundHalfUp (v * 15625) 25146

/-- R95: the sums over the window ring: metres, millilitres, qs. -/
def windowSums (s : State) : Nat × Nat × Nat :=
  ((s.fold.window.map WindowEntry.metres).sum, (s.fold.window.map WindowEntry.ml).sum,
    (s.fold.window.map WindowEntry.qs).sum)

/-- R95: the kind of the instant figure is ECONOMY. -/
def instantEconomyKind (s : State) : Bool := decide (20 ≤ (windowSums s).1) && moving s

/-- R95: the instant economy. -/
def instantEconomy (unit d f : Nat) : Figure :=
  if f = 0 ∧ unit ≠ 0 then ⟨999, .saturated⟩ else heldAt 999 false (economy unit d f)

/-- R96: the instant flow. -/
def instantFlow (unit f w : Nat) : Figure :=
  if w = 0 then .absent
  else heldAt 999 false
    (match unit with
      | 0 => roundHalfUp (144 * f) w
      | 1 => roundHalfUp (144 * f * 264172) (w * 1000000)
      | _ => roundHalfUp (144 * f * 219969) (w * 1000000))

/-- R95, R96: the instant figure. -/
def instantFigure (s : State) (unit : Nat) : Figure :=
  let q := windowSums s
  if instantEconomyKind s then instantEconomy unit q.1 q.2.1 else instantFlow unit q.2.1 q.2.2

/-- R97: the sums over the range ring. -/
def rangeMetres (s : State) : Nat := (s.fold.closed.map Segment.metres).sum + s.fold.seg.metres

/-- R97: the millilitres over the range ring. -/
def rangeMl (s : State) : Nat := (s.fold.closed.map Segment.ml).sum + s.fold.seg.ml

/-- R97: the ring's own economy is used. -/
def ringEconomy (s : State) : Bool := decide (5000 ≤ rangeMetres s) && decide (100 ≤ rangeMl s)

/-- R97: the range in metres. -/
def rangeInMetres (s : State) : Nat :=
  if ringEconomy s then s.fold.tank.q * rangeMetres s / rangeMl s
  else 1000 * s.fold.tank.q / s.settings.work.economy

/-- R97: the range figure. -/
def rangeFigure (s : State) (unit : Nat) : Figure :=
  if s.fold.tank.settled = false then .absent
  else heldAt 1999 (!ringEconomy s || fuelFault s)
    (if unit = 0 then rangeInMetres s / 1000 else rangeInMetres s * 1000 / 1609344)

/-- R98: the fuel remaining. -/
def fuelRemaining (s : State) (unit : Nat) : Figure :=
  if s.fold.tank.settled = false then .absent else approxIf (fuelFault s) (fuelUnits unit s.fold.tank.q)

/-- R99: a temperature. -/
def temperature (unit : Nat) (c : Int) : Int := if unit = 1 then roundSigned (9 * c) 5 + 32 else c

/-- R186: the content of a READ LIVE reply. -/
def liveContent (s : State) (unit : Nat) : List Byte :=
  let inst := instantFigure s unit
  let range := rangeFigure s unit
  let fuel := fuelRemaining s unit
  enc 1 unit
    ++ enc 1 (packBits [moving s, s.clock.mainFault, !instantEconomyKind s])
    ++ enc 1 (packMarks [.valid, inst.mark, range.mark, fuel.mark])
    ++ enc 2 (speedFigure unit s.meas.speed) ++ enc 2 s.meas.rpm ++ enc 2 inst.number ++ enc 2 range.number
    ++ enc 2 fuel.number
    ++ encInt 2 (temperature unit s.meas.channels[5].value) ++ encInt 2 (temperature unit s.meas.channels[2].value)
    ++ enc 1 (channelStateOf s.meas.channels[5].state + 4 * channelStateOf s.meas.channels[2].state)
where
  /-- The number of a channel state in the live reply. -/
  channelStateOf : ChannelState → Nat
    | .normal => 0
    | .counting => 1
    | .fault => 2

/-- R93: READ LIVE. -/
def readLive (p : Port) (s : State) : Answer := (s, ⟨.ok, liveContent s (unitOf s p)⟩)

/-- READ_LIVE as a request of its port. -/
def serveReadLive (p : Port) (s : State) : State := answerAtOnce p (readLive p) s

/-- READ_LIVE (R93). -/
def execReadLive (p : Port) (s : State) : Outcome := .next (serveReadLive p s)

/-! ### SET UNITS (R84) -/

/-- R83, R84: a console's choice is stored, with the check word recomputed. -/
def Units.store (p : Port) (n : Nat) (u : Units) : Units :=
  match p with
  | .front => ⟨n, u.rear, unitCheck n u.rear⟩
  | .rear => ⟨u.front, n, unitCheck u.front n⟩
  | .service => u

/-- R84: SET UNITS; a choice equal to the one held changes nothing. -/
def setUnits (p : Port) (choice : Byte) (s : State) : Answer :=
  if 2 < choice.toNat then (s, .bare .badArgument)
  else if p = .service then (s, .bare .denied)
  else if s.clock.mainFault then (s, .bare .clockFault)
  else
    (if unitOf s p = choice.toNat then s else { s with units := s.units.store p choice.toNat }, ⟨.ok, [choice]⟩)

/-- SET_UNITS as a request of its port. -/
def serveSetUnits (p : Port) (choice : Byte) (s : State) : State := answerAtOnce p (setUnits p choice) s

/-- SET_UNITS (R84). -/
def execSetUnits (p : Port) (choice : Byte) (s : State) : Outcome := .next (serveSetUnits p choice s)

end Sys2Proof.Machine
end

