-- ==== Sys2Proof/Machine/Warnings.lean ====
section
/-! DEFINITION. The warning unit's commands and events (chapter 6): WARNING_EXPIRY, READ_WARNINGS, ACK_WARNING, REAR_CALL,
SET_OVERSPEED, WARNING_TEST. -/

namespace Sys2Proof.Machine

/-! ### Sampled definitions (R101, R103) -/

/-- R101: a sampled definition at an expiry: gate, condition, release condition, qualify and release times in qs. -/
structure Sample where
  gate     : Bool
  holds    : Bool
  releases : Bool
  qualify  : Nat
  release  : Nat
  deriving DecidableEq, Repr

/-- A definition whose release condition is that its condition does not hold. -/
def plainSample (gate holds : Bool) (qualify release : Nat) : Sample := ⟨gate, holds, !holds, qualify, release⟩

/-- A channel value read in a condition, with the condition false in FAULT (R101). -/
def channelHolds (c : Channel) (f : Int → Bool) : Bool := c.state != .fault && f c.value

/-- R101: a record of A, B, P and CHARTER is DAMAGED. -/
def anyDamaged (s : State) : Bool :=
  s.store.a.body.damaged || s.store.b.body.damaged || s.store.p.body.damaged || s.store.charter.body.damaged

/-- R101: the sampled definitions; the others are handed. -/
def sample (s : State) (w : Fin 24) : Option Sample :=
  let run := s.power.state == .run
  let runAcc := s.power.state == .run || s.power.state == .acc
  let off := !level s 0 && !level s 1
  let t := s.settings.work.thresholds
  let speed : Int := s.meas.speed
  match w.val with
  | 0 => some (plainSample runAcc
      (channelHolds s.meas.channels[3] (fun v => decide (v < t[0])) && decide (s.warn.engineRun = 20)) 8 4)
  | 1 => some (plainSample runAcc (channelHolds s.meas.channels[2] fun v => decide (t[1] ≤ v)) 20 20)
  | 2 => some (plainSample runAcc (level s 11 || (level s 9 && decide (t[2] < speed))) 4 4)
  | 3 => some (plainSample runAcc
      (channelHolds s.meas.channels[4] fun v => (decide (v < t[3]) && s.meas.running) || decide (t[4] < v)) 40 8)
  | 4 => some ⟨runAcc, s.fold.tank.settled && decide ((s.fold.tank.q : Int) < t[5]),
      decide (t[5] + 2000 < (s.fold.tank.q : Int)) || !s.fold.tank.settled, 40, 0⟩
  | 5 => some (plainSample runAcc (level s 13) 20 20)
  | 6 => some (plainSample true (decide (openDoors s ≠ 0) && moving s) 4 4)
  | 7 => some (plainSample true (level s 7 && moving s) 4 4)
  | 8 => some (plainSample run
      (level s 0 && !level s 10 && (decide (s.warn.runCount < 32) || decide (t[6] < speed))) 0 0)
  | 9 => some (plainSample true (level s 2 && off && level s 3) 0 0)
  | 10 => some (plainSample true (level s 8 && off && level s 3) 0 0)
  | 11 => some (plainSample runAcc (level s 12) 20 20)
  | 12 => some ⟨runAcc, decide (s.warn.limit ≠ 0) && decide ((s.warn.limit : Int) < speed),
      decide (s.warn.limit = 0) || decide (speed < (s.warn.limit : Int) - 50), 8, 0⟩
  | 16 => some ⟨true, false, !anyDamaged s, 0, 0⟩
  | 18 => some ⟨runAcc, channelHolds s.meas.channels[5] fun v => decide (v ≤ t[7]),
      s.meas.channels[5].state == .fault || decide (t[7] + 2 < s.meas.channels[5].value), 120, 0⟩
  | 21 => some (plainSample runAcc (level s 14 && channelHolds s.meas.channels[1] fun v => decide (v < t[8])) 40 8)
  | 22 => some ⟨runAcc, decide (t[9] < (s.meas.rpm : Int)), decide ((s.meas.rpm : Int) < t[9] - 200), 2, 0⟩
  | _ => none

/-- The qualify and release counts of a definition are set. -/
def setCounts (w : Fin 24) (q r : Nat) (s : State) : State :=
  { s with warn := { s.warn with
      qualify := s.warn.qualify.setIfInBounds w.val q, release := s.warn.release.setIfInBounds w.val r } }

/-- An ACTIVE entry of the definition stands. -/
def activeStands (s : State) (w : Fin 24) : Bool := s.warn.list.any fun e => e.w == w && !e.cleared

/-- R106: the detail of a sampled raise. -/
def sampledDetail (s : State) (w : Fin 24) : BitVec 8 := if w = 6 then openDoors s else 0

/-- R103: one sampled definition at a warning expiry. -/
def sampleOne (s : State) (w : Fin 24) : State :=
  match sample s w with
  | none => s
  | some x =>
    if x.gate = false then release w (setCounts w 0 0 s)
    else if x.holds then
      let n := min x.qualify (s.warn.qualify[w] + 1)
      let s := setCounts w n 0 s
      if activeStands s w || decide (x.qualify ≤ n) then raise w false (sampledDetail s w) s else s
    else if x.releases then
      let n := min x.release (s.warn.release[w] + 1)
      let s := setCounts w 0 n s
      if x.release ≤ n then release w s else s
    else setCounts w 0 0 s

/-- R103: the engine run count and the RUN count are stepped. -/
def stepCounters (s : State) : State :=
  { s with warn := { s.warn with
      engineRun := if s.meas.running then min 20 (s.warn.engineRun + 1) else 0
      runCount := if s.power.state = .run then min 32 (s.warn.runCount + 1) else 0 } }

/-- R103: the warning expiry, definition by definition in the order of their numbers (log 23). -/
def sampleAll (s : State) : State := (List.finRange 24).foldl sampleOne (stepCounters s)

/-- WARNING_EXPIRY (R103). -/
def execWarningExpiry (s : State) : Outcome :=
  if clocked s then
    .next (settle s (sampleAll { s with timers := { s.timers with warning := quarterSecond } }))
  else .next s

/-! ### READ WARNINGS (R114) -/

/-- R114, R186: an entry as a port is given it. -/
def entryField (p : Port) (e : Entry) : List Byte :=
  let front := match p with | .front => e.ackFront | .rear => false | .service => e.ackFront
  let rear := match p with | .front => false | .rear => e.ackRear | .service => e.ackRear
  let flags := (warnDef e.w).cls + 8 * e.cleared.toNat + 16 * front.toNat + 32 * rear.toNat + 64 * (fullyAcked e).toNat
    + 128 * e.detail.isSome.toNat
  enc 1 e.w.val ++ enc 1 flags ++ enc 4 e.stamp ++ (match e.detail with | none => [] | some d => [d])

/-- R114: whole entries that fit a budget of bytes. -/
def fitEntries : Nat → List (List Byte) → List Byte
  | _, [] => []
  | budget, f :: fs => if f.length ≤ budget then f ++ fitEntries (budget - f.length) fs else []

/-- R113: the view sequence of a port. -/
def viewSeq (s : State) (p : Port) : Nat :=
  match p with
  | .front => s.warn.seqFront
  | .rear => s.warn.seqRear
  | .service => s.warn.seqService

/-- R114: READ WARNINGS. -/
def readWarnings (p : Port) (start : Byte) (s : State) : Answer :=
  if 23 < start.toNat then (s, .bare .badArgument)
  else
    let v := viewList p s.warn.list
    (s, ⟨.ok, enc 2 (viewSeq s p) ++ enc 1 v.length
      ++ fitEntries 26 (((v.drop start.toNat).take 4).map (entryField p))⟩)

/-- READ_WARNINGS as a request of its port. -/
def serveReadWarnings (p : Port) (start : Byte) (s : State) : State := answerAtOnce p (readWarnings p start) s

/-- READ_WARNINGS (R114). -/
def execReadWarnings (p : Port) (start : Byte) (s : State) : Outcome := .next (serveReadWarnings p start s)

/-! ### ACK WARNING (R110) -/

/-- R110: the rule lets the port hold an ack. -/
def mayAck (p : Port) (w : Fin 24) : Bool :=
  match (warnDef w).ack, p with
  | .front, .front => true
  | .rear, .rear => true
  | .either, .front => true
  | .either, .rear => true
  | .front, .rear => false
  | .front, .service => false
  | .rear, .front => false
  | .rear, .service => false
  | .either, .service => false
  | .none, _ => false

/-- The port's own ack on an entry. -/
def Entry.acked (e : Entry) (p : Port) : Bool :=
  match p with
  | .front => e.ackFront
  | .rear => e.ackRear
  | .service => false

/-- The entry with the port's ack set; when that makes it fully acknowledged its chime states are DONE. -/
def Entry.withAck (e : Entry) (p : Port) : Entry :=
  let a : Entry :=
    match p with
    | .front => { e with ackFront := true }
    | .rear => { e with ackRear := true }
    | .service => e
  if fullyAcked a && !fullyAcked e then
    { a with chimeFront := a.chimeFront.map fun _ => ⟨.done, none⟩, chimeRear := a.chimeRear.map fun _ => ⟨.done, none⟩ }
  else a

/-- R110: an acknowledged entry that is removed at once: CLEARED, or momentary. -/
def removedByAck (e : Entry) : Bool := fullyAcked e && (e.cleared || momentary e.w)

/-- R110, R186: a reply with one entry, after the removed flag. -/
def entryReply (st : Status) (p : Port) (removed : Bool) (e : Entry) : Reply := ⟨st, encBool removed ++ entryField p e⟩

/-- R110: a DENIED reply carries the entry if it lies in the asker's view. -/
def deniedEntry (p : Port) (w : Fin 24) (s : State) : Reply :=
  match findEntry w (viewList p s.warn.list) with
  | none => .bare .denied
  | some e => entryReply .denied p false e

/-- R110: the ack of a standing entry. -/
def ackEntry (p : Port) (e : Entry) (s : State) : Answer :=
  if mayAck p e.w = false then (s, deniedEntry p e.w s)
  else if e.acked p then (s, entryReply .ok p false e)
  else
    let a := e.withAck p
    if removedByAck a then (s.withList (dropEntry e.w s.warn.list), entryReply .ok p true a)
    else (s.withList (mapEntry e.w (fun x => x.withAck p) s.warn.list), entryReply .ok p false a)

/-- R110: ACK WARNING. -/
def ackWarning (p : Port) (id : Byte) (s : State) : Answer :=
  if h : id.toNat < 24 then
    let w : Fin 24 := ⟨id.toNat, h⟩
    if p = .service then (s, deniedEntry p w s)
    else if s.clock.mainFault then (s, .bare .clockFault)
    else
      match findEntry w s.warn.list with
      | none => (s, .bare .notActive)
      | some e => ackEntry p e s
  else (s, .bare .badArgument)

/-- ACK_WARNING as a request of its port. -/
def serveAckWarning (p : Port) (id : Byte) (s : State) : State := answerAtOnce p (ackWarning p id) s

/-- ACK_WARNING (R110). -/
def execAckWarning (p : Port) (id : Byte) (s : State) : Outcome := .next (settle s (serveAckWarning p id s))

/-! ### REAR CALL, SET OVERSPEED, WARNING TEST (R112, R117, R118) -/

/-- R112: REAR CALL. -/
def rearCall (p : Port) (s : State) : Answer :=
  if p ≠ .rear then (s, .bare .denied)
  else if s.clock.mainFault then (s, .bare .clockFault)
  else
    let s := raise 19 false 0 s
    match findEntry 19 s.warn.list with
    | none => (s, .bare .ok)
    | some e => (s, entryReply .ok p false e)

/-- REAR_CALL as a request of its port. -/
def serveRearCall (p : Port) (s : State) : State := answerAtOnce p (rearCall p) s

/-- REAR_CALL (R112). -/
def execRearCall (p : Port) (s : State) : Outcome := .next (settle s (serveRearCall p s))

/-- R117: the limit is stored with its check word. -/
def storeLimit (n : Nat) (s : State) : State := { s with warn := { s.warn with limit := n, limitCheck := limitCheck n } }

/-- R117: SET OVERSPEED. -/
def setOverspeed (p : Port) (limit : BitVec 16) (s : State) : Answer :=
  if p ≠ .front then (s, .bare .denied)
  else if s.clock.mainFault then (s, .bare .clockFault)
  else (storeLimit (min 2550 limit.toNat) s, ⟨.ok, enc 2 (min 2550 limit.toNat)⟩)

/-- SET_OVERSPEED as a request of its port. -/
def serveSetOverspeed (p : Port) (limit : BitVec 16) (s : State) : State := answerAtOnce p (setOverspeed p limit) s

/-- SET_OVERSPEED (R117). -/
def execSetOverspeed (p : Port) (limit : BitVec 16) (s : State) : Outcome :=
  .next (settle s (serveSetOverspeed p limit s))

/-- R36: a lamp test starts. -/
def startLampTest (l : Option (Fin 8)) (s : State) : State :=
  match l with
  | none => s
  | some k => { s with gauge := { s.gauge with lampTests := s.gauge.lampTests.setIfInBounds k.val (some lampHold) } }

/-- R118: the test of a definition. -/
def testDefinition (w : Fin 24) (s : State) : Answer :=
  match (warnDef w).pattern with
  | none => (startLampTest (warnDef w).lamp s, .bare .ok)
  | some n =>
    let a := queuePattern ⟨n, 3, .service, false⟩ (warnDef w).onFront (warnDef w).onRear s
    if a.2.status = .full then (s, .bare .full) else (startLampTest (warnDef w).lamp a.1, .bare .ok)

/-- R118: WARNING TEST. -/
def warningTest (p : Port) (id : Byte) (s : State) : Answer :=
  if h : id.toNat < 24 then
    if p ≠ .service then (s, .bare .denied)
    else if s.clock.mainFault then (s, .bare .clockFault)
    else testDefinition ⟨id.toNat, h⟩ s
  else (s, .bare .badArgument)

/-- WARNING_TEST as a request of its port. -/
def serveWarningTest (p : Port) (id : Byte) (s : State) : State := answerAtOnce p (warningTest p id) s

/-- WARNING_TEST (R118). -/
def execWarningTest (p : Port) (id : Byte) (s : State) : Outcome := .next (settle s (serveWarningTest p id s))

end Sys2Proof.Machine
end

