-- ==== Sys2Proof/Machine/Ports.lean ====
section
/-! DEFINITION. The port block (chapter 10): the dispatch of requests (R172), LINK_SELECT, LINK_TRANSACTION_END,
SILENCE_TIMER_EXPIRY, SERVICE_START_BIT, SERVICE_BYTE_RECEIVED, SERVICE_FRAME_END, SERVICE_QUIET_EXPIRY,
SERVICE_TRANSMIT_START, SERVICE_FRAME_SENT, READ_NOTICES, READ_STATUS. -/

namespace Sys2Proof.Machine

/-! ### READ NOTICES and READ STATUS (R175, R180) -/

/-- R175: READ NOTICES. -/
def readNotices (p : Port) (s : State) : Answer :=
  match p with
  | .front => (s.setLink .front { s.port.front with notices := 0 }, ⟨.ok, [s.port.front.notices]⟩)
  | .rear => (s.setLink .rear { s.port.rear with notices := 0 }, ⟨.ok, [s.port.rear.notices]⟩)
  | .service => (s, .bare .denied)

/-- READ_NOTICES as a request of its port. -/
def serveReadNotices (p : Port) (s : State) : State := answerAtOnce p (readNotices p) s

/-- READ_NOTICES (R175). -/
def execReadNotices (p : Port) (s : State) : Outcome := .next (serveReadNotices p s)

/-- The number of a commit result in replies. -/
def CommitResult.toNat : CommitResult → Nat
  | .none => 0
  | .inProgress => 1
  | .ok => 2
  | .failed => 3

/-- R180: the content of READ STATUS. -/
def statusContent (s : State) : List Byte :=
  enc 1 s.power.state.toNat ++ encOpt 1 (s.power.park.map ParkCause.toNat)
    ++ enc 1 (packBits [s.clock.unset, s.clock.onRc, s.clock.mainFault]) ++ encBool s.settings.defaulted
    ++ encBool s.store.logPos.isNone ++ enc 1 (!s.store.odo.allowanceOpen).toNat ++ enc 1 s.settings.commit.toNat
    ++ encBool (nvBusy s)

/-- R180: READ STATUS. -/
def readStatus (s : State) : Answer := (s, ⟨.ok, statusContent s⟩)

/-- READ_STATUS as a request of its port. -/
def serveReadStatus (p : Port) (s : State) : State := answerAtOnce p readStatus s

/-- READ_STATUS (R180). -/
def execReadStatus (p : Port) (s : State) : Outcome := .next (serveReadStatus p s)

/-! ### Dispatch (R172) -/

/-- R172: a request goes to the block that owns its command. -/
def serve (p : Port) (r : Request) (s : State) : State :=
  match r with
  | .readStatus => serveReadStatus p s
  | .readNotices => serveReadNotices p s
  | .readSetting item page => serveReadSetting p item page s
  | .writeSetting item part value => serveWriteSetting p item part value s
  | .writeKrKf c v => serveWriteSettingKrKf p c v s
  | .commitSettings => serveCommitSettings p s
  | .readInputs page => serveReadInputs p page s
  | .readGauges page => serveReadGauges p page s
  | .gaugeSet g a => serveGaugeSet p g a s
  | .gaugeRelease g => serveGaugeRelease p g s
  | .readFold page => serveReadFold p page s
  | .readRecord n page => serveReadRecord p n page s
  | .clearRecord n => serveClearRecord p n s
  | .charterOpen => serveCharterOpen p s
  | .charterClose => serveCharterClose p s
  | .charterAck => serveCharterAck p s
  | .charterRelease => serveCharterRelease p s
  | .odoPreset v => serveOdoPreset p v s
  | .readDerived n => serveReadDerived p n s
  | .readLive => serveReadLive p s
  | .setUnits c => serveSetUnits p c s
  | .readWarnings n => serveReadWarnings p n s
  | .ackWarning id => serveAckWarning p id s
  | .rearCall => serveRearCall p s
  | .setOverspeed n => serveSetOverspeed p n s
  | .warningTest id => serveWarningTest p id s
  | .playChime a b c => servePlayChime p a b c s
  | .cancelChimes => serveCancelChimes p s
  | .rearQuiet a => serveRearQuiet p a s
  | .readChimes page => serveReadChimes p page s
  | .readService k page => serveReadService p k page s
  | .resetService k => serveResetService p k s
  | .writeServiceItem k d => serveWriteServiceItem p k d s
  | .readClock => serveReadClock p s
  | .setClock n => serveSetClock p n s
  | .trimClock n => serveTrimClock p n s
  | .setAlarm n => serveSetAlarm p n s
  | .clearAlarm => serveClearAlarm p s
  | .keepAwake n => serveKeepAwake p n s
  | .readWakeCauses => serveReadWakeCauses p s

/-- R172: a well-formed frame: its request is executed, or refused by its code or length. -/
def dispatch (p : Port) (code : Byte) (args : List Byte) (s : State) : State :=
  match requestOf code args with
  | some r => serve p r s
  | none => deliver p (.bare (refusalOf code)) s

/-! ### The links (R168 to R171, R176) -/

/-- The wake source of a link (R165). -/
def linkSource : Link → WakeSource
  | .front => .frontLink
  | .rear => .rearLink

/-- R171: the outgoing frame that the slot gives at SELECT. -/
def outgoing (slot : ReqSlot) : Outgoing :=
  match slot with
  | .empty => .idle
  | .waiting _ => .busy
  | .done r => .reply r

/-- R168, R171: SELECT is asserted on a link that receives. -/
def selectLink (l : Link) (s : State) : State :=
  match (s.link l).select with
  | none => s.setLink l { s.link l with select := some (outgoing (s.link l).slot) }
  | some _ => s

/-- LINK_SELECT (R168, R171); in PARKED the select can fire the link's wake source (R165). -/
def execLinkSelect (l : Link) (s : State) : Outcome :=
  if alive s then .next (selectLink l s) else .next (fireSource (linkSource l) s)

/-- The member of W23's link set that a link is (R106). -/
def linkMember (l : Link) : BitVec 8 :=
  match l with
  | .front => member 0
  | .rear => member 1

/-- R176: the transaction end restarts the silence timer and ends the link's silence. -/
def endSilence (l : Link) (s : State) : State :=
  let was := (s.link l).silent
  let s := s.setLink l { s.link l with silence := 0, silent := false }
  if was then dropMember 23 (linkMember l) s else s

/-- R168: the transaction end is handed to the neighbours of the port block. -/
def handEnd (l : Link) (s : State) : State := activity (endSilence l s)

/-- R171: the slot is emptied as the reply it carried is gone. -/
def emptySlot (l : Link) (s : State) : State := s.setLink l { s.link l with slot := .empty }

/-- R170, R171, R172: the incoming bytes act on a slot that is not WAITING; `out` was the outgoing frame. -/
def takeIncoming (l : Link) (out : Outgoing) (incoming : List Byte) (s : State) : State :=
  match judge incoming with
  | .poll =>
    match out with
    | .idle => s
    | .busy => s
    | .reply _ => emptySlot l s
  | .bad => deliver l.port (.bare .checkError) s
  | .request code args => dispatch l.port code args (emptySlot l s)

/-- R171: the transaction was a BUSY one, or the slot is WAITING: the incoming frame is discarded. -/
def discards (out : Outgoing) (slot : ReqSlot) : Bool :=
  out == .busy || match slot with | .waiting _ => true | .empty => false | .done _ => false

/-- R168: SELECT is released and the transaction end is handed on. What the hand-offs leave settled, a view changed by a
removed W23 among it (R113, R176), stands when the request is judged (R172). -/
def closeTransaction (l : Link) (s : State) : State :=
  settle s (handEnd l (s.setLink l { s.link l with select := none }))

/-- R168, R171: SELECT is released: the transaction end is handed on, then the slot acts. -/
def endTransaction (l : Link) (incoming : List Byte) (s : State) : State :=
  match (s.link l).select with
  | none => s
  | some out =>
    let s := closeTransaction l s
    if discards out (s.link l).slot then s else settle s (takeIncoming l out incoming s)

/-- LINK_TRANSACTION_END (R168, R171). -/
def execLinkTransactionEnd (l : Link) (incoming : List Byte) (s : State) : Outcome :=
  if alive s then .next (endTransaction l incoming s) else .next s

/-- R176: the silence timers count in RUN and ACC. -/
def silenceCounts (s : State) : Bool := alive s && (s.power.state == .run || s.power.state == .acc)

/-- R176: a link becomes silent, and W23 is raised with it. -/
def becomeSilent (l : Link) (s : State) : State :=
  raise 23 true (linkMember l) (s.setLink l { s.link l with silence := silencePeriod, silent := true })

/-- SILENCE_TIMER_EXPIRY (R176). -/
def execSilenceTimerExpiry (l : Link) (s : State) : Outcome :=
  if silenceCounts s && !(s.link l).silent then .next (settle s (becomeSilent l s)) else .next s

/-! ### The service line (R177 to R179) -/

/-- The state with the service line changed. -/
def State.withService (s : State) (f : ServiceLine → ServiceLine) : State :=
  { s with port := { s.port with service := f s.port.service } }

/-- SERVICE_START_BIT (R177); in PARKED it can fire the SERVICE LINE wake source. -/
def execServiceStartBit (s : State) : Outcome :=
  if alive s then .next (settle s (activity (s.withService fun x => { x with quiet := 0 })))
  else .next (fireSource .serviceLine s)

/-- R178: a frame is complete when L bytes have come. -/
def frameComplete (bytes : List Byte) : Bool :=
  decide (3 ≤ (bytes.headD 0).toNat) && decide ((bytes.headD 0).toNat ≤ 32) && decide ((bytes.headD 0).toNat ≤ bytes.length)

/-- R29: a frame that ends on the service line restarts the manual silence count, in a main-clock fault too, where the steps
that count stand still (log 40). -/
def frameActivity (s : State) : State :=
  { s with gauge := { s.gauge with silence := s.gauge.silence.map fun _ => 0 } }

/-- R178, R179: a complete frame is taken as a request, or answered CHECK_ERROR or BUSY. -/
def takeFrame (bytes : List Byte) (s : State) : State :=
  match judgeFrame bytes with
  | .poll => s
  | .bad => serviceReply (.bare .checkError) s
  | .request code args =>
    match s.port.service.request with
    | some _ => serviceReply (.bare .busy) s
    | none => dispatch .service code args s

/-- R178, R179: the end of a service frame. -/
def endFrame (s : State) : State :=
  match s.port.service.rx with
  | .building bytes =>
    if frameComplete bytes then takeFrame bytes (frameActivity (s.withService fun x => { x with rx := .building [] })) else s
  | .waitQuiet => s
  | .discarding => s

/-- SERVICE_FRAME_END (R178, R179). -/
def execServiceFrameEnd (s : State) : Outcome := if alive s then .next (settle s (endFrame s)) else .next s

/-- R178: a length byte that no frame has. -/
def badLength (b : Byte) : Bool := decide (b.toNat ≤ 2) || decide (33 ≤ b.toNat)

/-- R178: the receiver takes a byte; a byte while the part transmits is an overrun. -/
def takeByte (b : Byte) (good transmitting : Bool) (rx : Receiver) : Receiver :=
  match rx with
  | .waitQuiet => .waitQuiet
  | .discarding => .discarding
  | .building bytes =>
    if transmitting || !good || (bytes.isEmpty && badLength b) then .discarding else .building (bytes ++ [b])

/-- R178: the frame that is complete but not yet taken ends before the byte that follows it is taken. -/
def receiveByte (b : Byte) (good : Bool) (s : State) : State :=
  (endFrame s).withService fun x => { x with rx := takeByte b good x.transmitting x.rx }

/-- SERVICE_BYTE_RECEIVED (R178). -/
def execServiceByteReceived (b : Byte) (good : Bool) (s : State) : Outcome :=
  if alive s then .next (settle s (receiveByte b good s)) else .next s

/-- R178: a discarded frame, or one cut by a gap, is owed a LINE_ERROR. -/
def owesLineError (rx : Receiver) : Bool :=
  match rx with
  | .waitQuiet => false
  | .discarding => true
  | .building bytes => !bytes.isEmpty && !frameComplete bytes

/-- SERVICE_QUIET_EXPIRY (R178): the line has been quiet for 20 ms after a discarded frame (log 17). -/
def execServiceQuietExpiry (s : State) : Outcome :=
  if alive s && owesLineError s.port.service.rx then
    .next (serviceReply (.bare .lineError) (frameActivity (s.withService fun x => { x with rx := .building [] })))
  else .next s

/-- R179: no frame is being received. A receiver that discards counts as receiving, so a reply waits for the 20 ms of quiet
that end the discard (log 17). -/
def receiverFree (rx : Receiver) : Bool :=
  match rx with
  | .waitQuiet => true
  | .discarding => false
  | .building bytes => bytes.isEmpty

/-- R177: the time of a frame on the line, in thirds of a microsecond: 11 bits a byte at 4,800 baud. -/
def sendTime (r : Reply) : Nat := (r.content.length + 3) * 6875

/-- SERVICE_TRANSMIT_START (R179): the first frame of the output list begins to be sent. -/
def execServiceTransmitStart (s : State) : Outcome :=
  match s.port.service.output with
  | [] => .next s
  | r :: _ =>
    if alive s && !s.port.service.transmitting && receiverFree s.port.service.rx then
      .next (s.withService fun x => { x with transmitting := true, sendLeft := sendTime r })
    else .next s

/-- SERVICE_FRAME_SENT (R179): the frame leaves the output list, and the quiet time starts again. -/
def execServiceFrameSent (s : State) : Outcome :=
  if alive s && s.port.service.transmitting then
    .next (s.withService fun x =>
      { x with output := x.output.drop 1, transmitting := false, sendLeft := 0, quiet := 0 })
  else .next s

end Sys2Proof.Machine
end

