-- ==== Sys2Proof/Machine/Resets.lean ====
section
/-! DEFINITION. The three resets: COLD_START, RESTART and WAKE_SEQUENCE: the retention checks and the starts of the blocks
(R19, R21, R38, R50, R64, R78, R82, R83, R117, R121, R135, R138, R139, R145, R150, R155 to R159, R166, R167, R171, R174,
R182, R185). -/

namespace Sys2Proof.Machine

/-! ### Starts of the blocks -/

/-- R9, R19: a channel whose start loads its first sample. -/
def startChannel (curve : Curve) (v : Byte) : Channel :=
  let good := sampleInRange v
  Channel.pass ⟨v.toNat * 256, !good, if good then .normal else .counting, if good then 0 else 1, 0, v, 0, 0⟩ curve

/-- R19: the measurement unit after its start. -/
def startMeasure (i : StartInputs) (w : Settings) : Measure where
  road := ⟨none, roadStale, true⟩
  rawSpeed := 0
  speed := 0
  engine := ⟨none, engineStale, true⟩
  running := false
  rawRpm := 0
  rpm := 0
  residue := 0
  channels := Vector.ofFn fun k => startChannel w.senders[k] i.samples[k]
  fastWindow := none
  levels := i.lines
  candidates := Vector.replicate 16 0

/-- R21, R37: the gauge unit after its start, with the sweep setting as the start finds it. -/
def startGauges (w : Settings) : GaugeUnit where
  live := false
  gauges := Vector.replicate 6 .start
  silence := none
  atRest := false
  lamps := Vector.replicate 8 .off
  bulbCheck := none
  lampTests := Vector.replicate 8 none
  flasherOn := true
  sweepOn := w.sweep
  frameOnRc := false

/-- R121: the warning unit after its start, with the overspeed limit as it stands. -/
def startWarnings (w : WarningUnit) : WarningUnit where
  list := []
  qualify := Vector.replicate 24 0
  release := Vector.replicate 24 0
  engineRun := 0
  runCount := 0
  seqFront := 0
  seqRear := 0
  seqService := 0
  limit := w.limit
  limitCheck := w.limitCheck

/-- R135: the chime unit after its start. -/
def startChimes : ChimeUnit := ⟨⟨none, []⟩, ⟨none, []⟩, .off⟩

/-- R171, R176: a link after the port block's start, with its console's notice set as it stands. A transaction in progress at a
COLD START or RESTART is dropped: its release is no transaction end, and its further bytes read 0 (log 24). -/
def startLink (x : LinkState) : LinkState := ⟨.empty, none, x.notices, 0, false⟩

/-- R171, R178, R179: the port block after its start. The receiver waits for a quiet line, whose time counts from the start
(log 17). -/
def startPorts (p : PortBlock) : PortBlock :=
  ⟨startLink p.front, startLink p.rear, ⟨.waitQuiet, 0, none, [], false, 0⟩⟩

/-- R1, R22, R35, R39, R53, R103, R158: each expiry comes one full interval after the start. R24 gives no phase to the first PWM
frame: one begins at the start, so the first latch comes 1/1,024 s later (log 36). After a WAKE too the first calibration expiry
comes 4 s later (log 42). -/
def startTimers : Timers where
  speed := samplePeriod
  rpm := samplePeriod
  analog := samplePeriod
  switch := switchPeriod
  gauge := gaugePeriod
  frame := 0
  fold := quarterSecond
  model := fourSeconds
  warning := quarterSecond
  calib := fourSeconds
  flasher := flasherPeriod

/-- R55: transfer hold at the fold engine's start. -/
def startHold (lines : BitVec 16) : TransferHold := if lines.getLsbD 14 then .pumping else .off

/-- R64: the arbiter after a reset. -/
def startArbiter (r : RecordStore) : RecordStore := { r with grant := none, order := [.front, .rear, .service] }

/-- R166: the blocks make their starts. A calibration in progress at a RESTART is abandoned and the divisor kept (log 42). -/
def startBlocks (i : StartInputs) (s : State) : State :=
  { s with
    meas := startMeasure i s.settings.work
    gauge := startGauges s.settings.work
    fold := { s.fold with waiting := false, merges := 0, hold := startHold i.lines }
    store := startArbiter s.store
    warn := startWarnings s.warn
    chime := startChimes
    port := startPorts s.port
    timers := startTimers
    pins := { s.pins with samples := i.samples, lines := i.lines, main := i.mainEdge }
    settings := { s.settings with staging := none }
    clock := { s.clock with calib := none, mainGap := 0, mainGood := 0 } }

/-- R159: a main oscillator that gave no edge at the end of its start: the fault begins there, before the checks. A fault that
stood before a RESTART or a COLD START ends there when an edge came, with no STATUS notice for its end (log 37). -/
def startFault (i : StartInputs) (s : State) : State :=
  notifyBothIf (!i.mainEdge) .status (s.withClock fun c => { c with mainFault := !i.mainEdge })

/-! ### Retention checks (R166) -/

/-- R182: the settings working copy is loaded from the block, or from the built-in defaults. -/
def reloadSettings (s : State) : State :=
  match goodBlock s.nv with
  | some w => notifyBoth .status (s.withWork fun _ => w)
  | none =>
    let s := s.withWork fun _ => .builtIn
    notifyBoth .status { s with settings := { s.settings with defaulted := true } }

/-- R182: the settings check. -/
def checkSettings (s : State) : State :=
  if s.settings.check = settingsCheck s.settings.work then s else reloadSettings s

/-- R38: the fold engine with nothing in it. -/
def emptyFold (lost : Bool) : FoldEngine :=
  FoldEngine.seal ⟨.empty, 0, 0, [], ⟨0, 0⟩, [], ⟨0, false, false, false, false⟩, 0, false, 0, lost, .off⟩

/-- R38: the fold check. -/
def checkFold (s : State) : State :=
  if s.fold.check = foldCheck s.fold then s.withFoldBare fun f => { f with lost := false }
  else notifyBoth .status { s with fold := emptyFold true }

/-- R50: a reload of the settings at the fold engine; `old` is the working copy before it. -/
def reloadFold (old : Settings) (s : State) : State :=
  let w := s.settings.work
  clampTank (s.withFold fun f =>
    { f with rd := if w.kr = old.kr then f.rd else 0, rf := if w.kf = old.kf then f.rf else 0 })

/-- R138, R139: the service check. -/
def checkItems (s : State) : State :=
  if s.service.check = serviceCheck s.service.items then s
  else notifyBoth .service
    { s with service := sealItems (Vector.ofFn fun k => unknownItem s.settings.work.items[k]) }

/-- R150: an item under a loaded definition. -/
def reloadItem (old new : ItemDef) (i : Item) : Item :=
  if old.enabled = true ∧ new.enabled = false then disabledItem
  else if old.enabled = false ∧ new.enabled = true then unknownItem new
  else i

/-- R150: a reload of the settings at the service unit. -/
def reloadItems (old : Settings) (s : State) : State :=
  { s with service := sealItems (Vector.ofFn fun k =>
      reloadItem old.items[k] s.settings.work.items[k] s.service.items[k]) }

/-- R83: the unit check. -/
def checkUnits (s : State) : State :=
  if s.units.check = unitCheck s.units.front s.units.rear ∧ s.units.front ≤ 2 ∧ s.units.rear ≤ 2 then s
  else notifyBoth .status { s with units := ⟨0, 0, unitCheck 0 0⟩ }

/-- R117: the overspeed check. -/
def checkLimit (s : State) : State :=
  if s.warn.limitCheck = limitCheck s.warn.limit then s else notifyBoth .status (storeLimit 0 s)

/-- R155: the alarm check. -/
def checkAlarmWord (s : State) : State :=
  if s.clock.alarmCheck = alarmCheck s.clock.alarm then s else notifyBoth .clock (storeAlarm none s)

/-- R121: the records handed to the warning unit at its start: those that stand DAMAGED, and ODO when it was reloaded
(log 16). -/
def handedRecords (reloaded : Bool) (s : State) : List Nat :=
  (if reloaded then [0] else []) ++ (if s.store.a.body.damaged then [1] else [])
    ++ (if s.store.b.body.damaged then [2] else []) ++ (if s.store.p.body.damaged then [3] else [])
    ++ (if s.store.charter.body.damaged then [4] else [])

/-- R121, R135: a condition handed at a start is raised if it stands, and each IDLE channel makes its choice. -/
def raiseAtStart (b : Bool) (w : Fin 24) (add : Bool) (d : BitVec 8) (s : State) : State :=
  if b then startChoice (raise w add d s) else s

/-- R121, R145: the service unit's start: one evaluation, whose two sets are handed to the warning unit. -/
def startItems (s : State) : State :=
  let new := evalItems s.settings.work (today s) s.service.items
  let s := raiseAtStart (dueSet new != 0) 13 false (dueSet new) (storeItems s.service.items new s)
  raiseAtStart (overdueSet new != 0) 14 false (overdueSet new) s

/-- R121: W16 is raised for each record handed. -/
def handRecords (rs : List Nat) (s : State) : State := rs.foldl (fun s k => raiseAtStart true 16 true (member k) s) s

/-- R38, R50, R138, R150, R166: the fold state and the service table, checked before what a reload changes (log 20). -/
def checkTables (old : Settings) (reloaded : Bool) (s : State) : State :=
  let s := checkItems (checkFold s)
  if reloaded then reloadItems old (reloadFold old s) else s

/-- R78, R159: the marks that the supervisor hands at a start, after the record checks. -/
def startMarks (m : HeldMarks) (s : State) : State :=
  (applyMarks m s).withStore fun r => { r with held := ⟨false, false⟩ }

/-- R166: the retention checks, the starts of the blocks and the first hand-offs of the warning unit. -/
def restartBlocks (i : StartInputs) (marks : HeldMarks) (s : State) : State :=
  let old := s.settings.work
  let reloadedSettings := decide (s.settings.check ≠ settingsCheck old)
  let reloadedOdo := decide (s.store.odo.check ≠ odoCheck s.store.odo)
  let s := checkTables old reloadedSettings (checkSettings s)
  let s := startMarks ⟨marks.timeDegraded, marks.fuelIncomplete || !i.mainEdge⟩ (verifyAll s)
  let s := checkAlarmWord (checkLimit (checkUnits s))
  handRecords (handedRecords reloadedOdo s) (startItems (startBlocks i s))

/-! ### COLD START -/

/-- R82: ODO after COLD START. -/
def coldOdo (slots : Vector Slot 32) : Odo :=
  match newestSlot slots with
  | none => Odo.seal ⟨0, false, false, true, 0⟩
  | some q => Odo.seal ⟨q.1.distance * 100, true, false, false, 0⟩

/-- R82: the record store after COLD START. -/
def coldStore (slots : Vector Slot 32) : RecordStore :=
  let odo := coldOdo slots
  let body := clearedBody 0 odo.distance true
  { odo := odo
    a := body.seal 1
    b := body.seal 2
    p := body.seal 3
    charter := Charter.seal ⟨body, .vacant, none, false, false, 0⟩
    grant := none
    order := [.front, .rear, .service]
    held := ⟨false, false⟩
    logPos := scanLog slots }

/-- R182: the settings store after COLD START. -/
def coldSettings (nv : NvArray) : SettingsStore :=
  match goodBlock nv with
  | some w => ⟨w, settingsCheck w, false, .none, none⟩
  | none => ⟨.builtIn, settingsCheck .builtIn, true, .none, none⟩

/-- R151, R155, R157, R158: the clock unit after COLD START. -/
def coldClock : ClockUnit where
  seconds := 0
  prescaler := 0
  rcCount := 0
  unset := true
  onRc := false
  divisor := 32000
  alarm := none
  alarmCheck := alarmCheck none
  alarmRang := false
  heldW17 := false
  calib := none
  mainFault := false
  subGap := 0
  subGood := 0
  mainGap := 0
  mainGood := 0

/-- The power controller before the state is chosen at COLD START (R160, R167). -/
def coldPower (w : Settings) : PowerUnit where
  state := .awake
  park := none
  delay := none
  limit := none
  causeFront := 0
  causeRear := 0
  lastWake := 0
  armed := w.wakeModes
  reference := 0
  lineHold := Vector.replicate 16 0
  waking := none
  supplied := true

/-- R174: each notice set is {RESTART}. -/
def restartNotices (s : State) : State :=
  { s with port := { s.port with
      front := { s.port.front with notices := Notice.restart.bit }
      rear := { s.port.rear with notices := Notice.restart.bit } } }

/-- R185: pending writes are dropped at COLD START and RESTART. -/
def dropWrites (s : State) : State := { s with nv := { s.nv with pendingSlot := none, pendingCommit := false } }

/-- The retention memory and the battery-held blocks after COLD START. -/
def coldRetention (s : State) : State :=
  let st := coldSettings s.nv
  { s with
    fold := emptyFold false
    store := coldStore s.nv.slots
    units := ⟨0, 0, unitCheck 0 0⟩
    warn := { s.warn with limit := 0, limitCheck := limitCheck 0 }
    service := sealItems (Vector.ofFn fun k => unknownItem st.work.items[k])
    clock := coldClock
    power := coldPower st.work
    settings := st }

/-- The whole of a COLD START but what it leaves settled. -/
def coldStart (i : StartInputs) (s : State) : State :=
  let s := restartNotices (dropWrites (cutFlight s))
  let s := startFault i (coldRetention s)
  let s := startMarks ⟨false, !i.mainEdge⟩ s
  choosePower (startItems (startBlocks i s))

/-- COLD_START (R82). -/
def execColdStart (i : StartInputs) (s : State) : Outcome := .next (settleFrom [] (coldStart i s))

/-! ### RESTART -/

/-- R182, R185: a commit that was cut or dropped has FAILED. -/
def failCommit (s : State) : State :=
  if s.settings.commit = .inProgress then { s with settings := { s.settings with commit := .failed } } else s

/-- R156, R157, R167: the battery-held blocks at RESTART: the cause sets are empty, the alarm rang mark and a held
degradation are dropped. -/
def restartHeld (s : State) : State :=
  { s with
    clock := { s.clock with alarmRang := false, heldW17 := false }
    power := { s.power with causeFront := 0, causeRear := 0, lastWake := 0, waking := none, supplied := true } }

/-- R82: the log is scanned. -/
def rescan (s : State) : State := s.withStore fun r => { r with logPos := scanLog s.nv.slots }

/-- The whole of a RESTART but what it leaves settled. -/
def restart (i : StartInputs) (s : State) : State :=
  let s := rescan (failCommit (restartHeld (restartNotices (dropWrites (cutFlight s)))))
  let s := startFault i s
  let s := restartBlocks i ⟨s.clock.onRc, false⟩ s
  choosePower (raiseAtStart s.clock.onRc 17 false 0 s)

/-- RESTART (R78, R82). -/
def execRestart (i : StartInputs) (s : State) : Outcome := .next (settleFrom [] (restart i s))

/-! ### WAKE SEQUENCE -/

/-- R121, R156, R157: the hand-offs of the clock unit and the power controller at WAKE. -/
def wakeHandoffs (s : State) : State :=
  let s := raiseAtStart (s.clock.onRc || s.clock.heldW17) 17 false 0 s
  let s := raiseAtStart s.clock.alarmRang 20 false 0 s
  let s := raiseAtStart (s.power.lastWake &&& wakeBit .rearCall != 0) 19 false 0 s
  s.withClock fun c => { c with heldW17 := false, alarmRang := false }

/-- The whole of a wake sequence but what it leaves settled. -/
def wake (i : StartInputs) (s : State) : State :=
  let s := startFault i (s.withPower fun u => { u with waking := none })
  let s := restartBlocks i s.store.held s
  notifyBoth .wake (choosePower (wakeHandoffs s))

/-- WAKE_SEQUENCE (R166): it ends 4 ms after the first source fired. -/
def execWakeSequence (i : StartInputs) (s : State) : Outcome :=
  if parkedState s && s.power.waking.isSome then .next (settleFrom [] (wake i s)) else .next s

end Sys2Proof.Machine
end

