-- ==== Sys2Proof/Machine/Dispatch.lean ====
section
/-! DEFINITION. The meaning of every command: one direct call of its definition. -/

namespace Sys2Proof.Machine

/-- The effect of a command on everything but the queue. -/
def exec (i : Instr) (s : State) : Host.Outcome State Fault Refusal :=
  match i with
  | .coldStart start => Sys2Proof.Machine.execColdStart start s
  | .restart start => Sys2Proof.Machine.execRestart start s
  | .roadPulseEdge => Sys2Proof.Machine.execRoadPulseEdge s
  | .roadAgeStale => Sys2Proof.Machine.execRoadAgeStale s
  | .speedSampleExpiry => Sys2Proof.Machine.execSpeedSampleExpiry s
  | .enginePulseEdge => Sys2Proof.Machine.execEnginePulseEdge s
  | .engineAgeStale => Sys2Proof.Machine.execEngineAgeStale s
  | .rpmSampleExpiry => Sys2Proof.Machine.execRpmSampleExpiry s
  | .openTick => Sys2Proof.Machine.execOpenTick s
  | .analogScanExpiry samples => Sys2Proof.Machine.execAnalogScanExpiry samples s
  | .switchScanExpiry lines => Sys2Proof.Machine.execSwitchScanExpiry lines s
  | .readInputs p page => Sys2Proof.Machine.execReadInputs p page s
  | .gaugeStepExpiry => Sys2Proof.Machine.execGaugeStepExpiry s
  | .manualSilenceRelease => Sys2Proof.Machine.execManualSilenceRelease s
  | .pwmFrameStart => Sys2Proof.Machine.execPwmFrameStart s
  | .gaugeSet p gauge angle => Sys2Proof.Machine.execGaugeSet p gauge angle s
  | .gaugeRelease p gauge => Sys2Proof.Machine.execGaugeRelease p gauge s
  | .readGauges p page => Sys2Proof.Machine.execReadGauges p page s
  | .flasherPhaseChange => Sys2Proof.Machine.execFlasherPhaseChange s
  | .bulbCheckEnd => Sys2Proof.Machine.execBulbCheckEnd s
  | .lampTestEnd lamp => Sys2Proof.Machine.execLampTestEnd lamp s
  | .foldExpiry => Sys2Proof.Machine.execFoldExpiry s
  | .fold => Sys2Proof.Machine.execFold s
  | .modelExpiry => Sys2Proof.Machine.execModelExpiry s
  | .transferHoldEnd => Sys2Proof.Machine.execTransferHoldEnd s
  | .readFold p page => Sys2Proof.Machine.execReadFold p page s
  | .writeSettingKrKf p c value => Sys2Proof.Machine.execWriteSettingKrKf p c value s
  | .readRecord p record page => Sys2Proof.Machine.execReadRecord p record page s
  | .clearRecord p record => Sys2Proof.Machine.execClearRecord p record s
  | .charterOpen p => Sys2Proof.Machine.execCharterOpen p s
  | .charterClose p => Sys2Proof.Machine.execCharterClose p s
  | .charterAck p => Sys2Proof.Machine.execCharterAck p s
  | .charterRelease p => Sys2Proof.Machine.execCharterRelease p s
  | .odoPreset p value => Sys2Proof.Machine.execOdoPreset p value s
  | .recordMarkApply => Sys2Proof.Machine.execRecordMarkApply s
  | .slotWriteComplete => Sys2Proof.Machine.execSlotWriteComplete s
  | .readDerived p record => Sys2Proof.Machine.execReadDerived p record s
  | .readLive p => Sys2Proof.Machine.execReadLive p s
  | .setUnits p choice => Sys2Proof.Machine.execSetUnits p choice s
  | .warningExpiry => Sys2Proof.Machine.execWarningExpiry s
  | .readWarnings p start => Sys2Proof.Machine.execReadWarnings p start s
  | .ackWarning p id => Sys2Proof.Machine.execAckWarning p id s
  | .rearCall p => Sys2Proof.Machine.execRearCall p s
  | .setOverspeed p limit => Sys2Proof.Machine.execSetOverspeed p limit s
  | .warningTest p id => Sys2Proof.Machine.execWarningTest p id s
  | .noteBoundary sp => Sys2Proof.Machine.execNoteBoundary sp s
  | .repeatTimerExpiry w sp => Sys2Proof.Machine.execRepeatTimerExpiry w sp s
  | .playChime p pattern speakers cls => Sys2Proof.Machine.execPlayChime p pattern speakers cls s
  | .cancelChimes p => Sys2Proof.Machine.execCancelChimes p s
  | .rearQuiet p arg => Sys2Proof.Machine.execRearQuiet p arg s
  | .readChimes p page => Sys2Proof.Machine.execReadChimes p page s
  | .readService p item page => Sys2Proof.Machine.execReadService p item page s
  | .resetService p item => Sys2Proof.Machine.execResetService p item s
  | .writeServiceItem p item d => Sys2Proof.Machine.execWriteServiceItem p item d s
  | .secondEnd => Sys2Proof.Machine.execSecondEnd s
  | .setClock p seconds => Sys2Proof.Machine.execSetClock p seconds s
  | .trimClock p seconds => Sys2Proof.Machine.execTrimClock p seconds s
  | .readClock p => Sys2Proof.Machine.execReadClock p s
  | .setAlarm p seconds => Sys2Proof.Machine.execSetAlarm p seconds s
  | .clearAlarm p => Sys2Proof.Machine.execClearAlarm p s
  | .subMissing => Sys2Proof.Machine.execSubMissing s
  | .subBack => Sys2Proof.Machine.execSubBack s
  | .calibrationExpiry => Sys2Proof.Machine.execCalibrationExpiry s
  | .calibrationComplete count => Sys2Proof.Machine.execCalibrationComplete count s
  | .mainClockFaultStart => Sys2Proof.Machine.execMainClockFaultStart s
  | .mainClockFaultEnd => Sys2Proof.Machine.execMainClockFaultEnd s
  | .parkDelayExpiry => Sys2Proof.Machine.execParkDelayExpiry s
  | .awakeLimitExpiry => Sys2Proof.Machine.execAwakeLimitExpiry s
  | .parkedEntry raw => Sys2Proof.Machine.execParkedEntry raw s
  | .keepAwake p seconds => Sys2Proof.Machine.execKeepAwake p seconds s
  | .wakeSourceFires src => Sys2Proof.Machine.execWakeSourceFires src s
  | .wakeSequence start => Sys2Proof.Machine.execWakeSequence start s
  | .readWakeCauses p => Sys2Proof.Machine.execReadWakeCauses p s
  | .linkSelect l => Sys2Proof.Machine.execLinkSelect l s
  | .linkTransactionEnd l incoming => Sys2Proof.Machine.execLinkTransactionEnd l incoming s
  | .silenceTimerExpiry l => Sys2Proof.Machine.execSilenceTimerExpiry l s
  | .serviceStartBit => Sys2Proof.Machine.execServiceStartBit s
  | .serviceFrameEnd => Sys2Proof.Machine.execServiceFrameEnd s
  | .serviceQuietExpiry => Sys2Proof.Machine.execServiceQuietExpiry s
  | .serviceTransmitStart => Sys2Proof.Machine.execServiceTransmitStart s
  | .serviceFrameSent => Sys2Proof.Machine.execServiceFrameSent s
  | .readNotices p => Sys2Proof.Machine.execReadNotices p s
  | .readStatus p => Sys2Proof.Machine.execReadStatus p s
  | .readSetting p item page => Sys2Proof.Machine.execReadSetting p item page s
  | .writeSetting p item part value => Sys2Proof.Machine.execWriteSetting p item part value s
  | .commitSettings p => Sys2Proof.Machine.execCommitSettings p s
  | .commitComplete agrees => Sys2Proof.Machine.execCommitComplete agrees s
  | .wakeLineEdge line => Sys2Proof.Machine.execWakeLineEdge line s
  | .serviceByteReceived b good => Sys2Proof.Machine.execServiceByteReceived b good s
  | .supplyLoss => Sys2Proof.Machine.execSupplyLoss s

end Sys2Proof.Machine
end

