-- ==== Sys2Proof/Machine/Time.lean ====
section
/-! DEFINITION. Time (log 2): what one microsecond without a command does. Every timer of the rules runs down by the
oscillator that times it, and what comes due goes into the queue, in a fixed order (log 23). -/

namespace Sys2Proof.Machine

/-! ### What passes in a microsecond -/

/-- The time that passed for each oscillator: microseconds of the main oscillator while no fault stands; microseconds by the
RC oscillator through the divisor; whether an RC edge and a sub edge came; steps of 1/32,768 s of the power controller. -/
structure Elapsed where
  main    : Nat
  rc      : Nat
  rcEdge  : Bool
  subEdge : Bool
  power   : Nat
  deriving DecidableEq, Repr

/-- The microseconds that an RC edge adds, from the accumulator (R158). -/
def rcTotal (s : State) : Nat := s.own.rcAcc + 1000000

/-- The steps of 1/32,768 s that an RC edge adds, from the accumulator (R161). -/
def secTotal (s : State) : Nat := s.own.secAcc + 32768

/-- A sub edge comes when the phase of the sub oscillator passes 1/32,768 s, which is 15,625/512 us. -/
def subEdgeNow (s : State) : Bool := s.pins.sub && decide (15625 ≤ s.own.subAcc + 512)

/-- What passes in the microsecond that begins in a state. The power controller's timers count sub edges, and RC edges only
while the seconds source is RC, in a main-clock fault as well: so R161 says, where R158 counts them among what the RC divisor
times in a fault (log 38). -/
def elapse (s : State) : Elapsed :=
  let edge := Config.rcEdge s.own.free
  { main := if clocked s && s.pins.main then 1 else 0
    rc := if edge then rcTotal s / s.clock.divisor else 0
    rcEdge := edge
    subEdge := subEdgeNow s
    power := if s.clock.onRc then (if edge then secTotal s / s.clock.divisor else 0) else (subEdgeNow s).toNat }

/-- R18, R24, R176, R179: what is timed from RC through the divisor during a main-clock fault, and from main otherwise. -/
def Elapsed.line (e : Elapsed) (s : State) : Nat :=
  if alive s && s.clock.mainFault then e.rc else e.main

/-- R24, R31: what times the PWM frames: RC during a main-clock fault, and after it to the end of the frame that runs. -/
def Elapsed.frame (e : Elapsed) (s : State) : Nat :=
  if alive s && (s.clock.mainFault || s.gauge.frameOnRc) then e.rc else e.main

/-- R157: the sub oscillator is watched by main while it runs without fault, and by RC otherwise. -/
def Elapsed.watch (e : Elapsed) (s : State) : Nat := if clocked s then e.main else e.rc

/-- The model's own counters after a microsecond. -/
def Own.pass (e : Elapsed) (s : State) : Own where
  free := s.own.free + 1
  rcAcc := if e.rcEdge then rcTotal s % s.clock.divisor else s.own.rcAcc
  secAcc := if e.rcEdge then secTotal s % s.clock.divisor else s.own.secAcc
  subAcc := if s.pins.sub then (if e.subEdge then s.own.subAcc + 512 - 15625 else s.own.subAcc + 512) else s.own.subAcc

/-! ### Running down -/

/-- A timer comes due. -/
def due (e left : Nat) : Bool := decide (0 < e) && decide (left ≤ e)

/-- A timer that may be stopped comes due. -/
def dueOpt (e : Nat) (left : Option Nat) : Bool :=
  match left with
  | none => false
  | some n => due e n

/-- A power timer comes due: it was not at 0 before. -/
def dueOnce (e : Nat) (left : Option Nat) : Bool :=
  match left with
  | none => false
  | some n => decide (0 < n) && due e n

/-- A timer that may be stopped runs down. -/
def runDown (e : Nat) (left : Option Nat) : Option Nat := left.map (· - e)

/-- The command that comes due, if it does. -/
def when (b : Bool) (i : Instr) : List Instr := if b then [i] else []

/-! ### Measurement, gauges, fold -/

/-- R3, R6, R8: the ages count to the last value below stale, and the open residue counts injector drive. -/
def Measure.pass (e : Elapsed) (injector : Bool) (m : Measure) : Measure :=
  { m with
    road := { m.road with age := if m.road.age + 1 < roadStale then m.road.age + e.main else m.road.age }
    engine := { m.engine with age := if m.engine.age + 1 < engineStale then m.engine.age + e.main else m.engine.age }
    residue := if injector = true ∧ m.residue < 15 then m.residue + e.main else m.residue }

/-- What comes due in the measurement unit. -/
def Measure.due (e : Elapsed) (injector : Bool) (m : Measure) : List Instr :=
  when (decide (0 < e.main) && decide (m.road.age + 1 = roadStale)) .roadAgeStale
    ++ when (decide (0 < e.main) && decide (m.engine.age + 1 = engineStale)) .engineAgeStale
    ++ when (decide (0 < e.main) && injector && decide (15 ≤ m.residue)) .openTick

/-- R36: the holds of the lamps run down. -/
def GaugeUnit.pass (e : Elapsed) (g : GaugeUnit) : GaugeUnit :=
  { g with bulbCheck := runDown e.main g.bulbCheck, lampTests := Vector.ofFn fun l => runDown e.main g.lampTests[l] }

/-- What comes due in the gauge unit. -/
def GaugeUnit.due (e : Elapsed) (g : GaugeUnit) : List Instr :=
  when (dueOpt e.main g.bulbCheck) .bulbCheckEnd
    ++ ((List.finRange 8).filter fun l => dueOpt e.main g.lampTests[l]).map .lampTestEnd

/-- R55: transfer hold runs down. -/
def TransferHold.pass (e : Elapsed) (h : TransferHold) : TransferHold :=
  match h with
  | .off => .off
  | .pumping => .pumping
  | .ending n => .ending (n - e.main)

/-- R55: transfer hold ends. -/
def TransferHold.due (e : Elapsed) (h : TransferHold) : Bool :=
  match h with
  | .off => false
  | .pumping => false
  | .ending n => Machine.due e.main n

/-- The periodic expiries run down; the PWM frame phase runs on to the frame start that is due at its end (R24). -/
def Timers.pass (e : Elapsed) (line frame : Nat) (t : Timers) : Timers where
  speed := t.speed - e.main
  rpm := t.rpm - e.main
  analog := t.analog - e.main
  switch := t.switch - line
  gauge := t.gauge - e.main
  frame := t.frame + 1024 * frame
  fold := t.fold - e.main
  model := t.model - e.main
  warning := t.warning - e.main
  calib := t.calib - e.main
  flasher := t.flasher - e.main

/-- The periodic expiries that come due. -/
def Timers.due (e : Elapsed) (line frame : Nat) (pins : Pins) (t : Timers) : List Instr :=
  when (Machine.due e.main t.speed) .speedSampleExpiry
    ++ when (Machine.due e.main t.rpm) .rpmSampleExpiry
    ++ when (Machine.due e.main t.analog) (.analogScanExpiry pins.samples)
    ++ when (Machine.due line t.switch) (.switchScanExpiry pins.lines)
    ++ when (Machine.due e.main t.gauge) .gaugeStepExpiry
    ++ when (decide (0 < frame) && decide (1000000 ≤ t.frame + 1024 * frame)) .pwmFrameStart
    ++ when (Machine.due e.main t.fold) .foldExpiry
    ++ when (Machine.due e.main t.model) .modelExpiry
    ++ when (Machine.due e.main t.warning) .warningExpiry
    ++ when (Machine.due e.main t.calib) .calibrationExpiry
    ++ when (Machine.due e.main t.flasher) .flasherPhaseChange

/-! ### Warnings and chimes -/

/-- R125: the repeat timer of a chime mark runs down. -/
def ChimeMark.pass (e : Elapsed) (m : ChimeMark) : ChimeMark := { m with timer := runDown e.main m.timer }

/-- R125: the repeat timers of an entry run down. -/
def Entry.pass (e : Elapsed) (x : Entry) : Entry :=
  { x with chimeFront := x.chimeFront.map (ChimeMark.pass e), chimeRear := x.chimeRear.map (ChimeMark.pass e) }

/-- R125: a repeat timer that comes due. -/
def repeatDue (e : Elapsed) (m : Option ChimeMark) : Bool :=
  match m with
  | none => false
  | some x => dueOpt e.main x.timer

/-- The repeat timers that come due, in list order. -/
def repeatsDue (e : Elapsed) (list : List Entry) : List Instr :=
  (list.map fun x =>
    when (repeatDue e x.chimeFront) (.repeatTimerExpiry x.w .front)
      ++ when (repeatDue e x.chimeRear) (.repeatTimerExpiry x.w .rear)).flatten

/-- R123: the step of a current play runs down. -/
def SpeakerState.pass (e : Elapsed) (x : SpeakerState) : SpeakerState :=
  { x with play := x.play.map fun q => { q with left := q.left - e.main } }

/-- R123: the step of a current play ends. -/
def SpeakerState.due (e : Elapsed) (x : SpeakerState) : Bool :=
  match x.play with
  | none => false
  | some q => Machine.due e.main q.left

/-! ### The nonvolatile array -/

/-- R185: the write in flight runs down. -/
def Flight.pass (e : Elapsed) (f : Flight) : Flight :=
  match f with
  | .slot snap no seq n => .slot snap no seq (n - e.main)
  | .commit image n => .commit image (n - e.main)

/-- R81, R184: the write in flight comes to its end; whether a read-back agrees is a free value (log 12). -/
def flightDue (e : Elapsed) (free : Nat) (f : Option Flight) : List Instr :=
  match f with
  | none => []
  | some (.slot _ _ _ n) => when (due e.main n) .slotWriteComplete
  | some (.commit _ n) => when (due e.main n) (.commitComplete (Config.readBackAgrees free))

/-! ### Clock and supervisor -/

/-- R151: the second of the source in force ends. -/
def secondDue (e : Elapsed) (c : ClockUnit) : Bool :=
  if c.onRc then decide (c.divisor ≤ c.rcCount + e.rcEdge.toNat) else e.subEdge && decide (32768 ≤ c.prescaler + 1)

/-- R157: the time without a sub edge after this microsecond. -/
def nextSubGap (e : Elapsed) (watch : Nat) (c : ClockUnit) : Nat := if e.subEdge then 0 else c.subGap + watch

/-- R159: the time without a main edge after this microsecond. -/
def nextMainGap (e : Elapsed) (main : Bool) (c : ClockUnit) : Nat := if main then 0 else c.mainGap + e.rc

/-- The clock unit and its supervisor after a microsecond; the event rows make the changes that a due event brings. -/
def ClockUnit.pass (e : Elapsed) (s : State) (c : ClockUnit) : ClockUnit :=
  let gap := nextSubGap e (e.watch s) c
  let mainGap := nextMainGap e s.pins.main c
  { c with
    prescaler := if !c.onRc && e.subEdge && !secondDue e c then c.prescaler + 1 else c.prescaler
    rcCount := if c.onRc && e.rcEdge && !secondDue e c then c.rcCount + 1 else c.rcCount
    calib := c.calib.map fun k => ⟨k.edges + e.rcEdge.toNat, k.left - e.main⟩
    subGap := min 1000 gap
    subGood := if 1000 ≤ gap then 0 else min 2000000 (c.subGood + e.watch s)
    mainGap := if alive s then min 50 mainGap else 0
    mainGood := if alive s && decide (mainGap < 50) then min 256000 (c.mainGood + e.rc) else 0 }

/-- R158: a calibration comes to its end with its count. -/
def calibrationDue (e : Elapsed) (k : Option Calibration) : List Instr :=
  match k with
  | none => []
  | some k => when (due e.main k.left) (.calibrationComplete (k.edges + e.rcEdge.toNat))

/-- What the supervisor finds. -/
def supervisorDue (e : Elapsed) (s : State) : List Instr :=
  let c := s.clock
  when (!c.onRc && decide (1000 ≤ nextSubGap e (e.watch s) c)) .subMissing
    ++ when (c.onRc && decide (nextSubGap e (e.watch s) c < 1000) && decide (2000000 ≤ c.subGood + e.watch s)) .subBack
    ++ when (clocked s && decide (50 ≤ nextMainGap e s.pins.main c)) .mainClockFaultStart
    ++ when (alive s && c.mainFault && s.pins.main && decide (256000 ≤ c.mainGood + e.rc)) .mainClockFaultEnd

/-! ### Power controller and wake logic -/

/-- R165: a line that the wake logic times: a source line away from its reference, or an active IGN line. -/
def lineTimed (s : State) (i : Fin 16) : Bool :=
  if i.val ≤ 1 then s.pins.lines.getLsbD i.val
  else (lineSource i).isSome && s.pins.lines.getLsbD i.val != s.power.reference.getLsbD i.val

/-- R165: the time for which a line has held after this microsecond, to 1 ms. -/
def nextHold (e : Elapsed) (s : State) (i : Fin 16) : Nat :=
  if lineTimed s i then min 1000 (s.power.lineHold[i] + e.rc) else 0

/-- R165: a mode takes an edge to a level. -/
def modeTakes (mode : Nat) (active : Bool) : Bool := if active then mode == 1 || mode == 3 else mode == 2 || mode == 3

/-- R165: what an edge of a source line is: the source fires, or the reference only follows. -/
def lineEdge (s : State) (i : Fin 16) : List Instr :=
  match lineSource i with
  | none => []
  | some w => if modeTakes (wakeMode s w) (s.pins.lines.getLsbD i.val) then [.wakeSourceFires w] else [.wakeLineEdge i]

/-- R165: IGNITION fires when an IGN line has held active for 1 ms, unless this wake has recorded it. -/
def ignitionDue (e : Elapsed) (s : State) : Bool :=
  (decide (nextHold e s 0 = 1000) || decide (nextHold e s 1 = 1000))
    && (s.power.waking.isNone || decide (s.power.lastWake &&& wakeBit .ignition = 0))

/-- R165, R166: what comes due in PARKED. -/
def wakeDue (e : Elapsed) (s : State) : List Instr :=
  if parkedState s then
    when (decide (0 < e.rc) && ignitionDue e s) (.wakeSourceFires .ignition)
      ++ (((List.finRange 16).filter fun i => decide (0 < e.rc) && decide (nextHold e s i = 1000)).map (lineEdge s)).flatten
      ++ when (dueOpt e.rc s.power.waking) (.wakeSequence ⟨s.pins.samples, s.pins.lines, s.pins.main⟩)
  else []

/-- R161, R165, R166: the power controller after a microsecond. -/
def PowerUnit.pass (e : Elapsed) (s : State) (u : PowerUnit) : PowerUnit :=
  if parkedState s then
    { u with lineHold := Vector.ofFn (nextHold e s), waking := runDown e.rc u.waking }
  else if inAwake s then
    { u with
      delay := if u.park.isNone then runDown e.power u.delay else u.delay
      limit := runDown e.power u.limit }
  else u

/-- R161: the park delay and the awake limit that run out. -/
def awakeTimersDue (e : Elapsed) (s : State) : List Instr :=
  if inAwake s then
    when (s.power.park.isNone && dueOnce e.power s.power.delay) .parkDelayExpiry
      ++ when (dueOnce e.power s.power.limit) .awakeLimitExpiry
  else []

/-! ### Ports -/

/-- R176: a silence timer counts, to 2 s. -/
def LinkState.pass (n : Nat) (x : LinkState) : LinkState := { x with silence := min silencePeriod (x.silence + n) }

/-- R176: a link becomes silent. -/
def silenceDue (n : Nat) (x : LinkState) : Bool := !x.silent && decide (silencePeriod ≤ x.silence + n)

/-- R178, R179: the service line after `n` microseconds: the quiet time counts to 20 ms while the part does not send, and a
receiver that waits for it then takes frames. -/
def ServiceLine.pass (n : Nat) (x : ServiceLine) : ServiceLine :=
  let quiet := if x.transmitting then x.quiet else min 20000 (x.quiet + n)
  { x with
    rx := if x.rx = .waitQuiet ∧ 20000 ≤ quiet then .building [] else x.rx
    quiet := quiet
    sendLeft := if x.transmitting then x.sendLeft - 3 * n else x.sendLeft }

/-- R178: a whole frame stands in the receiver. -/
def frameStands (rx : Receiver) : Bool :=
  match rx with
  | .building bytes => frameComplete bytes
  | .waitQuiet => false
  | .discarding => false

/-- R176: the links that become silent. -/
def silencesDue (n : Nat) (s : State) : List Instr :=
  when (silenceCounts s && silenceDue n s.port.front) (.silenceTimerExpiry .front)
    ++ when (silenceCounts s && silenceDue n s.port.rear) (.silenceTimerExpiry .rear)

/-- R178, R179: what comes due on the service line. -/
def ServiceLine.due (n : Nat) (x : ServiceLine) : List Instr :=
  let quiet := if x.transmitting then x.quiet else x.quiet + n
  when (frameStands x.rx) .serviceFrameEnd
    ++ when (owesLineError x.rx && decide (20000 ≤ quiet)) .serviceQuietExpiry
    ++ when (!x.transmitting && !x.output.isEmpty && receiverFree x.rx && decide (5000 ≤ quiet)) .serviceTransmitStart
    ++ when (x.transmitting && Machine.due (3 * n) x.sendLeft) .serviceFrameSent

/-- The port block after a microsecond. -/
def PortBlock.pass (n : Nat) (counts : Bool) (p : PortBlock) : PortBlock where
  front := if counts then p.front.pass n else p.front
  rear := if counts then p.rear.pass n else p.rear
  service := p.service.pass n

/-! ### Granted work (R62, R64) -/

/-- The command that a port's request is. -/
def Request.command (p : Port) (r : Request) : Instr :=
  match r with
  | .readStatus => .readStatus p
  | .readNotices => .readNotices p
  | .readSetting item page => .readSetting p item page
  | .writeSetting item part value => .writeSetting p item part value
  | .writeKrKf c v => .writeSettingKrKf p c v
  | .commitSettings => .commitSettings p
  | .readInputs page => .readInputs p page
  | .readGauges page => .readGauges p page
  | .gaugeSet g a => .gaugeSet p g a
  | .gaugeRelease g => .gaugeRelease p g
  | .readFold page => .readFold p page
  | .readRecord n page => .readRecord p n page
  | .clearRecord n => .clearRecord p n
  | .charterOpen => .charterOpen p
  | .charterClose => .charterClose p
  | .charterAck => .charterAck p
  | .charterRelease => .charterRelease p
  | .odoPreset v => .odoPreset p v
  | .readDerived n => .readDerived p n
  | .readLive => .readLive p
  | .setUnits c => .setUnits p c
  | .readWarnings n => .readWarnings p n
  | .ackWarning id => .ackWarning p id
  | .rearCall => .rearCall p
  | .setOverspeed n => .setOverspeed p n
  | .warningTest id => .warningTest p id
  | .playChime a b c => .playChime p a b c
  | .cancelChimes => .cancelChimes p
  | .rearQuiet a => .rearQuiet p a
  | .readChimes page => .readChimes p page
  | .readService k page => .readService p k page
  | .resetService k => .resetService p k
  | .writeServiceItem k d => .writeServiceItem p k d
  | .readClock => .readClock p
  | .setClock n => .setClock p n
  | .trimClock n => .trimClock p n
  | .setAlarm n => .setAlarm p n
  | .clearAlarm => .clearAlarm p
  | .keepAwake n => .keepAwake p n
  | .readWakeCauses => .readWakeCauses p

/-- R62: the holder of the grant executes its request. -/
def grantDue (s : State) : List Instr :=
  match s.store.grant with
  | none => []
  | some g =>
    match waitingRequest s g.holder with
    | none => []
    | some r => [r.command g.holder]

/-- R62, R64: held marks that may be applied, a granted FOLD, or a granted request. -/
def storeDue (s : State) : List Instr :=
  when (alive s && marksHeld s && s.store.grant.isNone) .recordMarkApply ++ when (foldGranted s) .fold
    ++ (if alive s then grantDue s else [])

/-! ### The tick -/

/-- The timers and intervals that run out in a microsecond. They come before everything that could start one of them again in
the same microsecond: the end of an interval never cuts the one that follows it (log 23). -/
def endingsDue (e : Elapsed) (s : State) : List Instr :=
  s.meas.due e s.pins.injector ++ s.gauge.due e ++ when (s.fold.hold.due e) .transferHoldEnd
    ++ repeatsDue e s.warn.list
    ++ when (s.chime.front.due e) (.noteBoundary .front) ++ when (s.chime.rear.due e) (.noteBoundary .rear)
    ++ flightDue e s.own.free s.nv.flight ++ when (secondDue e s.clock) .secondEnd ++ calibrationDue e s.clock.calib
    ++ awakeTimersDue e s ++ silencesDue (e.line s) s

/-- Everything that comes due in a microsecond: what ends, the granted work, the periodic expiries, the supervisor, PARKED
entry, the wake logic and the service line. -/
def dueNow (e : Elapsed) (s : State) : List Instr :=
  endingsDue e s ++ storeDue s ++ s.timers.due e (e.line s) (e.frame s) s.pins ++ supervisorDue e s
    ++ when (parkReady s) (.parkedEntry s.pins.lines) ++ wakeDue e s
    ++ if alive s then s.port.service.due (e.line s) else []

/-- The state with its timers run down. -/
def passTime (e : Elapsed) (s : State) : State :=
  { s with
    meas := s.meas.pass e s.pins.injector
    gauge := s.gauge.pass e
    fold := { s.fold with hold := s.fold.hold.pass e }
    nv := { s.nv with flight := s.nv.flight.map (Flight.pass e) }
    warn := { s.warn with list := s.warn.list.map (Entry.pass e) }
    chime := { s.chime with front := s.chime.front.pass e, rear := s.chime.rear.pass e }
    clock := s.clock.pass e s
    power := s.power.pass e s
    port := s.port.pass (e.line s) (silenceCounts s)
    timers := s.timers.pass e (e.line s) (e.frame s)
    own := Own.pass e s }

/-- One microsecond on an empty queue. -/
def tick (s : State) : State := { passTime (elapse s) s with pending := dueNow (elapse s) s }

end Sys2Proof.Machine
end

