-- ==== Sys2Proof/Machine/Outputs.lean ====
section
/-! DEFINITION. The output pins, worked from the state: ATTN (R174), SUSPEND (R159), the coil halves (R24), and the tone,
strike and LOUD outputs of the speakers (R122), and the bytes that a link puts out (R168). The lamps are `lampOutput`. -/

namespace Sys2Proof.Machine

/-- R174: the ATTN line of a console is asserted exactly while its notice set is not empty. -/
def attn (s : State) (l : Link) : Bool := (s.link l).notices != 0

/-- R168: the byte that goes out as the `n`-th byte of a link is clocked: of the outgoing frame from its first byte, and 0 past
its end. A transaction that is not received, in PARKED and in a wake sequence before the port block's start, reads 0 from
every byte. -/
def linkByte (s : State) (l : Link) (n : Nat) : Byte :=
  if alive s then
    match (s.link l).select with
    | none => 0
    | some out => out.frame.getD n 0
  else 0

/-- R159: SUSPEND is asserted while a main-clock fault stands. -/
def suspend (s : State) : Bool := s.clock.mainFault

/-- R24: the count, 0..255, of the running PWM frame. -/
def frameCount (s : State) : Nat := s.timers.frame * 256 / 1000000

/-- R24: a half of an H-bridge at a count of the frame: high for the first `duty` counts in the half of the polarity. -/
def halfOutput (d : Duty) (reverse : Bool) (count : Nat) : Bool := d.reverse == reverse && decide (count < d.duty)

/-- R24: the levels of a gauge's four half-bridge outputs: sine forward and reverse, cosine forward and reverse. -/
structure CoilLevels where
  sineForward   : Bool
  sineReverse   : Bool
  cosineForward : Bool
  cosineReverse : Bool
  deriving DecidableEq, Repr

/-- R24, R31: the coil outputs of a gauge now; all low in PARKED. -/
def coilLevels (s : State) (g : Fin 6) : CoilLevels :=
  if alive s then
    let q := (s.gauge.gauges[g]).latched
    let n := frameCount s
    ⟨halfOutput q.a false n, halfOutput q.a true n, halfOutput q.b false n, halfOutput q.b true n⟩
  else ⟨false, false, false, false⟩

/-- R123: the divisor of the note that sounds in a step of a pattern; none in a gap. -/
def stepDivisor (n : Fin 8) (i : Nat) : Option Nat :=
  match (passSteps n)[i]? with
  | some q => q.divisor
  | none => none

/-- R122: a square wave, by the oscillator it is made from: `edges` sub edges, or `micros` of the main oscillator, a
period. -/
inductive Tone where
  | fromSub (edges : Nat)
  | fromMain (micros : Nat)
  deriving DecidableEq, Repr

/-- R122, R133: the tone of a speaker: 16,384 / d Hz is a period of 2d sub edges; low (none) in a gap, when idle, in a
main-clock fault and in PARKED. -/
def tone (s : State) (sp : Speaker) : Option Tone :=
  if clocked s then
    match (s.chime.speaker sp).play with
    | none => none
    | some q => (stepDivisor q.pattern q.step).map fun d => if s.clock.onRc then .fromMain (61 * d) else .fromSub (2 * d)
  else none

/-- R122: the strike output: 2 ms at the start of each sounding note. -/
def strike (s : State) (sp : Speaker) : Bool :=
  clocked s &&
    match (s.chime.speaker sp).play with
    | none => false
    | some q => (stepDivisor q.pattern q.step).isSome && decide (stepMicros q.pattern q.step < q.left + 2000)

/-- R122: the LOUD output: high while the pattern being played has class 5 or more. -/
def loud (s : State) (sp : Speaker) : Bool :=
  clocked s &&
    match (s.chime.speaker sp).play with
    | none => false
    | some q => decide (5 ≤ q.cls)

end Sys2Proof.Machine
end

