-- ==== Sys2Proof/Safety.lean ====
section
/-! DEFINITION. What every step keeps: the ranges of the counters, lists and queues, the order of the active list, and the
check words of the retained blocks. -/

namespace Sys2Proof.Machine

/-- R58, R59, R151: the distances and the seconds counter stay below their moduli. -/
abbrev CountersInRange (s : State) : Prop :=
  s.store.odo.distance < 1000000000 ∧ s.store.a.body.distance < 1000000000 ∧ s.store.b.body.distance < 1000000000
    ∧ s.store.p.body.distance < 1000000000 ∧ s.store.charter.body.distance < 1000000000 ∧ s.clock.seconds < 4294967296

/-- R126, R179: each speaker queue and the output list hold at most 4. -/
abbrev QueuesBounded (s : State) : Prop :=
  s.chime.front.queue.length ≤ 4 ∧ s.chime.rear.queue.length ≤ 4 ∧ s.port.service.output.length ≤ 4

/-- R105, R107: an active list has at most one entry of a definition, and its entries stand by class, highest first. -/
abbrev ListOrdered (l : List Entry) : Prop :=
  (l.map Entry.w).Nodup ∧ l.Pairwise fun a b => (warnDef b.w).cls ≤ (warnDef a.w).cls

/-- R100, R106: an entry has a detail exactly when its definition has a detail kind. -/
abbrev DetailsPresent (l : List Entry) : Prop := ∀ e ∈ l, e.detail.isSome = (warnDef e.w).hasDetail

/-- R33, R34: the eight lamp states are those that the active list makes: a lamp of L0..L6 by its warnings, and MASTER by the
entries of class 3 or more whose definition names MASTER or no lamp. -/
abbrev LampsFollow (s : State) : Prop :=
  let l := s.warn.list
  let flashes (e : Entry) := 6 ≤ (warnDef e.w).cls ∧ e.ackFront = false
  let counts (e : Entry) := ((warnDef e.w).lamp = some 7 ∨ (warnDef e.w).lamp = none) ∧ 3 ≤ (warnDef e.w).cls
  (∀ k : Fin 8, k ≠ 7 → s.gauge.lamps[k] =
    if ∃ e ∈ l, (warnDef e.w).lamp = some k ∧ flashes e then .flashing
    else if ∃ e ∈ l, (warnDef e.w).lamp = some k then .on else .off)
  ∧ s.gauge.lamps[(7 : Fin 8)] =
    if ∃ e ∈ l, counts e ∧ flashes e then .flashing else if ∃ e ∈ l, counts e ∧ e.ackFront = false then .on else .off

/-- R61: the five records carry the check words of what they hold. -/
abbrev RecordsSealed (r : RecordStore) : Prop :=
  r.odo.check = odoCheck r.odo ∧ r.a.check = tripCheck 1 r.a.body ∧ r.b.check = tripCheck 2 r.b.body
    ∧ r.p.check = tripCheck 3 r.p.body ∧ r.charter.check = charterCheck r.charter

/-- R38, R61, R83, R117, R138, R155, R182: every block in retention carries the check word of what it holds. -/
abbrev RetentionSealed (s : State) : Prop :=
  RecordsSealed s.store ∧ s.fold.check = foldCheck s.fold ∧ s.units.check = unitCheck s.units.front s.units.rear
    ∧ s.warn.limitCheck = limitCheck s.warn.limit ∧ s.service.check = serviceCheck s.service.items
    ∧ s.clock.alarmCheck = alarmCheck s.clock.alarm ∧ s.settings.check = settingsCheck s.settings.work

/-- R62: the port order is a ring of the three ports. -/
abbrev OrderComplete (s : State) : Prop := s.store.order.Perm [.front, .rear, .service]

/-! ### When a command is answered -/

/-- R168, R172: the part receives, and the port holds no request awaiting execution. -/
abbrev PortFree (p : Port) (s : State) : Prop := alive s = true ∧ waitingRequest s p = none

/-- R62, R64: the part receives and the record store is free for a port: nothing waits, no grant is held, no mark waits. -/
abbrev StoreFree (p : Port) (s : State) : Prop :=
  alive s = true ∧ (∀ q, waitingRequest s q = none) ∧ s.store.grant = none ∧ s.fold.waiting = false
    ∧ marksHeld s = false ∧ p ∈ s.store.order

/-- R63: a request that changes the record store, and that its arrival checks let by outside a main-clock fault. -/
def changesStore (p : Port) (r : Request) : Bool :=
  match r with
  | .charterOpen => true
  | .charterClose => true
  | .charterAck => true
  | .charterRelease => true
  | .clearRecord k => decide (1 ≤ k.toNat) && decide (k.toNat ≤ 3)
  | .odoPreset v => decide (v.toNat ≤ 9999999)
  | .setClock _ => true
  | .trimClock n => n != 0
  | .writeKrKf .kr v => p == .service && decide (1000 ≤ v.toNat) && decide (v.toNat ≤ 25000)
  | .writeKrKf .kf v => p == .service && decide (1 ≤ v.toNat) && decide (v.toNat ≤ 4000)
  | _ => false

/-- R63: a request that reads the record store, and that its arrival checks let by. -/
def readsStore (r : Request) : Bool :=
  match r with
  | .readRecord k page => decide (k.toNat ≤ 4) && decide (page.toNat ≤ 1)
  | .readDerived k => decide (k.toNat ≤ 4)
  | _ => false

/-- R171, R179: the port has been given a reply: in the link's slot, or last in the output list, which drops a fifth. -/
def Answered (p : Port) (r : Reply) (s t : State) : Prop :=
  match p with
  | .front => t.port.front.slot = .done r
  | .rear => t.port.rear.slot = .done r
  | .service =>
    t.port.service.output = if s.port.service.output.length < 4 then s.port.service.output ++ [r] else s.port.service.output

/-- R161: no park entry is about to begin: the part is not in AWAKE with its delay run down. -/
abbrev ParkNotDue (s : State) : Prop := s.power.state ≠ .awake ∨ s.power.delay ≠ some 0

/-- R30, R164: a park entry that stood has ended: gauges at rest is withdrawn, and a LIVE unit's gauges in RETURN or OFF are back
in FOLLOW. -/
abbrev ParkEntryEnded (s t : State) : Prop :=
  t.power.park = none ∧ t.gauge.atRest = false ∧ ∀ g : Fin 6, t.gauge.gauges[g] =
    if s.gauge.live = true ∧ ((s.gauge.gauges[g]).mode = .ret ∨ (s.gauge.gauges[g]).mode = .off) then
      { s.gauge.gauges[g] with mode := .follow }
    else s.gauge.gauges[g]

/-- The five records, the held marks and the log position are as they were. -/
abbrev SameRecords (s t : State) : Prop :=
  t.store.odo = s.store.odo ∧ t.store.a = s.store.a ∧ t.store.b = s.store.b ∧ t.store.p = s.store.p
    ∧ t.store.charter = s.store.charter ∧ t.store.held = s.store.held ∧ t.store.logPos = s.store.logPos

/-- Nothing of the measurements, the fold, the records, the settings, the unit choices, the service table, the clock or the
periodic expiries has changed. -/
abbrev SameFigures (s t : State) : Prop :=
  t.meas = s.meas ∧ t.fold = s.fold ∧ SameRecords s t ∧ t.settings = s.settings ∧ t.units = s.units
    ∧ t.service = s.service ∧ t.clock = s.clock ∧ t.timers = s.timers

/-- R174: a flag stands in both consoles' notice sets. -/
abbrev Notified (n : Notice) (t : State) : Prop :=
  t.port.front.notices &&& n.bit = n.bit ∧ t.port.rear.notices &&& n.bit = n.bit

/-- R113: from the lists of `a` and `t`: a view that changed has gone up by 1 since `b` in its sequence, with WARNINGS set for its
console, and a view that did not change has kept its sequence. -/
def ViewsCounted (a b t : State) : Prop :=
  (if view .front t.warn.list = view .front a.warn.list then t.warn.seqFront = b.warn.seqFront
   else t.warn.seqFront = (b.warn.seqFront + 1) % 65536
    ∧ t.port.front.notices &&& Notice.warnings.bit = Notice.warnings.bit)
  ∧ (if view .rear t.warn.list = view .rear a.warn.list then t.warn.seqRear = b.warn.seqRear
    else t.warn.seqRear = (b.warn.seqRear + 1) % 65536
      ∧ t.port.rear.notices &&& Notice.warnings.bit = Notice.warnings.bit)
  ∧ (if view .service t.warn.list = view .service a.warn.list then t.warn.seqService = b.warn.seqService
    else t.warn.seqService = (b.warn.seqService + 1) % 65536)

/-- R105: an ACTIVE entry of a definition stands. -/
abbrev ActiveEntry (w : Fin 24) (t : State) : Prop := ∃ e ∈ t.warn.list, e.w = w ∧ e.cleared = false

/-- R65: what a fold of the pending counts makes of the fields of a counting record. -/
def foldedBody (s : State) (x : TripBody) : TripBody :=
  if x.damaged then x else x.take (trialMetres s) (trialMl s) s.fold.buf.run s.fold.buf.moving

/-- R60, R65: what a fold of the pending counts makes of the charter's fields. -/
def foldedCharter (s : State) : TripBody :=
  if s.store.charter.phase = .running then foldedBody s s.store.charter.body else s.store.charter.body

/-- R65: the odometer with the pending road. -/
def foldedOdo (s : State) : Nat := (s.store.odo.distance + trialMetres s) % 1000000000

/-- R81: a slot write of a snapshot is pending, or just gone in flight. -/
def SlotWriteQueued (snapshot : Nat) (t : State) : Prop :=
  t.nv.pendingSlot = some snapshot ∨ ∃ no seq, t.nv.flight = some (.slot snapshot no seq 10000)

/-- R58: the fields of a trip or of the charter that starts now at an odometer reading. -/
def freshBody (now odo : Nat) : TripBody := ⟨false, 0, 0, 0, 0, now, odo, false, false, false⟩

/-- R125: the pattern, class and requester of a queue entry, without its PLAYING mark. -/
def QueueEntry.key (e : QueueEntry) : Fin 8 × Nat × Port := (e.pattern, e.cls, e.requester)

/-- R126: the keys of a speaker's queue. -/
def queueKeys (s : State) (sp : Speaker) : List (Fin 8 × Nat × Port) := (s.chime.speaker sp).queue.map QueueEntry.key

end Sys2Proof.Machine
end

