-- ==== Sys2Proof/WellFormed.lean ====
section
/-! DEFINITION. The commands whose operands the part can be given. A console command with any argument bytes is well-formed,
since the part answers each with a status; the checks stand where the spec gives an event or a frame no such operands. -/

namespace Sys2Proof

/-- R100: the definitions with a repeat time, on the speakers that they name. -/
def repeats (w : Fin 24) (sp : Speaker) : Bool :=
  match sp with
  | .front => w == 0 || w == 1 || w == 2 || w == 6 || w == 20
  | .rear => w == 6

/-- R165: the lines whose edges the wake logic watches against a reference. -/
def wakeLine (i : Fin 16) : Bool := (decide (2 ≤ i.val) && decide (i.val ≤ 6)) || i == 15

/-- R169, section 10.8: the value bytes that a WRITE SETTING frame can carry. -/
def valueFits (value : List Byte) : Bool := decide (1 ≤ value.length) && decide (value.length ≤ 23)

/-- A well-formed command. -/
def Instr.wellFormed (i : Instr) : Bool :=
  match i with
  | .writeSetting _ _ _ value => valueFits value
  | .repeatTimerExpiry w sp => repeats w sp
  | .wakeLineEdge line => wakeLine line
  | _ => true

/-- The port that a console command comes from; an event has none. -/
def Instr.port (i : Instr) : Option Port :=
  match i with
  | .readInputs p _ | .gaugeSet p _ _ | .gaugeRelease p _ | .readGauges p _ | .readFold p _ | .writeSettingKrKf p _ _
  | .readRecord p _ _ | .clearRecord p _ | .charterOpen p | .charterClose p | .charterAck p | .charterRelease p
  | .odoPreset p _ | .readDerived p _ | .readLive p | .setUnits p _ | .readWarnings p _ | .ackWarning p _ | .rearCall p
  | .setOverspeed p _ | .warningTest p _ | .playChime p _ _ _ | .cancelChimes p | .rearQuiet p _ | .readChimes p _
  | .readService p _ _ | .resetService p _ | .writeServiceItem p _ _ | .setClock p _ | .trimClock p _ | .readClock p
  | .setAlarm p _ | .clearAlarm p | .keepAwake p _ | .readWakeCauses p | .readNotices p | .readStatus p
  | .readSetting p _ _ | .writeSetting p _ _ _ | .commitSettings p => some p
  | _ => none

end Sys2Proof
end

