-- ==== Sys2Proof/Certificates/Slice0/Obligations.lean ====
section
/-! DEFINITION. The statements for the provers. OBLIGATIONS.json lists them with the rules they rest on. -/

open Sys2Proof Sys2Proof.Machine

/-! ### The machine -/

/-- A step executes the command at the front of the queue with the queue's rest. -/
def Obligations.StepRunsFrontCommand : Prop :=
  ∀ (c : Instr) (rest : List Instr) (s : State), s.pending = c :: rest → step s = exec c { s with pending := rest }

/-- On an empty queue one microsecond passes (the model's choice, log 2): nothing that only events change is changed, and a
periodic expiry runs down or comes due. -/
def Obligations.EmptyQueuePassesTime : Prop :=
  ∀ s : State, s.pending = [] → ∃ t, step s = .next t
    ∧ t.store = s.store ∧ t.settings = s.settings ∧ t.units = s.units ∧ t.service = s.service ∧ t.pins = s.pins
    ∧ t.fold.buf = s.fold.buf ∧ t.fold.tank = s.fold.tank ∧ t.clock.seconds = s.clock.seconds
    ∧ t.clock.alarm = s.clock.alarm ∧ t.power.state = s.power.state ∧ t.power.park = s.power.park
    ∧ t.port.front.slot = s.port.front.slot ∧ t.port.rear.slot = s.port.rear.slot
    ∧ t.gauge.gauges = s.gauge.gauges ∧ t.gauge.lamps = s.gauge.lamps ∧ t.meas.channels = s.meas.channels
    ∧ t.meas.speed = s.meas.speed ∧ t.meas.levels = s.meas.levels
    ∧ (clocked s = true → s.pins.main = true →
        if s.timers.fold ≤ 1 then Instr.foldExpiry ∈ t.pending else t.timers.fold + 1 = s.timers.fold)

/-- No command ends in a fault or a refusal: every command has a next state in every state. -/
def Obligations.EveryCommandCompletes : Prop := ∀ (c : Instr) (s : State), ∃ t, exec c s = .next t

/-- The reset state is what a COLD START leaves with an erased array and the pins of log 1 (DESIGN CHOICE), and it satisfies
every invariant below. -/
def Obligations.ResetIsColdStart : Prop :=
  exec (.coldStart ⟨#v[128, 128, 128, 128, 128, 128], 0, true⟩) State.reset = .next State.reset
    ∧ CountersInRange State.reset ∧ QueuesBounded State.reset ∧ ListOrdered State.reset.warn.list
    ∧ DetailsPresent State.reset.warn.list ∧ LampsFollow State.reset ∧ RetentionSealed State.reset
    ∧ OrderComplete State.reset

/-- R58, R59, R151: every step keeps the record distances and the seconds counter below their moduli. -/
def Obligations.CountersStayInRange : Prop := ∀ s t : State, CountersInRange s → step s = .next t → CountersInRange t

/-- R62, R126, R179: every step keeps the speaker queues and the output list at 4 at most, and the port order a ring of the
three ports. -/
def Obligations.QueuesStayBounded : Prop :=
  ∀ s t : State, step s = .next t → (QueuesBounded s → QueuesBounded t) ∧ (OrderComplete s → OrderComplete t)

/-- R105, R106, R107: every step keeps the active list at one entry a definition, in class order, and each entry with a detail
exactly when its definition has one. -/
def Obligations.ActiveListStaysOrdered : Prop :=
  ∀ s t : State, step s = .next t →
    (ListOrdered s.warn.list → ListOrdered t.warn.list) ∧ (DetailsPresent s.warn.list → DetailsPresent t.warn.list)

/-- R33, R34, R115: every step keeps the eight lamp states as the active list makes them. -/
def Obligations.LampsFollowTheList : Prop := ∀ s t : State, LampsFollow s → step s = .next t → LampsFollow t

/-- R38, R61, R83, R117, R138, R155, R182: every step leaves each retained block with the check word of what it holds. -/
def Obligations.RetentionStaysSealed : Prop := ∀ s t : State, RetentionSealed s → step s = .next t → RetentionSealed t

/-! ### Measurement -/

/-- R2 to R8, R18: a road edge is counted, held at 65,535, and outside a main-clock fault it times the period and the age;
an engine edge times the engine and makes it running; a stale age is held, and a stale engine age ends running; an open tick
returns the residue to 0 and adds one pending open tick, held at 16,777,215; the raw and filtered speed and rpm of a sample, and
the moving condition. -/
def Obligations.PulsesAreCountedTimedAndSampled : Prop :=
  ∀ s : State,
    (alive s = true → ∃ t, exec .roadPulseEdge s = .next t
      ∧ t.fold.buf =
        { s.fold.buf with
          pulses := if s.fold.buf.pulses < 65535 then s.fold.buf.pulses + 1 else s.fold.buf.pulses }
      ∧ t.meas.road =
        (if s.clock.mainFault then s.meas.road
         else if s.meas.road.broken then ⟨s.meas.road.period, 0, false⟩
         else if s.meas.road.age = 1000001 then ⟨none, 0, false⟩
         else ⟨some (max 1 s.meas.road.age), 0, false⟩)
      ∧ t = { s with
          meas := { s.meas with road := t.meas.road }
          fold := { s.fold with buf := t.fold.buf, check := t.fold.check } })
    ∧ (alive s = false → exec .roadPulseEdge s = .next s)
    ∧ (clocked s = true →
      exec .enginePulseEdge s = .next { s with meas := { s.meas with
          engine :=
            if s.meas.engine.broken then ⟨s.meas.engine.period, 0, false⟩
            else if s.meas.engine.age = 500001 then ⟨none, 0, false⟩
            else ⟨some (max 1 s.meas.engine.age), 0, false⟩
          running := true } }
      ∧ exec .engineAgeStale s = .next { s with meas := { s.meas with
          engine := { s.meas.engine with age := 500001 }, running := false } }
      ∧ exec .roadAgeStale s = .next { s with meas := { s.meas with road := { s.meas.road with age := 1000001 } } }
      ∧ ∃ t, exec .openTick s = .next t
        ∧ t.meas = { s.meas with residue := 0 }
        ∧ t.fold.buf =
          { s.fold.buf with ticks := if s.fold.buf.ticks < 16777215 then s.fold.buf.ticks + 1 else s.fold.buf.ticks }
        ∧ t = { s with meas := t.meas, fold := { s.fold with buf := t.fold.buf, check := t.fold.check } })
    ∧ (clocked s = false →
      exec .enginePulseEdge s = .next s ∧ exec .engineAgeStale s = .next s ∧ exec .roadAgeStale s = .next s
      ∧ exec .openTick s = .next s)
    ∧ (clocked s = true →
      (let raw : Nat :=
      match s.meas.road.period with
      | none => 0
      | some p =>
        if s.meas.road.age = 1000001 then 0
        else min 2550 ((2 * 36000000000 + s.settings.work.kr * max p s.meas.road.age)
          / (2 * (s.settings.work.kr * max p s.meas.road.age)))
    let f := s.meas.speed
    ∃ t, exec .speedSampleExpiry s = .next t
      ∧ t = { s with
          timers := { s.timers with speed := 62500 }
          meas := { s.meas with
            rawSpeed := raw
            speed := if ((raw : Int) - f).natAbs < 4 then raw else ((f : Int) + Int.tdiv ((raw : Int) - f) 4).toNat } }
      ∧ moving t = decide (30 ≤ t.meas.speed))
    ∧ (let raw : Nat :=
      match s.meas.engine.period with
      | none => 0
      | some p =>
        if s.meas.engine.age = 500001 then 0
        else min 9999 ((2 * 60000000 + s.settings.work.ppr * p) / (2 * (s.settings.work.ppr * p)))
    let f := s.meas.rpm
    exec .rpmSampleExpiry s = .next { s with
      timers := { s.timers with rpm := 62500 }
      meas := { s.meas with
        rawRpm := raw
        rpm := if ((raw : Int) - f).natAbs < 2 then raw else ((f : Int) + Int.tdiv ((raw : Int) - f) 2).toNat } }))

/-- R9 to R13, R54, R104: what an analog scan makes of each channel, by its state and its sample; W15 raised with a channel that
enters FAULT and dropping one that leaves it (the order of the channels of one scan is log 15, and nothing here rests on it); and
the snap of the tank model at the end of the fast window. -/
def Obligations.AnalogScanStepsChannels : Prop :=
  ∀ (s : State) (samples : Vector Byte 6) (i : Fin 6), clocked s = true → ListOrdered s.warn.list →
    DetailsPresent s.warn.list →
    ∃ t, exec (.analogScanExpiry samples) s = .next t
      ∧ (let c := s.meas.channels[i]
        let d := t.meas.channels[i]
        let v := samples[i].toNat
        let inRange := 4 ≤ v ∧ v ≤ 251
        let curve := s.settings.work.senders[i]
        (c.state ≠ .fault → inRange →
          d.filter = (if c.provisional then v * 256
            else ((c.filter : Int) + Int.tdiv ((v * 256 : Nat) - (c.filter : Int)) (2 ^ filterConstant s i : Nat)).toNat)
          ∧ d.state = .normal ∧ d.outCount = 0 ∧ d.provisional = false
          ∧ d.x = (2 * d.filter + 256) / 512 ∧ d.value = curve.apply d.x)
        ∧ (c.state ≠ .fault → ¬ inRange → c.outCount + 1 < 8 →
          d.filter = c.filter ∧ d.state = .counting ∧ d.outCount = c.outCount + 1 ∧ d.provisional = c.provisional
          ∧ d.x = (2 * c.filter + 256) / 512 ∧ d.value = curve.apply d.x)
        ∧ (c.state ≠ .fault → ¬ inRange → 8 ≤ c.outCount + 1 →
          d.filter = c.filter ∧ d.state = .fault ∧ d.inCount = 0 ∧ d.value = c.value)
        ∧ (c.state = .fault → ¬ inRange → d = { c with sample := samples[i], inCount := 0 })
        ∧ (c.state = .fault → inRange → c.inCount + 1 < 16 →
          d = { c with sample := samples[i], inCount := c.inCount + 1 })
        ∧ (c.state = .fault → inRange → 16 ≤ c.inCount + 1 →
          d.filter = v * 256 ∧ d.state = .normal ∧ d.outCount = 0 ∧ d.provisional = false ∧ d.value = curve.apply v))
      ∧ (s.power.state = .run → ∀ n, s.meas.fastWindow = some n →
          t.meas.fastWindow = if n + 1 < 8 then some (n + 1) else none)
      ∧ (let enters (j : Fin 6) := s.meas.channels[j].state ≠ .fault ∧ t.meas.channels[j].state = .fault
        let leaves (j : Fin 6) := s.meas.channels[j].state = .fault ∧ t.meas.channels[j].state ≠ .fault
        (enters i → ∃ e ∈ t.warn.list, e.w = 15 ∧ e.cleared = false ∧ (e.detail.getD 0).getLsbD i = true)
        ∧ (leaves i → ∀ e ∈ t.warn.list, e.w = 15 → e.cleared = false → (e.detail.getD 0).getLsbD i = false)
        ∧ (leaves i → (∀ j, ¬ enters j) →
            (∀ e ∈ s.warn.list, e.w = 15 → e.cleared = false → e.detail = some ((1 : BitVec 8) <<< i.val)) →
            ¬ ActiveEntry 15 t)
        ∧ ((∀ j, ¬ enters j ∧ ¬ leaves j) → view .service t.warn.list = view .service s.warn.list))
      ∧ (let a := t.meas.channels[0]
        let b := t.meas.channels[1]
        let k := s.fold.tank
        let snaps := s.power.state = .run ∧ (∃ n, s.meas.fastWindow = some n ∧ 8 ≤ n + 1)
          ∧ a.state ≠ .fault ∧ b.state ≠ .fault ∧ (k.settled = false ∨ 5000 < (a.value + b.value - k.q).natAbs)
        (snaps → t.fold = { s.fold with tank := t.fold.tank, check := foldCheck t.fold }
          ∧ t.fold.tank = ⟨min (s.settings.work.cm + s.settings.work.ca) (a.value + b.value).toNat, true, true, true, true⟩
          ∧ Notified .status t)
        ∧ (¬ snaps → t.fold = s.fold))
      ∧ t.pins = { s.pins with samples := samples } ∧ t.timers = { s.timers with analog := 62500 }
      ∧ t.meas.levels = s.meas.levels ∧ t.meas.speed = s.meas.speed ∧ t.meas.rpm = s.meas.rpm
      ∧ SameRecords s t ∧ t.settings = s.settings ∧ t.units = s.units
      ∧ t.service = s.service ∧ t.clock = s.clock

/-- R10, R16, R17, R26, R27, R55, R104, R116, R160, R161, R164, R176: a switch scan accepts a level at the fourth reading in a
row that differs, and counts or clears each candidate; and what the accepted lines deliver: the power state and what a RUN
entry, leaving RUN, and entering or leaving AWAKE do, the park delay, W19 and transfer hold. Levels are accepted before any is
delivered (log 15, DESIGN CHOICE). A park entry that ends puts the gauges of a LIVE unit back and withdraws gauges at rest
(R30). -/
def Obligations.SwitchScanDebounces : Prop :=
  ∀ (s : State) (lines : BitVec 16) (i : Fin 16), alive s = true → ListOrdered s.warn.list →
    (s.power.state ≠ .awake → s.power.park = none) →
    ∃ t, exec (.switchScanExpiry lines) s = .next t
      ∧ (let differs := lines.getLsbD i.val != s.meas.levels.getLsbD i.val
        let accepts := differs && decide (3 ≤ s.meas.candidates[i])
        level t i.val = (if accepts then lines.getLsbD i.val else s.meas.levels.getLsbD i.val)
        ∧ t.meas.candidates[i] = (if differs && !accepts then s.meas.candidates[i] + 1 else 0))
      ∧ (let accepted (j : Fin 16) : Bool :=
          (lines.getLsbD j.val != s.meas.levels.getLsbD j.val) && decide (3 ≤ s.meas.candidates[j])
        let old := s.power.state
        let new := t.power.state
        let back (x : Gauge) : Gauge :=
          if s.power.park.isSome = true ∧ s.gauge.live = true ∧ (x.mode = .ret ∨ x.mode = .off) then { x with mode := .follow }
          else x
        (new = if accepted 0 || accepted 1 then (if level t 0 then .run else if level t 1 then .acc else .awake) else old)
        ∧ ((∀ j, accepted j = false) → ParkNotDue s → t.power = s.power ∧ t.gauge = { s.gauge with lamps := t.gauge.lamps }
            ∧ view .service t.warn.list = view .service s.warn.list ∧ t.meas.fastWindow = s.meas.fastWindow)
        ∧ (new = .run → old ≠ .run →
            t.gauge.live = true ∧ t.gauge.bulbCheck = some 3000000 ∧ t.meas.fastWindow = some 0
            ∧ (∀ e ∈ t.warn.list, e.w = 13 ∨ e.w = 14 → e.ackFront = false ∧ e.ackRear = false)
            ∧ (∀ g : Fin 6,
              let x := back s.gauge.gauges[g]
              t.gauge.gauges[g] =
                if (s.gauge.live = false ∧ (x.mode = .off ∨ x.mode = .ret))
                    ∨ (s.gauge.live = true ∧ old = .awake ∧ s.gauge.sweepOn = true ∧ x.mode = .follow) then
                  (if s.gauge.sweepOn then { x with mode := .sweep, phase := .up } else { x with mode := .follow })
                else x))
        ∧ (old = .awake → new = .acc → ∀ g : Fin 6, t.gauge.gauges[g] = back s.gauge.gauges[g])
        ∧ (old = .awake → new ≠ .awake → s.power.park.isSome = true → t.gauge.atRest = false)
        ∧ (old = .run → new ≠ .run → t.meas.fastWindow = none ∧ ∀ g : Fin 6,
            let x := s.gauge.gauges[g]
            t.gauge.gauges[g] = if x.mode = .sweep then { x with mode := .follow } else x)
        ∧ (new = .awake → old ≠ .awake → t.power.delay = some 983040 ∧ t.power.limit = some 39321600
            ∧ ¬ ActiveEntry 23 t ∧ t.port.front.silent = false ∧ t.port.rear.silent = false)
        ∧ (old = .awake → new ≠ .awake → t.power.delay = none ∧ t.power.limit = none ∧ t.power.park = none
            ∧ t.port.front.silence = 0 ∧ t.port.rear.silence = 0)
        ∧ (old = .awake → new = .awake → accepted i = true →
            t.power = { s.power with
              delay := some 983040, park := if s.power.park = some .delay then none else s.power.park }
            ∧ (s.power.park = some .delay → ParkEntryEnded s t)
            ∧ (s.power.park ≠ some .delay → t.gauge = { s.gauge with lamps := t.gauge.lamps }))
        ∧ (accepted 15 = true → level t 15 = true → ActiveEntry 19 t)
        ∧ t.fold.hold =
          (if accepted 14 then (if level t 14 then .pumping else .ending 60000000) else s.fold.hold))
      ∧ t.pins = { s.pins with lines := lines } ∧ t.timers = { s.timers with switch := 8000 }
      ∧ t.meas.channels = s.meas.channels ∧ t.meas.speed = s.meas.speed ∧ t.meas.road = s.meas.road
      ∧ t.fold.buf = s.fold.buf ∧ t.fold.tank = s.fold.tank ∧ SameRecords s t ∧ t.settings = s.settings
      ∧ t.units = s.units ∧ t.service = s.service ∧ t.clock = s.clock

/-! ### Gauges -/

/-- R21 to R24, R27, R29, R30: a gauge step: the target by mode, the commanded angle within its slew, the staged pair marked as
freshly staged, OFF at the end of a return, the ends of the two sweep phases, the manual silence count with its release at 640,
and the sweep setting taken. That the count goes up and releases after the gauges have moved is log 41 (DESIGN CHOICE). -/
def Obligations.GaugeStepMovesWithinSlew : Prop :=
  ∀ (s : State) (g : Fin 6), clocked s = true →
    ∃ t, exec .gaugeStepExpiry s = .next t
      ∧ (let released : Bool := s.gauge.silence.any fun n => decide (640 ≤ n + 1)
        t = { s with gauge := t.gauge, timers := { s.timers with gauge := 15625 } }
      ∧ t.gauge = { s.gauge with
          gauges := t.gauge.gauges
          silence := if released then none else s.gauge.silence.map (· + 1)
          sweepOn := s.settings.work.sweep }
      ∧ (let x := s.gauge.gauges[g]
        let y := t.gauge.gauges[g]
        let goal := gaugeTarget s g x
        let limit := if x.mode = .ret then 16 else slewLimit g
        let moved :=
          if x.mode = .off then 0
          else if x.commanded ≤ goal then min goal (x.commanded + limit) else max goal (x.commanded - limit)
        let all (ph : SweepPhase) (angle : Nat) := ∀ h : Fin 6, s.gauge.gauges[h].mode = .sweep →
          s.gauge.gauges[h].phase = ph ∧ t.gauge.gauges[h].commanded = angle
        y.commanded = moved ∧ y.target = goal ∧ y.latched = x.latched ∧ y.manualAngle = x.manualAngle ∧ y.fresh = true
        ∧ (x.mode ≠ .sweep → y.phase = x.phase)
        ∧ (x.mode = .sweep → all .up 1079 → y.mode = .sweep ∧ y.phase = .down)
        ∧ (x.mode = .sweep → all .down 0 → y.mode = .follow)
        ∧ (x.mode = .sweep → ¬ all .up 1079 → ¬ all .down 0 → y.mode = .sweep ∧ y.phase = x.phase)
        ∧ y.staged = (if x.mode = .off ∨ (x.mode = .ret ∧ moved = 0) then ⟨⟨0, false⟩, ⟨0, false⟩⟩
            else dutyPair moved s.settings.work.offsets[g])
        ∧ (x.mode = .ret → y.mode = if moved = 0 then .off else .ret)
        ∧ (x.mode = .manual → y.mode = if released then (if s.gauge.live then .follow else .ret) else .manual)
        ∧ (x.mode = .off → y.mode = .off) ∧ (x.mode = .follow → y.mode = .follow)))

/-- R24, R29, R30, R31, R35, R36: the silence release, the frame start, the flasher and the ends of bulb check and lamp test. A
frame starts at count 0; that one that starts in time keeps what its phase ran past the end is log 2 (DESIGN CHOICE). -/
def Obligations.GaugeAndLampEvents : Prop :=
  ∀ s : State,
    (clocked s = true →
      exec .flasherPhaseChange s = .next { s with
        timers := { s.timers with flasher := 500000 }, gauge := { s.gauge with flasherOn := !s.gauge.flasherOn } }
      ∧ exec .bulbCheckEnd s = .next { s with gauge := { s.gauge with bulbCheck := none } }
      ∧ (∀ l : Fin 8, exec (.lampTestEnd l) s =
          .next { s with gauge := { s.gauge with lampTests := s.gauge.lampTests.set l none } })
      ∧ (∀ n, s.gauge.silence = some n → exec .manualSilenceRelease s = .next { s with gauge := { s.gauge with
          silence := none
          gauges := Vector.ofFn fun g : Fin 6 =>
            let x := s.gauge.gauges[g]
            if x.mode = .manual then { x with mode := if s.gauge.live then .follow else .ret } else x } }))
    ∧ (alive s = true → ∃ t, exec .pwmFrameStart s = .next t
      ∧ t = { s with gauge := t.gauge, timers := { s.timers with frame := t.timers.frame } }
      ∧ (s.timers.frame < 1000000 → t.timers.frame = 0)
      ∧ (1000000 ≤ s.timers.frame → t.timers.frame = s.timers.frame % 1000000)
      ∧ t.gauge = { s.gauge with gauges := t.gauge.gauges, atRest := t.gauge.atRest, frameOnRc := false }
      ∧ (∀ g : Fin 6, t.gauge.gauges[g] =
          let x := s.gauge.gauges[g]
          if x.fresh then { x with latched := x.staged, fresh := false } else x)
      ∧ (t.gauge.atRest = true ↔ s.gauge.atRest = true ∨ (s.power.park.isSome = true
          ∧ ∀ g : Fin 6, t.gauge.gauges[g].mode = .off ∧ t.gauge.gauges[g].latched = ⟨⟨0, false⟩, ⟨0, false⟩⟩)))

/-- R28, R29: GAUGE SET and GAUGE RELEASE: their refusals in their order, MANUAL at the clamped angle, and the release of one gauge
or of every gauge in MANUAL. That the replies of GAUGE RELEASE carry no content is the model's choice (log 29, DESIGN CHOICE). -/
def Obligations.ManualGaugesAreSetAndReleased : Prop :=
  ∀ (p : Port) (gauge : Byte) (angle : BitVec 16) (s : State), PortFree p s → ParkNotDue s →
    let rest (t : State) := t.meas = s.meas ∧ t.fold = s.fold ∧ SameRecords s t ∧ t.settings = s.settings ∧ t.units = s.units
      ∧ t.service = s.service ∧ t.clock = s.clock ∧ t.timers = s.timers
    (∃ t, exec (.gaugeSet p gauge angle) s = .next t
      ∧ (5 < gauge.toNat → Answered p ⟨.badArgument, []⟩ s t ∧ t.gauge.gauges = s.gauge.gauges)
      ∧ (∀ g : Fin 6, gauge.toNat = g.val →
          let kept (st : Status) := Answered p ⟨st, gaugeField s.gauge.gauges[g]⟩ s t ∧ t.gauge.gauges = s.gauge.gauges
            ∧ t.gauge.silence = s.gauge.silence
          if p ≠ .service then kept .denied
          else if s.clock.mainFault then kept .clockFault
          else if s.power.park.isSome then kept .wrongState
          else
            t.gauge.gauges = s.gauge.gauges.set g
              { s.gauge.gauges[g] with mode := .manual, manualAngle := min 1079 angle.toNat }
            ∧ t.gauge.silence = some 0 ∧ Answered p ⟨.ok, gaugeField t.gauge.gauges[g]⟩ s t)
      ∧ rest t)
    ∧ (∃ t, exec (.gaugeRelease p gauge) s = .next t
      ∧ (let kept (st : Status) := Answered p ⟨st, []⟩ s t ∧ t.gauge.gauges = s.gauge.gauges
            ∧ t.gauge.silence = s.gauge.silence
        if 6 < gauge.toNat then kept .badArgument
        else if p ≠ .service then kept .denied
        else if s.clock.mainFault then kept .clockFault
        else if s.power.park.isSome then kept .wrongState
        else
          (gauge.toNat = 6 → Answered p ⟨.ok, []⟩ s t ∧ t.gauge.silence = none
            ∧ ∀ g : Fin 6, t.gauge.gauges[g] =
              let x := s.gauge.gauges[g]
              if x.mode = .manual then { x with mode := if s.gauge.live then .follow else .ret } else x)
          ∧ (∀ g : Fin 6, gauge.toNat = g.val →
              let x := s.gauge.gauges[g]
              if x.mode = .manual then
                Answered p ⟨.ok, []⟩ s t
                ∧ t.gauge.gauges = s.gauge.gauges.set g { x with mode := if s.gauge.live then .follow else .ret }
                ∧ t.gauge.silence =
                  (if ∃ h : Fin 6, t.gauge.gauges[h].mode = .manual then s.gauge.silence else none)
              else kept .wrongState))
      ∧ rest t)

/-! ### Fold -/

/-- R43, R44: a fold converts the pending counts exactly and carries the remainders. -/
def Obligations.FoldConverts : Prop :=
  ∀ s : State, foldGranted s = true → RecordsSealed s.store →
    let kr := s.settings.work.kr
    let total := s.fold.buf.pulses * 1000 + s.fold.rd
    let metres := total / kr
    let num := s.fold.buf.ticks * s.settings.work.kf + s.fold.rf
    let ml := num / 1000000
    (∃ t, exec .fold s = .next t
      ∧ t.store.odo.distance = (s.store.odo.distance + metres) % 1000000000
      ∧ (s.store.a.body.damaged = false → t.store.a.body.fuel = min 99999999 (s.store.a.body.fuel + ml))
      ∧ t.fold.rd = total - metres * kr ∧ (0 < kr → t.fold.rd < kr)
      ∧ t.fold.rf = num - ml * 1000000 ∧ t.fold.rf < 1000000)
    ∧ (s.fold.buf.pulses = kr → s.fold.rd < kr → metres = 1000)
    ∧ (s.fold.buf.pulses ≤ 65535 → 1000 ≤ kr → s.fold.rd < kr → metres ≤ 65535)
    ∧ (s.fold.buf.ticks ≤ 16777215 → s.settings.work.kf ≤ 4000 → s.fold.rf < 1000000 → ml ≤ 67109)
    ∧ itemRange 1 = some (1, 4000) ∧ Settings.builtIn.kf = 461

/-- R46, R51, R59, R65, R66: where a fold's result goes: ODO with its allowance and slot writes, the trips, the charter, the
tank; the buffer is empty and nothing waits. -/
def Obligations.FoldDelivers : Prop :=
  ∀ s : State, foldGranted s = true → RecordsSealed s.store →
    ∃ t, exec .fold s = .next t
      ∧ t.store.odo.distance = foldedOdo s
      ∧ (t.store.odo.allowanceOpen = true ↔ s.store.odo.allowanceOpen = true ∧ foldedOdo s < 100000)
      ∧ t.store.odo.reloaded = s.store.odo.reloaded ∧ t.store.odo.preset = s.store.odo.preset
      ∧ (s.store.odo.distance / 1000 ≠ foldedOdo s / 1000 → SlotWriteQueued (foldedOdo s / 100) t)
      ∧ t.store.a.body = foldedBody s s.store.a.body ∧ t.store.b.body = foldedBody s s.store.b.body
      ∧ t.store.p.body = foldedBody s s.store.p.body ∧ t.store.charter.body = foldedCharter s
      ∧ t.store.charter.phase = s.store.charter.phase ∧ t.store.charter.endStamp = s.store.charter.endStamp
      ∧ t.store.charter.ackFront = s.store.charter.ackFront ∧ t.store.charter.ackRear = s.store.charter.ackRear
      ∧ t.fold.buf = ⟨0, 0, 0, 0, 0, 0, 0, false⟩ ∧ t.fold.waiting = false
      ∧ t.fold.tank = { s.fold.tank with q := s.fold.tank.q - trialMl s } ∧ t.fold.hold = s.fold.hold
      ∧ t.meas = s.meas ∧ t.settings = s.settings ∧ t.units = s.units ∧ t.clock = s.clock ∧ t.timers = s.timers
      ∧ t.store.held = s.store.held ∧ t.store.logPos = s.store.logPos ∧ t.nv.slots = s.nv.slots ∧ t.nv.block = s.nv.block

/-- R47, R48: what a fold makes of the window ring and the range ring, and when the rings are emptied. That the fold check of a RESTART or WAKE
is made on what retention held, before a reload of the settings changes it, is log 20 (DEDUCED). -/
def Obligations.FoldFillsRings : Prop :=
  ∀ s : State,
    (foldGranted s = true → RecordsSealed s.store →
      let n := s.fold.buf.elapsed
      let g : Segment := ⟨s.fold.seg.metres + trialMetres s, min 200000 (s.fold.seg.ml + trialMl s)⟩
      ∃ t, exec .fold s = .next t
        ∧ (1 ≤ n → s.fold.window.length < 8 → t.fold.window = s.fold.window ++ [⟨trialMetres s, trialMl s, n⟩])
        ∧ (1 ≤ n → 8 ≤ s.fold.window.length →
            t.fold.window = s.fold.window.tail ++ [⟨trialMetres s, trialMl s, n⟩])
        ∧ (n = 0 → s.fold.window = [] → t.fold.window = [⟨trialMetres s, trialMl s, 0⟩])
        ∧ (∀ old e, n = 0 → s.fold.window = old ++ [e] →
            t.fold.window = old ++ [⟨min 65535 (e.metres + trialMetres s), min 67109 (e.ml + trialMl s), e.qs⟩])
        ∧ (g.metres < 5000 → t.fold.seg = g ∧ t.fold.closed = s.fold.closed)
        ∧ (5000 ≤ g.metres → t.fold.seg = ⟨0, 0⟩
          ∧ t.fold.closed = (if s.fold.closed.length < 10 then s.fold.closed else s.fold.closed.tail) ++ [g]))
    ∧ (∀ i : StartInputs,
      (∃ t, exec (.coldStart i) s = .next t ∧ t.fold.window = [] ∧ t.fold.seg = ⟨0, 0⟩ ∧ t.fold.closed = [])
      ∧ (∃ t, exec (.restart i) s = .next t
        ∧ t.fold.window = (if s.fold.check = foldCheck s.fold then s.fold.window else [])
        ∧ t.fold.seg = (if s.fold.check = foldCheck s.fold then s.fold.seg else ⟨0, 0⟩)
        ∧ t.fold.closed = (if s.fold.check = foldCheck s.fold then s.fold.closed else []))
      ∧ (parkedState s = true → s.power.waking.isSome = true → ∃ t, exec (.wakeSequence i) s = .next t
        ∧ t.fold.window = (if s.fold.check = foldCheck s.fold then s.fold.window else [])
        ∧ t.fold.seg = (if s.fold.check = foldCheck s.fold then s.fold.seg else ⟨0, 0⟩)
        ∧ t.fold.closed = (if s.fold.check = foldCheck s.fold then s.fold.closed else [])))

/-- R140, R141: what a fold takes from each service item, in a main-clock fault too (log 33, DEDUCED: R42 over R150's sentence). -/
def Obligations.FoldConsumesServiceItems : Prop :=
  ∀ (s : State) (k : Fin 8), foldGranted s = true → RecordsSealed s.store →
    ∃ t, exec .fold s = .next t
      ∧ (let d := s.settings.work.items[k]
        let x := s.service.items[k]
        let y := t.service.items[k]
        let b := s.fold.buf
        let counts := x.state = .ok ∨ x.state = .soon ∨ x.state = .due ∨ x.state = .overdue
        let consumed := trialMetres s * (if b.cold then d.wc else d.wn) + x.rq
        let n := b.idle * d.wi + x.ri
        let e := b.engine + x.re
        (counts → 0 < d.km →
          y.dist = max (-99999000) (x.dist - (consumed / 4 : Nat) - (n / 240 : Nat)) ∧ y.rq = consumed % 4
          ∧ y.ri = n % 240)
        ∧ (¬ (counts ∧ 0 < d.km) → y.dist = x.dist ∧ y.rq = x.rq ∧ y.ri = x.ri)
        ∧ (counts → 0 < d.hours → y.time = max (-3600000) (x.time - (e / 4 : Nat)) ∧ y.re = e % 4)
        ∧ (¬ (counts ∧ 0 < d.hours) → y.time = x.time ∧ y.re = x.re)
        ∧ y.due = x.due)

/-- R39, R40, R41: a fold expiry counts the quarter-seconds and makes a request, or merges into the waiting one; under a grant it
is counted as come since the grant (log 8, DEDUCED). -/
def Obligations.FoldExpiryCounts : Prop :=
  ∀ s : State,
    (clocked s = true → ∃ t, exec .foldExpiry s = .next t
      ∧ t = { s with timers := { s.timers with fold := 250000 }, fold := t.fold, store := t.store }
      ∧ t.store = { s.store with grant := t.store.grant }
      ∧ t.fold = { s.fold with
          buf := t.fold.buf
          check := foldCheck t.fold
          waiting := true
          merges := if s.fold.waiting then min 255 (s.fold.merges + 1) else 0 }
      ∧ (let b := s.fold.buf
        let up (c : Bool) (n : Nat) : Nat := if c then min 65535 (n + 1) else n
        let isMoving := decide (30 ≤ s.meas.speed)
        let c := s.meas.channels[2]
        t.fold.buf = { b with
          elapsed := min 65535 (b.elapsed + 1)
          run := up (s.meas.levels.getLsbD 0) b.run
          moving := up isMoving b.moving
          engine := up s.meas.running b.engine
          idle := up (s.meas.running && !isMoving) b.idle
          cold := b.cold || decide (c.state = .fault ∨ c.value < s.settings.work.cold) }
        ∧ (s.store.grant = none → t.store.grant = none)
        ∧ (∀ g, s.store.grant = some g → t.store.grant = some { g with since := {
            elapsed := min 65535 (g.since.elapsed + 1)
            run := up (s.meas.levels.getLsbD 0) g.since.run
            moving := up isMoving g.since.moving
            engine := up s.meas.running g.since.engine
            idle := up (s.meas.running && !isMoving) g.since.idle
            cold := g.since.cold || decide (c.state = .fault ∨ c.value < s.settings.work.cold) } })))
    ∧ (clocked s = false → exec .foldExpiry s = .next s)

/-- R53, R55: the tank model's correction toward the senders, and the end of transfer hold. -/
def Obligations.TankModelCorrects : Prop :=
  ∀ s : State, clocked s = true →
    (∃ t, exec .modelExpiry s = .next t
      ∧ t = { s with timers := { s.timers with model := 4000000 }, fold := t.fold }
      ∧ t.fold = { s.fold with tank := t.fold.tank, check := t.fold.check }
      ∧ (let k := s.fold.tank
        let sum := s.meas.channels[0].value + s.meas.channels[1].value
        let q' := (k.q : Int) + Int.tdiv (sum - k.q) (if s.fold.hold = .off then 16 else 64)
        t.fold.tank =
          if (s.power.state = .run ∨ s.power.state = .acc) ∧ k.settled = true ∧ s.meas.channels[0].state ≠ .fault
              ∧ s.meas.channels[1].state ≠ .fault then
            { k with q := min (s.settings.work.cm + s.settings.work.ca) q'.toNat }
          else k))
    ∧ (∀ n, s.fold.hold = .ending n → exec .transferHoldEnd s = .next { s with fold := { s.fold with hold := .off } })
    ∧ ((∀ n, s.fold.hold ≠ .ending n) → exec .transferHoldEnd s = .next s)

/-- R41, R49: a WRITE SETTING of Kr or Kf: its refusals, and under its grant a command fold with the old constant, the loss
of the remainder, and the new constant. DENIED before the range check, and the OK reply without content, are the model's choices
(log 18, DESIGN CHOICE); so are the refusals without content (log 29). -/
def Obligations.CalibrationWriteFoldsFirst : Prop :=
  ∀ (p : Port) (c : CalConstant) (v : BitVec 16) (s : State), StoreFree p s → RecordsSealed s.store →
    ∃ t, exec (.writeSettingKrKf p c v) s = .next t
      ∧ (let inRange := match c with | .kr => 1000 ≤ v.toNat ∧ v.toNat ≤ 25000 | .kf => 1 ≤ v.toNat ∧ v.toNat ≤ 4000
        let refused (st : Status) := Answered p ⟨st, []⟩ s t ∧ SameFigures s t
        (p ≠ .service → refused .denied)
        ∧ (p = .service → ¬ inRange → refused .badArgument)
        ∧ (p = .service → inRange → s.clock.mainFault = true → refused .clockFault)
        ∧ (p = .service → inRange → s.clock.mainFault = false →
          Answered p ⟨.ok, []⟩ s t
          ∧ t.store.odo.distance = foldedOdo s ∧ t.store.a.body = foldedBody s s.store.a.body
          ∧ t.store.b.body = foldedBody s s.store.b.body ∧ t.store.p.body = foldedBody s s.store.p.body
          ∧ t.store.charter.body = foldedCharter s ∧ t.fold.buf = ⟨0, 0, 0, 0, 0, 0, 0, false⟩
          ∧ (c = .kr → t.settings.work = { s.settings.work with kr := v.toNat } ∧ t.fold.rd = 0
            ∧ t.fold.rf = (s.fold.buf.ticks * s.settings.work.kf + s.fold.rf) % 1000000)
          ∧ (c = .kf → t.settings.work = { s.settings.work with kf := v.toNat } ∧ t.fold.rf = 0
            ∧ t.fold.rd = (s.fold.buf.pulses * 1000 + s.fold.rd) % s.settings.work.kr)
          ∧ t.settings.check = settingsCheck t.settings.work ∧ t.store.grant = none
          ∧ t.meas = s.meas ∧ t.units = s.units ∧ t.clock = s.clock ∧ t.timers = s.timers))

/-! ### Records -/

/-- R58, R63, R69, R70: CLEAR RECORD: its refusals in their order, and the fold, then the cleared trip. -/
def Obligations.ClearRecordRestartsTheTrip : Prop :=
  ∀ (p : Port) (record : Byte) (s : State), StoreFree p s → RecordsSealed s.store →
    ∃ t, exec (.clearRecord p record) s = .next t
      ∧ (record.toNat = 0 ∨ 3 < record.toNat → Answered p ⟨.badArgument, []⟩ s t ∧ SameFigures s t)
      ∧ (∀ k : TripNo, record.toNat = k.toNat →
        let allowed := p = .service ∨ (p = .rear ↔ k = .p)
        (s.clock.mainFault = true → Answered p ⟨.clockFault, []⟩ s t ∧ SameFigures s t)
        ∧ (s.clock.mainFault = false → ¬ allowed →
            Answered p ⟨.denied, recordPage0 s k.record⟩ s t ∧ SameFigures s t)
        ∧ (s.clock.mainFault = false → allowed →
            Answered p ⟨.ok, recordPage0 t k.record⟩ s t
            ∧ t.store.odo.distance = foldedOdo s
            ∧ (t.store.trip k).body = freshBody s.clock.seconds (foldedOdo s)
            ∧ (∀ o, o ≠ k → (t.store.trip o).body = foldedBody s (s.store.trip o).body)
            ∧ t.store.charter.body = foldedCharter s ∧ t.store.charter.phase = s.store.charter.phase
            ∧ t.fold.buf = ⟨0, 0, 0, 0, 0, 0, 0, false⟩ ∧ t.store.grant = none
            ∧ t.meas = s.meas ∧ t.settings = s.settings ∧ t.units = s.units ∧ t.clock = s.clock ∧ t.timers = s.timers))

/-- R60, R71, R72: CHARTER OPEN and CHARTER CLOSE: their refusals in their order, and what they do after a command fold. -/
def Obligations.CharterOpensAndCloses : Prop :=
  ∀ (p : Port) (s : State), StoreFree p s → RecordsSealed s.store →
    let folded (t : State) := t.store.odo.distance = foldedOdo s ∧ t.store.a.body = foldedBody s s.store.a.body
      ∧ t.store.b.body = foldedBody s s.store.b.body ∧ t.store.p.body = foldedBody s s.store.p.body
      ∧ t.fold.buf = ⟨0, 0, 0, 0, 0, 0, 0, false⟩ ∧ Notified .charter t ∧ t.store.grant = none
      ∧ t.meas = s.meas ∧ t.settings = s.settings ∧ t.units = s.units ∧ t.clock = s.clock ∧ t.timers = s.timers
    let refused (t : State) (r : Reply) := Answered p r s t ∧ SameFigures s t
    (∃ t, exec (.charterOpen p) s = .next t
      ∧ if s.clock.mainFault then refused t ⟨.clockFault, []⟩
        else if p ≠ .front then refused t ⟨.denied, recordPage0 s .charter⟩
        else if s.store.charter.phase ≠ .vacant then refused t ⟨.wrongState, recordPage0 s .charter⟩
        else if s.clock.unset then refused t ⟨.clockUnset, recordPage0 s .charter⟩
        else
          Answered p ⟨.ok, recordPage0 t .charter⟩ s t ∧ folded t
          ∧ t.store.charter.body = freshBody s.clock.seconds (foldedOdo s) ∧ t.store.charter.phase = .running
          ∧ t.store.charter.endStamp = none ∧ t.store.charter.ackFront = false ∧ t.store.charter.ackRear = false)
    ∧ (∃ t, exec (.charterClose p) s = .next t
      ∧ if s.clock.mainFault then refused t ⟨.clockFault, []⟩
        else if p ≠ .front then refused t ⟨.denied, recordPage0 s .charter⟩
        else if s.store.charter.phase ≠ .running then refused t ⟨.wrongState, recordPage0 s .charter⟩
        else
          Answered p ⟨.ok, recordPage0 t .charter⟩ s t ∧ folded t
          ∧ t.store.charter.body = foldedBody s s.store.charter.body ∧ t.store.charter.phase = .closed
          ∧ t.store.charter.endStamp = some s.clock.seconds
          ∧ t.store.charter.ackFront = false ∧ t.store.charter.ackRear = false)

/-- R73, R74: CHARTER ACK and CHARTER RELEASE of a CLOSED charter: their refusals, the ack set, and the way to VACANT. -/
def Obligations.CharterAckAndRelease : Prop :=
  ∀ (p : Port) (s : State), StoreFree p s → RecordsSealed s.store →
    let c := s.store.charter
    let refused (t : State) (r : Reply) := Answered p r s t ∧ SameFigures s t
    let kept (t : State) := Answered p ⟨.ok, recordPage0 t .charter⟩ s t ∧ t.fold = s.fold
      ∧ t.store.odo = s.store.odo ∧ t.store.a = s.store.a ∧ t.store.b = s.store.b ∧ t.store.p = s.store.p
      ∧ t.store.charter.body = c.body ∧ t.store.charter.endStamp = c.endStamp ∧ t.store.grant = none
      ∧ t.meas = s.meas ∧ t.settings = s.settings ∧ t.units = s.units ∧ t.service = s.service ∧ t.clock = s.clock
      ∧ t.timers = s.timers
    let vacated (t : State) := kept t ∧ t.store.charter.phase = .vacant ∧ t.store.charter.ackFront = false
      ∧ t.store.charter.ackRear = false ∧ Notified .charter t
    (∃ t, exec (.charterAck p) s = .next t
      ∧ (let f := c.ackFront || p == .front
        let r := c.ackRear || p == .rear
        if s.clock.mainFault then refused t ⟨.clockFault, []⟩
        else if p = .service then refused t ⟨.denied, recordPage0 s .charter⟩
        else if c.phase ≠ .closed then refused t ⟨.wrongState, recordPage0 s .charter⟩
        else if (f && r) = true ∧ (c.ackFront && c.ackRear) = false then vacated t
        else kept t ∧ t.store.charter.phase = .closed ∧ t.store.charter.ackFront = f ∧ t.store.charter.ackRear = r))
    ∧ (∃ t, exec (.charterRelease p) s = .next t
      ∧ (let open' := (∃ e ∈ s.warn.list, e.w = 23 ∧ (e.detail.getD 0).getLsbD 1 = true)
            ∨ ∃ e, c.endStamp = some e ∧ e + 300 ≤ s.clock.seconds
        (s.clock.mainFault = true → refused t ⟨.clockFault, []⟩)
        ∧ (s.clock.mainFault = false → p = .rear → refused t ⟨.denied, recordPage0 s .charter⟩)
        ∧ (s.clock.mainFault = false → p ≠ .rear → c.phase ≠ .closed →
            refused t ⟨.wrongState, recordPage0 s .charter⟩)
        ∧ (s.clock.mainFault = false → p = .front → c.phase = .closed → ¬ open' →
            refused t ⟨.wrongState, recordPage0 s .charter⟩)
        ∧ (s.clock.mainFault = false → p ≠ .rear → c.phase = .closed → (p = .front → open') → vacated t)))

/-- R79: ODO PRESET: its refusals in their order, and the odometer, the trips and the slot write it leaves. -/
def Obligations.OdoPresetSetsTheOdometer : Prop :=
  ∀ (p : Port) (value : BitVec 24) (s : State), StoreFree p s → RecordsSealed s.store →
    ∃ t, exec (.odoPreset p value) s = .next t
      ∧ (let refused (r : Reply) := Answered p r s t ∧ SameFigures s t
        if 9999999 < value.toNat then refused ⟨.badArgument, []⟩
        else if s.clock.mainFault then refused ⟨.clockFault, []⟩
        else if p ≠ .service ∨ s.store.odo.allowanceOpen = false then refused ⟨.denied, recordPage0 s .odo⟩
        else if 30 ≤ s.meas.speed then refused ⟨.moving, recordPage0 s .odo⟩
        else if s.store.charter.phase ≠ .vacant then refused ⟨.wrongState, recordPage0 s .odo⟩
        else
          Answered p ⟨.ok, recordPage0 t .odo⟩ s t
          ∧ t.store.odo.distance = value.toNat * 100 ∧ t.store.odo.preset = true ∧ t.store.odo.reloaded = false
          ∧ t.store.odo.allowanceOpen = false
          ∧ (∀ k, (t.store.trip k).body = freshBody s.clock.seconds (value.toNat * 100))
          ∧ SlotWriteQueued value.toNat t
          ∧ t.store.charter = s.store.charter ∧ t.fold.buf = ⟨0, 0, 0, 0, 0, 0, 0, false⟩ ∧ t.store.grant = none
          ∧ t.meas = s.meas ∧ t.settings = s.settings ∧ t.units = s.units ∧ t.clock = s.clock ∧ t.timers = s.timers)

/-- R45, R67, R87: READ RECORD and READ DERIVED: what they answer, with distance and fuel forwarded, and that they change no
figure. -/
def Obligations.RecordReadsForward : Prop :=
  ∀ (p : Port) (record page : Byte) (s : State), StoreFree p s → RecordsSealed s.store →
    (∃ t, exec (.readRecord p record page) s = .next t ∧ SameFigures s t ∧ t.store.grant = none
      ∧ (4 < record.toNat ∨ 1 < page.toNat → Answered p ⟨.badArgument, []⟩ s t)
      ∧ (∀ r, record.toNat = recordNumber r → page = 0 → Answered p ⟨.ok, recordPage0 s r⟩ s t)
      ∧ (∀ r, record.toNat = recordNumber r → page = 1 → Answered p ⟨.ok, recordPage1 s r⟩ s t))
    ∧ (∃ t, exec (.readDerived p record) s = .next t ∧ SameFigures s t ∧ t.store.grant = none
      ∧ (4 < record.toNat → Answered p ⟨.badArgument, []⟩ s t)
      ∧ (∀ r, record.toNat = recordNumber r → Answered p ⟨.ok, derivedContent s r (unitOf s p)⟩ s t))
    ∧ reportedDistance s .odo = foldedOdo s
    ∧ (∀ r x, bodyOf s r = some x →
      let forwarded := x.damaged = false ∧ (r = .charter → s.store.charter.phase = .running)
      reportedDistance s r = (if forwarded then (x.distance + trialMetres s) % 1000000000 else x.distance)
      ∧ reportedFuel s r = (if forwarded then min 99999999 (x.fuel + trialMl s) else x.fuel))

/-- R64, R78, R81: the held marks are applied, and a slot write completes and the next pending write goes in flight. -/
def Obligations.MarksApplyAndSlotWritesComplete : Prop :=
  ∀ s : State,
    (alive s = true → marksHeld s = true → s.store.grant = none →
      ∃ t, exec .recordMarkApply s = .next t
        ∧ t.store.held = ⟨false, false⟩ ∧ t.store.odo = s.store.odo
        ∧ (let marked (x : TripBody) : TripBody :=
            if x.damaged then x
            else { x with
              timeDegraded := x.timeDegraded || s.store.held.timeDegraded
              fuelIncomplete := x.fuelIncomplete || s.store.held.fuelIncomplete }
          (∀ k, (t.store.trip k).body = marked (s.store.trip k).body)
          ∧ t.store.charter.body =
            (if s.store.charter.phase = .running then marked s.store.charter.body else s.store.charter.body))
        ∧ t.store.charter.phase = s.store.charter.phase ∧ t.store.logPos = s.store.logPos
        ∧ t.meas = s.meas ∧ t.fold = s.fold ∧ t.settings = s.settings ∧ t.units = s.units ∧ t.service = s.service
        ∧ t.clock = s.clock ∧ t.timers = s.timers)
    ∧ (∀ snap no seq left, clocked s = true → ParkNotDue s → s.nv.flight = some (.slot snap no seq left) →
      ∃ t, exec .slotWriteComplete s = .next t
        ∧ t.nv.slots = s.nv.slots.setIfInBounds no ⟨snap, seq, slotCheck no snap seq⟩
        ∧ t.store.logPos = some ⟨no, seq⟩ ∧ t.nv.block = s.nv.block ∧ t.nv.pendingSlot = none
        ∧ (∀ n, s.nv.pendingSlot = some n →
            t.nv.flight = some (.slot n ((no + 1) % 32) ((seq + 1) % 65536) 10000)
            ∧ t.nv.pendingCommit = s.nv.pendingCommit)
        ∧ (s.nv.pendingSlot = none → s.nv.pendingCommit = true →
            t.nv.flight = some (.commit s.settings.work 260000) ∧ t.nv.pendingCommit = false)
        ∧ (s.nv.pendingSlot = none → s.nv.pendingCommit = false → t.nv.flight = none ∧ t.nv.pendingCommit = false)
        ∧ t.store.odo = s.store.odo ∧ t.store.a = s.store.a ∧ t.store.b = s.store.b ∧ t.store.p = s.store.p
        ∧ t.store.charter = s.store.charter ∧ t.meas = s.meas ∧ t.fold = s.fold ∧ t.settings = s.settings
        ∧ t.units = s.units ∧ t.service = s.service ∧ t.clock = s.clock ∧ t.timers = s.timers)

/-- R41, R46, R62, R63, R64, R74: every request that needs the grant waits while the store is not free for it; the arbiter grants the first
waiting port of the port order, which moves to the back; a change whose grant came in a main-clock fault is refused; and a
command that waited makes its fold of the pulses, ticks and counts that its grant found, and leaves to the next fold what came
since (R46). A CHARTER RELEASE of the front that waited is judged by the silent rear link and the time that its grant found (R74).
That a grant remembers the fault, the link, the time and the fold buffer it found, and what was counted since, is log 8 (DEDUCED). -/
def Obligations.StoreRequestsWaitTheirTurn : Prop :=
  ∀ (p : Port) (s : State), alive s = true →
    (∀ r : Request, changesStore p r = true ∨ readsStore r = true →
      waitingRequest s p = none → (changesStore p r = true → s.clock.mainFault = false) →
      (∀ g, s.store.grant = some g → g.holder ≠ p) →
      s.store.grant.isSome = true ∨ s.fold.waiting = true ∨ marksHeld s = true →
      ∃ t, exec (r.command p) s = .next t ∧ waitingRequest t p = some r ∧ SameFigures s t)
    ∧ (∀ r g, changesStore p r = true → waitingRequest s p = some r → s.store.grant = some g → g.holder = p →
      g.faultSeen = true →
      ∃ t, exec (r.command p) s = .next t ∧ Answered p ⟨.clockFault, []⟩ s t ∧ waitingRequest t p = none
        ∧ SameFigures s t)
    ∧ (∀ l₁ l₂, s.store.order = l₁ ++ p :: l₂ → p ∉ l₁ → p ∉ l₂ → s.store.grant = none → s.fold.waiting = false →
      marksHeld s = false → (∀ q ∈ l₁, waitingRequest s q = none) → waitingRequest s p ≠ none →
      arbitrate s = { s with store := { s.store with
        grant := some
          { holder := p, faultSeen := s.clock.mainFault
            rearSilent := s.warn.list.any fun e => e.w == 23 && (e.detail.getD 0).getLsbD 1
            now := s.clock.seconds, found := s.fold.buf, since := ⟨0, 0, 0, 0, 0, false⟩ }
        order := l₁ ++ l₂ ++ [p] } })
    ∧ (∀ g, waitingRequest s p = some (.clearRecord 1) → p ≠ .rear → s.store.grant = some g → g.holder = p →
      g.faultSeen = false → RecordsSealed s.store →
      ∃ t, exec (.clearRecord p 1) s = .next t ∧ t.fold.waiting = s.fold.waiting ∧ t.fold.merges = s.fold.merges
        ∧ t.fold.buf = ⟨s.fold.buf.pulses - g.found.pulses, s.fold.buf.ticks - g.found.ticks, g.since.elapsed, g.since.run, g.since.moving, g.since.engine, g.since.idle, g.since.cold⟩
        ∧ (let found : State := { s with fold := { s.fold with buf := g.found } }
          t.store.odo.distance = foldedOdo found ∧ t.store.b.body = foldedBody found s.store.b.body
          ∧ t.store.p.body = foldedBody found s.store.p.body
          ∧ t.store.a.body = freshBody s.clock.seconds (foldedOdo found))
        ∧ waitingRequest t p = none)
    ∧ (∀ g, waitingRequest s .front = some .charterRelease → s.store.grant = some g → g.holder = .front →
      g.faultSeen = false → RecordsSealed s.store → s.store.charter.phase = .closed →
      let open' := g.rearSilent = true ∨ ∃ e, s.store.charter.endStamp = some e ∧ e + 300 ≤ g.now
      ∃ t, exec (.charterRelease .front) s = .next t ∧ waitingRequest t .front = none
        ∧ (open' → Answered .front ⟨.ok, recordPage0 t .charter⟩ s t ∧ t.store.charter.phase = .vacant
          ∧ t.store.charter.body = s.store.charter.body ∧ t.store.charter.endStamp = s.store.charter.endStamp
          ∧ Notified .charter t)
        ∧ (¬ open' → Answered .front ⟨.wrongState, recordPage0 s .charter⟩ s t ∧ SameFigures s t))

/-- R61, R76, R78: a trip or a charter whose check word fails, when it is read, when a fold touches it, and at RESTART: DAMAGED, its
other fields as found, a RUNNING charter CLOSED, the check word recomputed, and W16 with the record in its detail; one that is
DAMAGED already is left as it is, raises nothing when it is read, and is handed again at RESTART (log 16, DESIGN CHOICE). The
stored forms that the check words sum are log 11 (DESIGN CHOICE). -/
def Obligations.BrokenRecordsAreDamaged : Prop :=
  ∀ (p : Port) (page : Byte) (i : StartInputs) (s : State), DetailsPresent s.warn.list →
    let raised (k : Nat) (t : State) :=
      ∃ e ∈ t.warn.list, e.w = 16 ∧ e.cleared = false ∧ ∃ d, e.detail = some d ∧ d.getLsbD k = true
    let tripBroken (k : TripNo) := (s.store.trip k).body.damaged = false
      ∧ (s.store.trip k).check ≠ tripCheck k.toNat (s.store.trip k).body
    let tripFound (k : TripNo) (t : State) :=
      (t.store.trip k).body = { (s.store.trip k).body with damaged := true }
      ∧ (t.store.trip k).check = tripCheck k.toNat (t.store.trip k).body ∧ raised k.toNat t
    let c := s.store.charter
    let charterBroken := c.body.damaged = false ∧ c.check ≠ charterCheck c
    let charterFound (t : State) :=
      t.store.charter.body = { c.body with damaged := true } ∧ t.store.charter.check = charterCheck t.store.charter
      ∧ (c.phase = .running → t.store.charter.phase = .closed ∧ t.store.charter.endStamp = some s.clock.seconds
          ∧ t.store.charter.ackFront = false ∧ t.store.charter.ackRear = false ∧ Notified .charter t)
      ∧ (c.phase ≠ .running → t.store.charter.phase = c.phase ∧ t.store.charter.endStamp = c.endStamp
          ∧ t.store.charter.ackFront = c.ackFront ∧ t.store.charter.ackRear = c.ackRear)
      ∧ raised 4 t
    (StoreFree p s → page.toNat ≤ 1 →
      (let rest (t : State) := t.store.odo = s.store.odo ∧ t.fold = s.fold ∧ t.meas = s.meas ∧ t.settings = s.settings
          ∧ t.units = s.units ∧ t.service = s.service ∧ t.clock = s.clock ∧ t.timers = s.timers
      (∀ k, tripBroken k ∨ (s.store.trip k).body.damaged = true →
        ∃ t, exec (.readRecord p (BitVec.ofNat 8 k.toNat) page) s = .next t
          ∧ (tripBroken k → tripFound k t)
          ∧ ((s.store.trip k).body.damaged = true →
              t.store.trip k = s.store.trip k ∧ view .service t.warn.list = view .service s.warn.list)
          ∧ Answered p ⟨.ok, if page = 0 then recordPage0 t k.record else recordPage1 t k.record⟩ s t
          ∧ (∀ o, o ≠ k → t.store.trip o = s.store.trip o) ∧ t.store.charter = c ∧ rest t)
      ∧ (charterBroken ∨ c.body.damaged = true → ∃ t, exec (.readRecord p 4 page) s = .next t
        ∧ (charterBroken → charterFound t)
        ∧ (c.body.damaged = true → t.store.charter = c ∧ view .service t.warn.list = view .service s.warn.list)
        ∧ Answered p ⟨.ok, if page = 0 then recordPage0 t .charter else recordPage1 t .charter⟩ s t
        ∧ (∀ k, t.store.trip k = s.store.trip k) ∧ rest t)))
    ∧ (foldGranted s = true → s.store.odo.check = odoCheck s.store.odo → ∃ t, exec .fold s = .next t
      ∧ t.store.odo.distance = foldedOdo s ∧ (∀ k, tripBroken k → tripFound k t)
      ∧ (charterBroken → c.phase = .running → charterFound t)
      ∧ (∀ k, (s.store.trip k).body.damaged = true → t.store.trip k = s.store.trip k)
      ∧ (c.body.damaged = true → t.store.charter = c))
    ∧ (s.store.odo.check = odoCheck s.store.odo → ∃ t, exec (.restart i) s = .next t
      ∧ (∀ k, tripBroken k → tripFound k t) ∧ (charterBroken → charterFound t)
      ∧ (∀ k, (s.store.trip k).body.damaged = true → t.store.trip k = s.store.trip k ∧ raised k.toNat t)
      ∧ (c.body.damaged = true → t.store.charter = c ∧ raised 4 t))

/-! ### Trip computer and reads -/

/-- R84: SET UNITS: its refusals in their order, and the asker's choice with the unit check word. -/
def Obligations.SetUnitsStoresTheChoice : Prop :=
  ∀ (p : Port) (choice : Byte) (s : State), PortFree p s →
    (2 < choice.toNat → exec (.setUnits p choice) s = .next (deliver p ⟨.badArgument, []⟩ s))
    ∧ (choice.toNat ≤ 2 → p = .service → exec (.setUnits p choice) s = .next (deliver p ⟨.denied, []⟩ s))
    ∧ (choice.toNat ≤ 2 → p ≠ .service → s.clock.mainFault = true →
        exec (.setUnits p choice) s = .next (deliver p ⟨.clockFault, []⟩ s))
    ∧ (choice.toNat ≤ 2 → p ≠ .service → s.clock.mainFault = false →
      (unitOf s p = choice.toNat → exec (.setUnits p choice) s = .next (deliver p ⟨.ok, [choice]⟩ s))
      ∧ (unitOf s p ≠ choice.toNat → ∃ t, exec (.setUnits p choice) s = .next t
        ∧ t = deliver p ⟨.ok, [choice]⟩ { s with units := t.units }
        ∧ unitOf t p = choice.toNat
        ∧ (p = .front → t.units.front = choice.toNat ∧ t.units.rear = s.units.rear)
        ∧ (p = .rear → t.units.rear = choice.toNat ∧ t.units.front = s.units.front)
        ∧ t.units.check = (t.units.front + t.units.rear + 5) % 65536
        ∧ exec (.readLive p) t = .next (deliver p ⟨.ok, liveContent t choice.toNat⟩ t)))

/-- R88, R94: the distance figure of a record and the speed figures of READ LIVE. -/
def Obligations.DistanceAndSpeedFigures : Prop :=
  ∀ (s : State) (r : RecordNo) (unit : Nat), unit ≤ 2 →
    (let d := reportedDistance s r;
      (derived s r unit).distance = ⟨if unit = 0 then d / 100 else d * 10000 / 1609344, .valid⟩
      ∧ (CountersInRange s → d ≤ 999999999))
    ∧ distanceFigure 0 999999999 = 9999999 ∧ distanceFigure 1 999999999 = 6213711 ∧ distanceFigure 2 999999999 = 6213711
    ∧ (let v := s.meas.speed;
      let figure := if unit = 0 then v else (2 * (v * 15625) + 25146) / (2 * 25146);
      ((liveContent s unit).drop 3).take 2 = enc 2 figure
      ∧ (v ≤ 2550 → unit ≠ 0 → figure ≤ 1585)
      ∧ ((liveContent s unit).drop 5).take 2 = enc 2 s.meas.rpm
      ∧ ((liveContent s unit).getD 1 0).getLsbD 0 = decide (30 ≤ v)
      ∧ ((liveContent s unit).getD 2 0) &&& 3 = 0)

/-- R68, R87, R89 to R92, R95 to R99: the other figures of the trip computer: of READ DERIVED the fuel, the averages and the times
of a record, each NONE for ODO; of READ LIVE the instant figure with its kind, the range, the fuel remaining and the temperatures,
where the reply carries them. -/
def Obligations.TripComputerFigures : Prop :=
  ∀ (s : State) (unit : Nat), unit ≤ 2 →
    let half (n d : Nat) : Nat := (2 * n + d) / (2 * d)
    let gone : Figure := ⟨0, .none⟩
    let plain (approx : Bool) (n : Nat) : Figure := ⟨n, if approx then .approx else .valid⟩
    let held (ceiling : Nat) (approx : Bool) (n : Nat) : Figure :=
      if ceiling < n then ⟨ceiling, .saturated⟩ else plain approx n
    let volume (ml : Nat) : Nat :=
      if unit = 0 then ml / 100 else if unit = 1 then ml * 264172 / 100000000 else ml * 219969 / 100000000
    let economy (d f : Nat) : Nat :=
      if unit = 0 then half (1000 * f) d
      else if unit = 1 then half (d * 235215) (f * 10000) else half (d * 282481) (f * 10000)
    (∀ r x, bodyOf s r = some x →
      let d := reportedDistance s r
      let f := reportedFuel s r
      let g := derived s r unit
      let stopped := r = .charter ∧ s.store.charter.phase ≠ .running
      let noTimes := r = .charter ∧ s.store.charter.phase = .vacant ∧ s.store.charter.endStamp = none
      let seconds (now : Nat) : Nat := (((now : Int) - x.start) % 4294967296).toNat
      g.fuel = (if f = 99999999 then ⟨volume f, .saturated⟩ else plain x.fuelIncomplete (volume f))
      ∧ g.speed = (if x.runQs < 240 ∨ d < 100 then gone
          else held 2999 x.fuelIncomplete
            (if unit = 0 then half (144 * d) x.runQs else half (1125000 * d) (12573 * x.runQs)))
      ∧ g.economy = (if d < 1000 ∨ f < 100 then gone
          else if f = 99999999 then ⟨min 999 (economy d f), .saturated⟩ else held 999 x.fuelIncomplete (economy d f))
      ∧ (noTimes → g.elapsed = gone ∧ g.waiting = gone)
      ∧ (∀ now, (¬ stopped ∧ now = s.clock.seconds) ∨ (stopped ∧ s.store.charter.endStamp = some now) →
          g.elapsed = plain x.timeDegraded (seconds now)
          ∧ g.waiting = plain (x.timeDegraded || x.fuelIncomplete) (seconds now - x.movingQs / 4)))
    ∧ (let g := derived s .odo unit
      g.fuel = gone ∧ g.speed = gone ∧ g.economy = gone ∧ g.elapsed = gone ∧ g.waiting = gone)
    ∧ (let dw := (s.fold.window.map WindowEntry.metres).sum
      let fw := (s.fold.window.map WindowEntry.ml).sum
      let w := (s.fold.window.map WindowEntry.qs).sum
      let byRoad : Bool := decide (20 ≤ dw) && decide (30 ≤ s.meas.speed)
      let instant : Figure :=
        if byRoad then (if fw = 0 ∧ unit ≠ 0 then ⟨999, .saturated⟩ else held 999 false (economy dw fw))
        else if w = 0 then gone
        else held 999 false
          (if unit = 0 then half (144 * fw) w
           else if unit = 1 then half (144 * fw * 264172) (w * 1000000) else half (144 * fw * 219969) (w * 1000000))
      let dr := (s.fold.closed.map Segment.metres).sum + s.fold.seg.metres
      let fr := (s.fold.closed.map Segment.ml).sum + s.fold.seg.ml
      let ring : Bool := decide (5000 ≤ dr) && decide (100 ≤ fr)
      let q := s.fold.tank.q
      let metres := if ring then q * dr / fr else 1000 * q / s.settings.work.economy
      let broken : Bool := decide (s.meas.channels[0].state = .fault ∨ s.meas.channels[1].state = .fault)
      let range : Figure :=
        if s.fold.tank.settled = false then gone
        else held 1999 (!ring || broken) (if unit = 0 then metres / 1000 else metres * 1000 / 1609344)
      let fuel : Figure := if s.fold.tank.settled = false then gone else plain broken (volume q)
      let degrees (c : Int) : Int := if unit = 1 then (18 * c + 5) / 10 + 32 else c
      let reply := liveContent s unit
      (reply.getD 1 0).getLsbD 2 = !byRoad
      ∧ reply.getD 2 0 = BitVec.ofNat 8 (4 * instant.mark.toNat + 16 * range.mark.toNat + 64 * fuel.mark.toNat)
      ∧ (reply.drop 7).take 2 = enc 2 instant.number ∧ (reply.drop 9).take 2 = enc 2 range.number
      ∧ (reply.drop 11).take 2 = enc 2 fuel.number
      ∧ (reply.drop 13).take 2 = encInt 2 (degrees s.meas.channels[5].value)
      ∧ (reply.drop 15).take 2 = encInt 2 (degrees s.meas.channels[2].value))

/-- R20, R32, R57, R93, R149, R154, R173, R180, R183: the reads that change nothing answer at once, from the state, and READ
FOLD clears the asker's refuel mark on page 0 only. The layouts of READ STATUS, INPUTS, GAUGES, CHIMES, SERVICE and FOLD are
the model's (log 13, log 34, log 39, DESIGN CHOICE), and the position of a queue entry that has gone is free (log 14). -/
def Obligations.ReadsAnswerAtOnce : Prop :=
  ∀ (p : Port) (a b : Byte) (s : State), PortFree p s →
    exec (.readStatus p) s = .next (deliver p ⟨.ok, statusContent s⟩ s)
    ∧ exec (.readClock p) s = .next (deliver p ⟨.ok, clockContent s⟩ s)
    ∧ exec (.readLive p) s = .next (deliver p ⟨.ok, liveContent s (unitOf s p)⟩ s)
    ∧ exec (.readInputs p a) s = .next (deliver p (pagedReply [] a (inputFields s)) s)
    ∧ exec (.readGauges p a) s = .next (deliver p (pagedReply [] a (gaugeFields s)) s)
    ∧ exec (.readChimes p a) s = .next (deliver p (pagedReply [] a (chimeFields s p)) s)
    ∧ (∀ k : Fin 8, a.toNat = k.val →
        exec (.readService p a b) s = .next (deliver p (pagedReply (enc 1 k.val) b (serviceFields s p k)) s))
    ∧ (7 < a.toNat → exec (.readService p a b) s = .next (deliver p ⟨.badArgument, []⟩ s))
    ∧ (a.toNat ≤ 45 → b.toNat < settingPages a.toNat →
        exec (.readSetting p a b) s = .next (deliver p ⟨.ok, settingContent s.settings.work a.toNat b.toNat⟩ s))
    ∧ (45 < a.toNat ∨ settingPages a.toNat ≤ b.toNat →
        exec (.readSetting p a b) s = .next (deliver p ⟨.badArgument, []⟩ s))
    ∧ (a ≠ 0 ∨ refuelMark s p = false →
        exec (.readFold p a) s = .next (deliver p (pagedReply [] a (foldFields s p)) s))
    ∧ (a = 0 → refuelMark s p = true → ∃ t, exec (.readFold p a) s = .next t
        ∧ t = deliver p (pagedReply [] a (foldFields s p)) { s with fold := t.fold }
        ∧ t.fold = { s.fold with tank := t.fold.tank, check := foldCheck t.fold } ∧ t.fold.tank.q = s.fold.tank.q
        ∧ t.fold.tank.settled = s.fold.tank.settled ∧ refuelMark t p = false
        ∧ ∀ o, o ≠ p → refuelMark t o = refuelMark s o)

/-- R113, R114, R167, R173, R175, R186: READ WARNINGS with as many whole entries as fit, four at most, READ NOTICES and READ WAKE
CAUSES (whose layout after the set is log 13, DESIGN CHOICE); and that each page of a paged reply is a run of whole fields, in
order, as many as fit. -/
def Obligations.ReadsThatEmptyAndPages : Prop :=
  (∀ (p : Port) (start : Byte) (s : State), PortFree p s →
    (23 < start.toNat → exec (.readWarnings p start) s = .next (deliver p ⟨.badArgument, []⟩ s))
    ∧ (start.toNat ≤ 23 →
      (let v := if p = .rear then s.warn.list.filter (fun e => (warnDef e.w).shownRear) else s.warn.list
      let given (n : Nat) := (((v.drop start.toNat).take n).map (entryField p)).flatten
      let fits (n : Nat) := n ≤ 4 ∧ n ≤ (v.drop start.toNat).length ∧ (given n).length ≤ 26
      ∃ n, fits n ∧ (∀ m, fits m → m ≤ n)
        ∧ exec (.readWarnings p start) s = .next (deliver p ⟨.ok, enc 2 (viewSeq s p) ++ enc 1 v.length ++ given n⟩ s)))
    ∧ (p = .service → exec (.readNotices p) s = .next (deliver p ⟨.denied, []⟩ s))
    ∧ (p = .front → exec (.readNotices p) s = .next (deliver p ⟨.ok, [s.port.front.notices]⟩
        { s with port := { s.port with front := { s.port.front with notices := 0 } } }))
    ∧ (p = .rear → exec (.readNotices p) s = .next (deliver p ⟨.ok, [s.port.rear.notices]⟩
        { s with port := { s.port with rear := { s.port.rear with notices := 0 } } }))
    ∧ (let set := match p with
        | .front => s.power.causeFront | .rear => s.power.causeRear | .service => s.power.lastWake
      let state : Byte := match s.power.state with | .run => 0 | .acc => 1 | .awake => 2 | .parked => 3
      let park : List Byte := match s.power.park with | none => [0, 0] | some .delay => [1, 0] | some .limit => [1, 1]
      let left (t : Option Nat) : List Byte := match t with | none => [0, 0] | some n => enc 2 (n / 32768)
      let reasons : Byte := (if chimeBusy s then 1 else 0) + (if nvBusy s then 2 else 0) + (if keyOrLights s then 4 else 0)
      exec (.readWakeCauses p) s = .next (deliver p
        ⟨.ok, enc 2 set.toNat ++ [state] ++ park ++ left s.power.delay ++ left s.power.limit ++ [reasons]⟩
        { s with power := { s.power with
          causeFront := if p = .front then 0 else s.power.causeFront
          causeRear := if p = .rear then 0 else s.power.causeRear } })))
  ∧ (∀ (budget : Nat) (fields : List (List Byte)), (∀ f ∈ fields, f.length ≤ budget) →
    ∃ runs : List (List (List Byte)), runs.flatten = fields ∧ paginate budget fields [] = runs.map List.flatten
      ∧ (∀ r ∈ runs, r.flatten.length ≤ budget) ∧ (fields ≠ [] → ∀ r ∈ runs, r ≠ [])
      ∧ ∀ before r f fs after, runs = before ++ r :: (f :: fs) :: after → budget < r.flatten.length + f.length)
  ∧ (∀ (head : List Byte) (page : Byte) (fields : List (List Byte)),
    let pages := paginate (27 - head.length) fields []
    pagedReply head page fields =
      if h : page.toNat < pages.length then ⟨.ok, head ++ [page] ++ enc 1 pages.length ++ pages[page.toNat]⟩
      else ⟨.badArgument, []⟩)

/-! ### Warnings -/

/-- R101, R103, R107, R108: a warning expiry: the run counters, the qualify and release counts of each sampled definition, and
which definitions then stand ACTIVE. -/
def Obligations.WarningExpirySamples : Prop :=
  ∀ s : State, clocked s = true → ListOrdered s.warn.list →
    ∃ t, exec .warningExpiry s = .next t
      ∧ t.warn.engineRun = (if s.meas.running then min 20 (s.warn.engineRun + 1) else 0)
      ∧ t.warn.runCount = (if s.power.state = .run then min 32 (s.warn.runCount + 1) else 0)
      ∧ (∀ w : Fin 24, sample (stepCounters s) w = none →
        t.warn.qualify[w] = s.warn.qualify[w] ∧ t.warn.release[w] = s.warn.release[w]
        ∧ (ActiveEntry w t ↔ ActiveEntry w s))
      ∧ (∀ (w : Fin 24) (x : Sample), sample (stepCounters s) w = some x →
        if x.gate = false then t.warn.qualify[w] = 0 ∧ t.warn.release[w] = 0 ∧ ¬ ActiveEntry w t
        else if x.holds = true then
          t.warn.qualify[w] = min x.qualify (s.warn.qualify[w] + 1) ∧ t.warn.release[w] = 0
          ∧ (ActiveEntry w t ↔ ActiveEntry w s ∨ x.qualify ≤ s.warn.qualify[w] + 1)
        else if x.releases = true then
          t.warn.qualify[w] = 0 ∧ t.warn.release[w] = min x.release (s.warn.release[w] + 1)
          ∧ (ActiveEntry w t ↔ ActiveEntry w s ∧ s.warn.release[w] + 1 < x.release)
        else t.warn.qualify[w] = 0 ∧ t.warn.release[w] = 0 ∧ (ActiveEntry w t ↔ ActiveEntry w s))
      ∧ t.timers = { s.timers with warning := 250000 } ∧ t.meas = s.meas ∧ t.fold = s.fold ∧ SameRecords s t
      ∧ t.settings = s.settings ∧ t.units = s.units ∧ t.service = s.service ∧ t.clock = s.clock
      ∧ t.warn.limit = s.warn.limit

/-- R109, R110: ACK WARNING: its refusals in their order, the ack it sets, and the entries it removes. -/
def Obligations.AckWarningSetsTheAck : Prop :=
  ∀ (p : Port) (id : Byte) (s : State), PortFree p s → ListOrdered s.warn.list →
    ∃ t, exec (.ackWarning p id) s = .next t ∧ SameFigures s t
      ∧ (let same := view .service t.warn.list = view .service s.warn.list
        (23 < id.toNat → Answered p ⟨.badArgument, []⟩ s t ∧ same)
        ∧ (∀ w : Fin 24, id.toNat = w.val → p = .service →
            same ∧ ∃ content, Answered p ⟨.denied, content⟩ s t)
        ∧ (∀ w : Fin 24, id.toNat = w.val → p ≠ .service → s.clock.mainFault = true →
            same ∧ Answered p ⟨.clockFault, []⟩ s t)
        ∧ (∀ w : Fin 24, id.toNat = w.val → p ≠ .service → s.clock.mainFault = false →
          (findEntry w s.warn.list = none → same ∧ Answered p ⟨.notActive, []⟩ s t)
          ∧ (∀ e, findEntry w s.warn.list = some e →
            let rule : AckRule := (warnDef w).ack
            let may := (p = .front ∧ (rule = .front ∨ rule = .either)) ∨ (p = .rear ∧ (rule = .rear ∨ rule = .either))
            let acked : Entry := if p = .front then { e with ackFront := true } else { e with ackRear := true }
            (¬ may → same ∧ ∃ content, Answered p ⟨.denied, content⟩ s t)
            ∧ (may → (if p = .front then e.ackFront else e.ackRear) = true →
                same ∧ Answered p ⟨.ok, 0 :: entryField p e⟩ s t)
            ∧ (may → (if p = .front then e.ackFront else e.ackRear) = false → (e.cleared = true ∨ w = 19 ∨ w = 20) →
                view .service t.warn.list = (view .service s.warn.list).filter (fun x => x.w != w)
                ∧ Answered p ⟨.ok, 1 :: entryField p acked⟩ s t)
            ∧ (may → (if p = .front then e.ackFront else e.ackRear) = false → ¬ (e.cleared = true ∨ w = 19 ∨ w = 20) →
                view .service t.warn.list = (view .service s.warn.list).map (fun x =>
                  if x.w = w then
                    (if p = .front then { x with ackFront := true } else { x with ackRear := true })
                  else x)
                ∧ Answered p ⟨.ok, 0 :: entryField p acked⟩ s t))))

/-- R112, R117: REAR CALL raises W19, and SET OVERSPEED stores the clamped limit with its check word. -/
def Obligations.RearCallAndOverspeed : Prop :=
  ∀ (p : Port) (limit : BitVec 16) (s : State), PortFree p s →
    (∃ t, exec (.rearCall p) s = .next t ∧ SameFigures s t ∧ t.warn.limit = s.warn.limit
      ∧ (p ≠ .rear → Answered p ⟨.denied, []⟩ s t ∧ view .service t.warn.list = view .service s.warn.list)
      ∧ (p = .rear → s.clock.mainFault = true →
          Answered p ⟨.clockFault, []⟩ s t ∧ view .service t.warn.list = view .service s.warn.list)
      ∧ (p = .rear → s.clock.mainFault = false →
        ∃ e, findEntry 19 t.warn.list = some e ∧ e.cleared = false ∧ Answered p ⟨.ok, 0 :: entryField p e⟩ s t
          ∧ ((∀ o, findEntry 19 s.warn.list = some o → o.cleared = true) →
              e.stamp = s.clock.seconds ∧ e.ackFront = false ∧ e.ackRear = false)
          ∧ (∀ o, findEntry 19 s.warn.list = some o → o.cleared = false → e.stamp = o.stamp ∧ e.ackFront = o.ackFront)))
    ∧ (∃ t, exec (.setOverspeed p limit) s = .next t ∧ SameFigures s t
      ∧ view .service t.warn.list = view .service s.warn.list
      ∧ (p ≠ .front → Answered p ⟨.denied, []⟩ s t ∧ t.warn.limit = s.warn.limit)
      ∧ (p = .front → s.clock.mainFault = true → Answered p ⟨.clockFault, []⟩ s t ∧ t.warn.limit = s.warn.limit)
      ∧ (p = .front → s.clock.mainFault = false →
          t.warn.limit = min 2550 limit.toNat ∧ t.warn.limitCheck = limitCheck (min 2550 limit.toNat)
          ∧ Answered p ⟨.ok, enc 2 (min 2550 limit.toNat)⟩ s t))

/-- R36, R118, R126, R132: WARNING TEST: its refusals in their order, the 3 s lamp test, and the pattern queued at class 3 for
the service line on each speaker that takes it. -/
def Obligations.WarningTestSoundsTheDefinition : Prop :=
  ∀ (p : Port) (id : Byte) (s : State), PortFree p s →
    ∃ t, exec (.warningTest p id) s = .next t ∧ SameFigures s t
      ∧ view .service t.warn.list = view .service s.warn.list
      ∧ (let kept (st : Status) := Answered p ⟨st, []⟩ s t ∧ t.gauge.lampTests = s.gauge.lampTests
            ∧ queueKeys t .front = queueKeys s .front ∧ queueKeys t .rear = queueKeys s .rear
        (23 < id.toNat → kept .badArgument)
        ∧ (id.toNat ≤ 23 → p ≠ .service → kept .denied)
        ∧ (id.toNat ≤ 23 → p = .service → s.clock.mainFault = true → kept .clockFault)
        ∧ (∀ w : Fin 24, id.toNat = w.val → p = .service → s.clock.mainFault = false →
          let d := warnDef w
          let rearTakes := d.onRear = true ∧ s.chime.quiet = .off
          let lit := t.gauge.lampTests =
            (match d.lamp with | none => s.gauge.lampTests | some l => s.gauge.lampTests.set l (some 3000000))
          (d.pattern = none → Answered p ⟨.ok, []⟩ s t ∧ lit ∧ queueKeys t .front = queueKeys s .front
            ∧ queueKeys t .rear = queueKeys s .rear)
          ∧ (∀ n, d.pattern = some n →
            let added (sp : Speaker) := queueKeys t sp =
              (queueKeys s sp).takeWhile (fun x => decide (3 ≤ x.2.1)) ++ [(n, 3, .service)]
                ++ (queueKeys s sp).dropWhile (fun x => decide (3 ≤ x.2.1))
            let full := (d.onFront = true ∧ 4 ≤ s.chime.front.queue.length) ∨ (rearTakes ∧ 4 ≤ s.chime.rear.queue.length)
            (full → kept .full)
            ∧ (¬ full → Answered p ⟨.ok, []⟩ s t ∧ lit
              ∧ (d.onFront = true → added .front) ∧ (d.onFront = false → queueKeys t .front = queueKeys s .front)
              ∧ (rearTakes → added .rear) ∧ (¬ rearTakes → queueKeys t .rear = queueKeys s .rear)))))

/-- R107: what a raise makes of the list in its three cases. -/
def Obligations.RaiseRule : Prop :=
  ∀ (w : Fin 24) (add : Bool) (d : BitVec 8) (s : State), ListOrdered s.warn.list →
    let l := s.warn.list
    let t := raise w add d s
    let mark (sp : Speaker) : Option ChimeMark :=
      if (warnDef w).pattern ≠ none ∧ (warnDef w).names sp = true then some ⟨.pending, none⟩ else none
    let e : Entry := ⟨w, false, false, false, mark .front, mark .rear, s.clock.seconds,
      if (warnDef w).hasDetail then some d else none⟩
    let placed (rest : List Entry) := ∃ l₁ l₂, rest = l₁ ++ l₂ ∧ t.warn.list = l₁ ++ e :: l₂
      ∧ (∀ x ∈ l₁, (warnDef w).cls ≤ (warnDef x.w).cls) ∧ (∀ x ∈ l₂, (warnDef x.w).cls < (warnDef w).cls)
    ((∀ x ∈ l, x.w ≠ w) → placed l)
    ∧ (∀ x ∈ l, x.w = w → x.cleared = true → placed (l.filter fun y => y.w != w))
    ∧ (∀ x ∈ l, x.w = w → x.cleared = false → t.warn.list = l.map fun y =>
        if y.w = w then { y with detail := y.detail.map fun o => if add then o ||| d else d } else y)

/-- R100, R108, R109, R113, R115: what a release makes of the list: a CLEARED entry with its place, acks, stamp and detail when its
definition is latched and it is not fully acknowledged, and no entry otherwise; and every command but the starts, and a link's
transaction end, whose hand-offs come before its request, counts the change of each view once and sets WARNINGS for a console
whose view changed; so does whatever an event leaves settled (that an event which changes a view in several ways is one change
is log 10, DEDUCED). -/
def Obligations.ReleasesAndViewSequences : Prop :=
  (∀ (w : Fin 24) (s : State), ListOrdered s.warn.list →
    let l := s.warn.list
    let t := release w s
    let acked (e : Entry) : Bool :=
      match (warnDef w).ack with
      | .front => e.ackFront
      | .rear => e.ackRear
      | .either => e.ackFront || e.ackRear
      | .none => false
    let rested (m : ChimeMark) : ChimeMark := if m.state = .resting then ⟨.done, none⟩ else m
    ((∀ x ∈ l, x.w ≠ w) → t = s)
    ∧ (∀ x ∈ l, x.w = w → x.cleared = true → t = s)
    ∧ (∀ x ∈ l, x.w = w → x.cleared = false → ((warnDef w).latched = false ∨ acked x = true) →
        t = { s with warn := { s.warn with list := l.filter fun y => y.w != w } })
    ∧ (∀ x ∈ l, x.w = w → x.cleared = false → (warnDef w).latched = true → acked x = false →
        t = { s with warn := { s.warn with list := l.map fun y =>
          if y.w = w then
            { y with cleared := true, chimeFront := y.chimeFront.map rested, chimeRear := y.chimeRear.map rested }
          else y } })
    ∧ ((warnDef w).latched = true ↔ w = 16 ∨ w = 18 ∨ w = 19 ∨ w = 20))
  ∧ (∀ a b : State, ViewsCounted a b (settle a b))
  ∧ (∀ (c : Instr) (s t : State), (∀ i, c ≠ .coldStart i) → (∀ i, c ≠ .restart i) → (∀ i, c ≠ .wakeSequence i) →
    (∀ l bytes, c ≠ .linkTransactionEnd l bytes) → exec c s = .next t → ViewsCounted s s t)

/-! ### Chimes -/

/-- R123, R125, R129 to R132: a note boundary: the next step, the pass end of a warning and of a queue entry, pre-emption by either,
and the end of a play that is no longer wanted, where QUIETING becomes ON; and a repeat timer expiry. -/
def Obligations.ChimeStepsAndRepeats : Prop :=
  (∀ (sp : Speaker) (q : Play) (s : State), clocked s = true → (s.chime.speaker sp).play = some q →
    ListOrdered s.warn.list →
    ∃ t, exec (.noteBoundary sp) s = .next t ∧ SameFigures s t
      ∧ view .service t.warn.list = view .service s.warn.list
      ∧ (let more := q.step + 1 < (passSteps q.pattern).length
        let fresh := ∀ x, (t.chime.speaker sp).play = some x → x.step = 0 ∧ x.left = stepMicros x.pattern 0
        let mark (w : Fin 24) (m : ChimeMark) := ∃ x ∈ t.warn.list, x.w = w ∧ x.chime sp = some m
        let queue := (s.chime.speaker sp).queue
        (wanted s sp q = true → more → (∀ c, bestCandidate s sp = some c → c.cls ≤ q.cls) →
          (t.chime.speaker sp).play = some { q with step := q.step + 1, left := stepMicros q.pattern (q.step + 1) })
        ∧ (∀ c, wanted s sp q = true → more → bestCandidate s sp = some c → q.cls < c.cls →
          (∀ w cls n, c = .warning w cls n →
            (t.chime.speaker sp).play = some ⟨.warning w, cls, n, 0, stepMicros n 0⟩ ∧ mark w ⟨.playing, none⟩)
          ∧ (∀ i cls n, c = .queue i cls n → (t.chime.speaker sp).play = some ⟨.queue, cls, n, 0, stepMicros n 0⟩)
          ∧ queueKeys t sp = queueKeys s sp
          ∧ (∀ w, q.source = .warning w → (quietOn s sp = false ∨ 5 ≤ (warnDef w).cls) → mark w ⟨.pending, none⟩))
        ∧ (∀ w e, wanted s sp q = true → ¬ more → q.source = .warning w → findEntry w s.warn.list = some e →
          fresh
          ∧ (e.cleared = true → mark w ⟨.done, none⟩)
          ∧ (e.cleared = false → (warnDef w).continuous = true → fullyAcked e = false →
              (quietOn s sp = false ∨ 5 ≤ (warnDef w).cls) → mark w ⟨.pending, none⟩ ∨ mark w ⟨.playing, none⟩)
          ∧ (∀ secs, e.cleared = false → (warnDef w).continuous = false → (warnDef w).again = some secs →
              mark w ⟨.resting, some (secs * 1000000)⟩)
          ∧ (e.cleared = false → (warnDef w).continuous = false → (warnDef w).again = none → mark w ⟨.done, none⟩))
        ∧ (∀ e, wanted s sp q = true → ¬ more → q.source = .queue → queue.filter QueueEntry.playing = [e] →
          fresh
          ∧ queueKeys t sp = (queue.filter fun x => !x.playing).map QueueEntry.key
          ∧ ((∀ x ∈ queue, x.playing = false → x.requester ≠ e.requester) →
              (e.requester = .front → t.port.front.notices &&& Notice.chimeDone.bit = Notice.chimeDone.bit)
              ∧ (e.requester = .rear → t.port.rear.notices &&& Notice.chimeDone.bit = Notice.chimeDone.bit)))
        ∧ (wanted s sp q = false → fresh ∧ queueKeys t sp = queueKeys s sp
          ∧ (sp = .rear → s.chime.quiet = .quieting → t.chime.quiet = .on)
          ∧ (bestCandidate s sp = none → (t.chime.speaker sp).play = none))
        ∧ (¬ (wanted s sp q = false ∧ sp = .rear ∧ s.chime.quiet = .quieting) → t.chime.quiet = s.chime.quiet)))
  ∧ (∀ (w : Fin 24) (sp : Speaker) (s : State), clocked s = true → repeats w sp = true → ListOrdered s.warn.list →
    ∃ t, exec (.repeatTimerExpiry w sp) s = .next t ∧ SameFigures s t
      ∧ view .service t.warn.list = view .service s.warn.list
      ∧ (∀ e ∈ t.warn.list, e.w = w → e.chimeIs sp .resting = false)
      ∧ (∀ e ∈ s.warn.list, e.w = w → e.chimeIs sp .resting = true → s.chime.quiet = .off →
          (s.chime.speaker sp).play ≠ none → ∃ x ∈ t.warn.list, x.w = w ∧ x.chimeIs sp .pending = true))
  ∧ ((warnDef 6).again = some 5 ∧ (warnDef 2).again = some 10 ∧ (warnDef 0).again = some 20 ∧ (warnDef 1).again = some 30
    ∧ (warnDef 20).again = some 60)

/-- R126, R127, R128: PLAY CHIME and CANCEL CHIMES: their refusals in their order, the entries queued and removed, and the
replies. -/
def Obligations.ChimeQueueCommands : Prop :=
  ∀ (p : Port) (pattern speakers cls : Byte) (s : State), PortFree p s →
    (∃ t, exec (.playChime p pattern speakers cls) s = .next t ∧ SameFigures s t
      ∧ (let kept (st : Status) := Answered p ⟨st, []⟩ s t ∧ queueKeys t .front = queueKeys s .front
            ∧ queueKeys t .rear = queueKeys s .rear
        let good := pattern.toNat < 8 ∧ 1 ≤ speakers.toNat ∧ speakers.toNat ≤ 3
        (¬ good → kept .badArgument)
        ∧ (good → s.clock.mainFault = true → kept .clockFault)
        ∧ (∀ n : Fin 8, good → pattern.toNat = n.val → s.clock.mainFault = false →
          let front := speakers.getLsbD 0 = true
          let rear := speakers.getLsbD 1 = true
          let c := min 3 cls.toNat
          let added (sp : Speaker) := queueKeys t sp =
            (queueKeys s sp).takeWhile (fun x => decide (c ≤ x.2.1)) ++ [(n, c, p)]
              ++ (queueKeys s sp).dropWhile (fun x => decide (c ≤ x.2.1))
          let full := (front ∧ 4 ≤ s.chime.front.queue.length)
            ∨ (rear ∧ s.chime.quiet = .off ∧ 4 ≤ s.chime.rear.queue.length)
          (full → kept .full)
          ∧ (¬ full →
            (front → added .front) ∧ (¬ front → queueKeys t .front = queueKeys s .front)
            ∧ (rear ∧ s.chime.quiet = .off → added .rear)
            ∧ (¬ (rear ∧ s.chime.quiet = .off) → queueKeys t .rear = queueKeys s .rear)
            ∧ Answered p ⟨.ok, enc 1 (if speakers.getLsbD 0 then 0 else 2) ++ enc 1 (queueKeys t .front).length
                ++ enc 1 (if speakers.getLsbD 1 then (if s.chime.quiet = .off then 0 else 1) else 2)
                ++ enc 1 (queueKeys t .rear).length⟩ s t))))
    ∧ (∃ t, exec (.cancelChimes p) s = .next t ∧ SameFigures s t
      ∧ (s.clock.mainFault = true → Answered p ⟨.clockFault, []⟩ s t ∧ queueKeys t .front = queueKeys s .front
          ∧ queueKeys t .rear = queueKeys s .rear)
      ∧ (s.clock.mainFault = false →
          (∀ sp, queueKeys t sp = (queueKeys s sp).filter fun x => x.2.2 != p)
          ∧ Answered p ⟨.ok, enc 1 (((queueKeys s .front ++ queueKeys s .rear).filter fun x => x.2.2 == p).length)⟩ s t))

/-- R132: REAR QUIET: its refusals in their order, and what quiet takes from the rear. -/
def Obligations.RearQuietTakesTheRear : Prop :=
  ∀ (p : Port) (arg : Byte) (s : State), PortFree p s →
    ∃ t, exec (.rearQuiet p arg) s = .next t ∧ SameFigures s t
      ∧ view .service t.warn.list = view .service s.warn.list ∧ queueKeys t .front = queueKeys s .front
      ∧ (let kept (st : Status) := Answered p ⟨st, []⟩ s t ∧ t.chime.quiet = s.chime.quiet
            ∧ queueKeys t .rear = queueKeys s .rear
        (1 < arg.toNat → kept .badArgument)
        ∧ (arg.toNat ≤ 1 → p ≠ .rear → kept .denied)
        ∧ (arg.toNat ≤ 1 → p = .rear → s.clock.mainFault = true → kept .clockFault)
        ∧ (arg = 0 → p = .rear → s.clock.mainFault = false →
            t.chime.quiet = .off ∧ queueKeys t .rear = queueKeys s .rear ∧ Answered p ⟨.ok, [0]⟩ s t)
        ∧ (arg = 1 → p = .rear → s.clock.mainFault = false → s.chime.quiet ≠ .off →
            t.chime.quiet = s.chime.quiet ∧ queueKeys t .rear = queueKeys s .rear
            ∧ Answered p ⟨.ok, [if s.chime.quiet = .quieting then 1 else 2]⟩ s t)
        ∧ (arg = 1 → p = .rear → s.clock.mainFault = false → s.chime.quiet = .off →
            queueKeys t .rear = []
            ∧ (∀ e ∈ t.warn.list, (warnDef e.w).cls < 5 → ∀ m, e.chimeRear = some m → m = ⟨.done, none⟩)
            ∧ (let now : Quiet × Byte :=
                match s.chime.rear.play with
                | none => (.on, 2)
                | some q => if 5 ≤ q.cls then (.on, 2) else (.quieting, 1)
              t.chime.quiet = now.1 ∧ Answered p ⟨.ok, [now.2]⟩ s t)
            ∧ ((∃ e ∈ s.chime.rear.queue, e.requester = .front) →
                t.port.front.notices &&& Notice.chimeDone.bit = Notice.chimeDone.bit)))

/-! ### Service items -/

/-- R137, R138, R143 to R146, R148: RESET SERVICE and WRITE SERVICE ITEM: their refusals in their order, the fresh start, and
the states that the evaluation gives. That a yes/no byte other than 00h and 01h is a BAD_ARGUMENT is log 39, the layout of the
item's page log 13 and log 39, the content of a refusal log 29 (each a DESIGN CHOICE). -/
def Obligations.ServiceItemCommands : Prop :=
  ∀ (p : Port) (item : Byte) (args : ItemArgs) (s : State), PortFree p s →
    let judged (d : ItemDef) (x : Item) : ItemState :=
      let within (dist days time : Int) : Bool :=
        (decide (0 < d.km) && decide (x.dist ≤ dist))
        || (decide (0 < d.days) && x.due.any fun day => decide ((day : Int) - (s.clock.seconds / 86400 : Nat) ≤ days))
        || (decide (0 < d.hours) && decide (x.time ≤ time))
      if within (-(d.km * 100 : Int)) (-((d.days / 10 : Nat) : Int)) (-(d.hours * 360 : Int)) then .overdue
      else if within 0 0 0 then .due
      else if within (d.noticeKm * 1000) d.noticeDays (d.noticeHours * 3600) then .soon
      else .ok
    let evaluated (d : ItemDef) (x : Item) : Item :=
      { x with state := if d.enabled = false then .off else if x.state = .unknown then .unknown else judged d x }
    let started (d : ItemDef) : Item :=
      ⟨.off, d.km * 1000,
        if 0 < d.days ∧ s.clock.unset = false then some (s.clock.seconds / 86400 + d.days) else none, d.hours * 3600, 0, 0, 0⟩
    let others (t : State) (k : Fin 8) := Notified .service t
      ∧ (∀ j : Fin 8, j ≠ k → t.service.items[j] = evaluated s.settings.work.items[j] s.service.items[j])
      ∧ t.meas = s.meas ∧ t.fold = s.fold ∧ SameRecords s t ∧ t.units = s.units ∧ t.clock = s.clock ∧ t.timers = s.timers
    let refused (t : State) (r : Reply) := Answered p r s t ∧ SameFigures s t
    (∃ t, exec (.resetService p item) s = .next t
      ∧ (7 < item.toNat → refused t ⟨.badArgument, []⟩)
      ∧ (∀ k : Fin 8, item.toNat = k.val →
        let d := s.settings.work.items[k]
        if p = .rear then refused t { servicePage s p k 0 with status := .denied }
        else if s.clock.mainFault then refused t ⟨.clockFault, []⟩
        else if p = .front ∧ d.driver = false then refused t { servicePage s p k 0 with status := .denied }
        else if (s.service.items[k]).state = .off then refused t { servicePage s p k 0 with status := .wrongState }
        else
          t.service.items[k] = evaluated d (started d) ∧ t.settings = s.settings ∧ others t k
          ∧ Answered p { servicePage t p k 0 with status := .ok } s t))
    ∧ (∃ t, exec (.writeServiceItem p item args) s = .next t
      ∧ (7 < item.toNat ∨ ItemArgs.toDef args = none → refused t ⟨.badArgument, []⟩)
      ∧ (∀ (k : Fin 8) (d : ItemDef), item.toNat = k.val → ItemArgs.toDef args = some d →
        if p ≠ .service then refused t ⟨.denied, []⟩
        else if s.clock.mainFault then refused t ⟨.clockFault, []⟩
        else
          t.settings.work = { s.settings.work with items := s.settings.work.items.set k d }
          ∧ t.settings.check = settingsCheck t.settings.work
          ∧ t.service.items[k] = (if d.enabled then evaluated d (started d) else ⟨.off, 0, none, 0, 0, 0, 0⟩)
          ∧ others t k ∧ Answered p { servicePage t p k 0 with status := .ok } s t))

/-! ### Clock -/

/-- R30, R151, R156, R164: the end of a second, and an alarm that comes due with it: awake, in park entry, which it ends with
either cause when the ALARM source is enabled, and in PARKED. The check word 9 of an alarm that is none takes its four stored
bytes as zeros: log 11 (DESIGN CHOICE). -/
def Obligations.SecondEndCountsAndRings : Prop :=
  ∀ s : State,
    ∃ t, exec .secondEnd s = .next t
      ∧ (let now := (s.clock.seconds + 1) % 4294967296
        let rings := ∃ a, s.clock.alarm = some a ∧ a ≤ now
        t.clock = { s.clock with
          seconds := now
          prescaler := if s.clock.onRc then s.clock.prescaler else 0
          rcCount := if s.clock.onRc then 0 else s.clock.rcCount
          alarm := t.clock.alarm, alarmCheck := t.clock.alarmCheck, alarmRang := t.clock.alarmRang }
        ∧ (¬ rings → t.clock.alarm = s.clock.alarm ∧ t.clock.alarmCheck = s.clock.alarmCheck
            ∧ t.clock.alarmRang = s.clock.alarmRang)
        ∧ (rings → t.clock.alarm = none ∧ t.clock.alarmCheck = 9 ∧ Notified .clock t
          ∧ (alive s = true → ActiveEntry 20 t ∧ t.clock.alarmRang = s.clock.alarmRang)
          ∧ (inAwake s = true → s.power.park.isSome = true → s.power.armed[9] ≠ 0 →
              ParkEntryEnded s t ∧ t.power = { s.power with park := none, delay := some 983040 })
          ∧ (alive s = true → s.power.park.isSome = true → s.power.armed[9] = 0 →
              t.power = s.power ∧ t.gauge = { s.gauge with lamps := t.gauge.lamps })
          ∧ (alive s = false → t.clock.alarmRang = true
              ∧ view .service t.warn.list = view .service s.warn.list)
          ∧ (parkedState s = true → s.power.armed[9] ≠ 0 →
              t.power.waking.isSome = true ∧ t.power.causeFront = s.power.causeFront ||| 0x0400
              ∧ t.power.causeRear = s.power.causeRear ||| 0x0400)))
      ∧ (∀ k : Fin 8, t.service.items[k] = { s.service.items[k] with state := (t.service.items[k]).state })
      ∧ t.meas = s.meas ∧ t.fold = s.fold ∧ SameRecords s t ∧ t.settings = s.settings ∧ t.units = s.units
      ∧ t.timers = s.timers

/-- R152, R153: SET CLOCK and TRIM CLOCK: their refusals in their order, the counter, and the shift of the start stamps. TRIM
CLOCK's order, 0 refused on arrival and CLOCK_UNSET after DENIED with READ CLOCK's content, is log 19 (DEDUCED), and the layout
of that content is log 13 (DESIGN CHOICE). -/
def Obligations.ClockSetsShiftTheRecords : Prop :=
  ∀ (p : Port) (n : BitVec 32) (trim : BitVec 8) (s : State), StoreFree p s → RecordsSealed s.store →
    let c := s.clock
    let moved (t : State) (delta : Int) :=
      let shift (x : TripBody) : TripBody :=
        if x.damaged then x else { x with start := (((x.start : Int) + delta) % 4294967296).toNat }
      (∀ k, (t.store.trip k).body = shift (s.store.trip k).body)
      ∧ t.store.charter = { s.store.charter with
          body := if s.store.charter.phase = .running then shift s.store.charter.body else s.store.charter.body
          check := t.store.charter.check }
      ∧ t.store.odo = s.store.odo ∧ t.store.grant = none ∧ t.clock.onRc = c.onRc ∧ t.clock.divisor = c.divisor
      ∧ (∀ a, c.alarm = some a → t.clock.alarm = if a ≤ t.clock.seconds then none else some a)
      ∧ (c.alarm = none → t.clock.alarm = none) ∧ Notified .clock t
      ∧ t.meas = s.meas ∧ t.fold = s.fold ∧ t.settings = s.settings ∧ t.units = s.units ∧ t.timers = s.timers
      ∧ Answered p ⟨.ok, clockContent t⟩ s t
    let refused (t : State) (r : Reply) := Answered p r s t ∧ SameFigures s t
    (∃ t, exec (.setClock p n) s = .next t
      ∧ if c.mainFault then refused t ⟨.clockFault, []⟩
        else if p = .rear then refused t ⟨.denied, clockContent s⟩
        else
          moved t ((n.toNat : Int) - c.seconds) ∧ t.clock.seconds = n.toNat ∧ t.clock.unset = false
          ∧ t.clock.prescaler = (if c.onRc then c.prescaler else 0) ∧ t.clock.rcCount = (if c.onRc then 0 else c.rcCount))
    ∧ (∃ t, exec (.trimClock p trim) s = .next t
      ∧ if trim = 0 then refused t ⟨.badArgument, []⟩
        else if c.mainFault then refused t ⟨.clockFault, []⟩
        else if p = .rear then refused t ⟨.denied, clockContent s⟩
        else if c.unset then refused t ⟨.clockUnset, clockContent s⟩
        else
          let amount : Int := max (-59) (min 59 trim.toInt)
          moved t amount ∧ t.clock.seconds = (((c.seconds : Int) + amount) % 4294967296).toNat ∧ t.clock.unset = false
          ∧ t.clock.prescaler = c.prescaler ∧ t.clock.rcCount = c.rcCount)

/-- R155: the alarm: SET ALARM and CLEAR ALARM with their refusals in their order and their replies, and what the resets make
of it. The zeros that an alarm that is none has for its bytes in the check word are log 11, the content of the refusals log 29
(both DESIGN CHOICE). -/
def Obligations.AlarmIsSetAndCleared : Prop :=
  (∀ (p : Port) (n : BitVec 32) (s : State), PortFree p s →
    let held := encOpt 4 s.clock.alarm
    let stored (a : Option Nat) (sum : Nat) : State :=
      { s with clock := { s.clock with alarm := a, alarmCheck := (sum + 9) % 65536 } }
    (p ≠ .front → exec (.setAlarm p n) s = .next (deliver p ⟨.denied, held⟩ s)
      ∧ exec (.clearAlarm p) s = .next (deliver p ⟨.denied, held⟩ s))
    ∧ (p = .front → s.clock.mainFault = true → exec (.setAlarm p n) s = .next (deliver p ⟨.clockFault, held⟩ s)
      ∧ exec (.clearAlarm p) s = .next (deliver p ⟨.clockFault, held⟩ s))
    ∧ (p = .front → s.clock.mainFault = false →
      (s.clock.unset = true → exec (.setAlarm p n) s = .next (deliver p ⟨.clockUnset, held⟩ s))
      ∧ (s.clock.unset = false → n.toNat ≤ s.clock.seconds →
          exec (.setAlarm p n) s = .next (deliver p ⟨.badArgument, held⟩ s))
      ∧ (s.clock.unset = false → s.clock.seconds < n.toNat →
          exec (.setAlarm p n) s =
            .next (deliver p ⟨.ok, encOpt 4 (some n.toNat)⟩ (stored (some n.toNat) (1 + byteSum n.toNat))))
      ∧ exec (.clearAlarm p) s = .next (deliver p ⟨.ok, encOpt 4 none⟩ (stored none 0))))
  ∧ (∀ (i : StartInputs) (s : State),
    (∃ t, exec (.coldStart i) s = .next t ∧ t.clock.alarm = none)
    ∧ (let verified (t : State) :=
        (s.clock.alarmCheck = (byteSumOpt s.clock.alarm + 9) % 65536 → t.clock.alarm = s.clock.alarm)
        ∧ (s.clock.alarmCheck ≠ (byteSumOpt s.clock.alarm + 9) % 65536 → t.clock.alarm = none ∧ Notified .clock t)
      (∃ t, exec (.restart i) s = .next t ∧ verified t)
      ∧ (parkedState s = true → s.power.waking.isSome = true → ∃ t, exec (.wakeSequence i) s = .next t ∧ verified t)))

/-- R64, R78, R157, R158: the sub oscillator lost and back, with TIME DEGRADED handed to the trips and the RUNNING charter, and the RC
calibration. -/
def Obligations.SubWatchAndCalibration : Prop :=
  ∀ s : State,
    (s.clock.onRc = false → ∃ t, exec .subMissing s = .next t
      ∧ t.clock = { s.clock with onRc := true, rcCount := 0, prescaler := 0, subGood := 0, heldW17 := t.clock.heldW17 }
      ∧ Notified .clock t
      ∧ (alive s = true → ActiveEntry 17 t ∧ t.clock.heldW17 = s.clock.heldW17)
      ∧ (alive s = false → t.clock.heldW17 = true ∧ t.store.held.timeDegraded = true
          ∧ view .service t.warn.list = view .service s.warn.list)
      ∧ (alive s = true → s.store.grant.isSome = true → t.store.held.timeDegraded = true)
      ∧ (alive s = true → s.store.grant = none →
          let marked (x : TripBody) : TripBody := if x.damaged then x else { x with timeDegraded := true }
          (∀ k, (t.store.trip k).body = marked (s.store.trip k).body)
          ∧ t.store.charter.body =
            (if s.store.charter.phase = .running then marked s.store.charter.body else s.store.charter.body))
      ∧ t.store.charter = { s.store.charter with body := t.store.charter.body, check := t.store.charter.check }
      ∧ t.store.odo = s.store.odo ∧ t.meas = s.meas ∧ t.fold = s.fold ∧ t.settings = s.settings ∧ t.units = s.units
      ∧ t.service = s.service ∧ t.timers = s.timers)
    ∧ (s.clock.onRc = true → exec .subMissing s = .next s)
    ∧ (s.clock.onRc = true → ListOrdered s.warn.list → ∃ t, exec .subBack s = .next t
      ∧ t.clock = { s.clock with onRc := false, prescaler := 0, subGap := 0, heldW17 := t.clock.heldW17 } ∧ Notified .clock t
      ∧ (alive s = true → ¬ ActiveEntry 17 t) ∧ (alive s = false → t.clock.heldW17 = false)
      ∧ SameRecords s t ∧ t.meas = s.meas ∧ t.fold = s.fold ∧ t.settings = s.settings ∧ t.units = s.units
      ∧ t.service = s.service ∧ t.timers = s.timers)
    ∧ (s.clock.onRc = false → exec .subBack s = .next s)
    ∧ (clocked s = true → exec .calibrationExpiry s = .next { s with
        timers := { s.timers with calib := 4000000 }, clock := { s.clock with calib := some ⟨0, 1000000⟩ } })
    ∧ (∀ count : Nat, clocked s = true → s.clock.calib.isSome = true →
      exec (.calibrationComplete count) s = .next { s with clock := { s.clock with
        calib := none, divisor := if 24000 ≤ count ∧ count ≤ 40000 then count else s.clock.divisor } })

/-- R18, R31, R42, R64, R78, R119, R133, R158, R159, R185: what the start and the end of a main-clock fault do in the blocks, and the
main-timed events that then change nothing. -/
def Obligations.MainClockFaultSuspends : Prop :=
  ∀ s : State,
    (clocked s = true → ∃ t, exec .mainClockFaultStart s = .next t
      ∧ suspend t = true ∧ t.clock = { s.clock with mainFault := true, mainGood := 0, calib := none }
      ∧ t.meas = { s.meas with residue := 0 } ∧ t.fold = s.fold ∧ Notified .status t
      ∧ t.chime.front.play = none ∧ t.chime.rear.play = none
      ∧ t.chime.quiet = (if s.chime.quiet = .quieting then .on else s.chime.quiet)
      ∧ (∀ sp, queueKeys t sp = queueKeys s sp) ∧ view .service t.warn.list = view .service s.warn.list
      ∧ (s.store.grant.isSome = true → t.store.held.fuelIncomplete = true)
      ∧ (s.store.grant = none →
          let marked (x : TripBody) : TripBody := if x.damaged then x else { x with fuelIncomplete := true }
          (∀ k, (t.store.trip k).body = marked (s.store.trip k).body)
          ∧ t.store.charter.body =
            (if s.store.charter.phase = .running then marked s.store.charter.body else s.store.charter.body))
      ∧ t.store.charter = { s.store.charter with body := t.store.charter.body, check := t.store.charter.check }
      ∧ t.store.odo = s.store.odo ∧ t.settings = s.settings ∧ t.units = s.units ∧ t.service = s.service
      ∧ t.timers = s.timers)
    ∧ (alive s = true → s.clock.mainFault = true → ∃ t, exec .mainClockFaultEnd s = .next t
      ∧ suspend t = false ∧ t.clock = { s.clock with mainFault := false, mainGap := 0 } ∧ Notified .status t
      ∧ t.meas = { s.meas with
          road := ⟨s.meas.road.period, 0, true⟩, engine := ⟨s.meas.engine.period, 0, true⟩ }
      ∧ t.timers = ⟨62500, 62500, 62500, s.timers.switch, 15625, s.timers.frame, 250000, 4000000, 250000, 4000000, 500000⟩
      ∧ t.gauge.frameOnRc = true
      ∧ (ParkNotDue s → t.gauge = { s.gauge with frameOnRc := true, lamps := t.gauge.lamps })
      ∧ t.fold = s.fold ∧ SameRecords s t ∧ t.settings = s.settings ∧ t.units = s.units ∧ t.service = s.service
      ∧ view .service t.warn.list = view .service s.warn.list)
    ∧ (clocked s = false →
      (∀ e ∈ [Instr.speedSampleExpiry, .rpmSampleExpiry, .gaugeStepExpiry, .manualSilenceRelease, .flasherPhaseChange,
          .bulbCheckEnd, .modelExpiry, .transferHoldEnd, .warningExpiry, .noteBoundary .front, .noteBoundary .rear,
          .slotWriteComplete, .calibrationExpiry, .mainClockFaultStart], exec e s = .next s)
      ∧ (∀ samples, exec (.analogScanExpiry samples) s = .next s) ∧ (∀ l, exec (.lampTestEnd l) s = .next s)
      ∧ (∀ w sp, exec (.repeatTimerExpiry w sp) s = .next s) ∧ (∀ agrees, exec (.commitComplete agrees) s = .next s)
      ∧ (∀ count, exec (.calibrationComplete count) s = .next s))

/-! ### Power controller -/

/-- R161, R162, R163: the park delay and the awake limit run out, and KEEP AWAKE: that it does not by itself end a park entry with
cause DELAY is log 32, that its refusals carry its reply's content log 29, and the layout of that content log 13 (each a DESIGN
CHOICE). -/
def Obligations.ParkEntryBegins : Prop :=
  ∀ s : State,
    let returning (t : State) := (∀ g : Fin 6, t.gauge.gauges[g].mode = .ret ∨ t.gauge.gauges[g].mode = .off)
      ∧ SlotWriteQueued (s.store.odo.distance / 100) t
    (inAwake s = true → s.power.park = none → s.power.delay.isSome = true → ∃ t, exec .parkDelayExpiry s = .next t
      ∧ SameFigures s t ∧ t.power.delay = some 0 ∧ t.power.limit = s.power.limit
      ∧ (s.power.limit = some 0 → t.power.park = some .limit ∧ returning t)
      ∧ (s.power.limit ≠ some 0 → keepAwakeReason s = false → t.power.park = some .delay ∧ returning t)
      ∧ (s.power.limit ≠ some 0 → nvBusy s = true ∨ keyOrLights s = true ∨ s.chime.front.play ≠ none
          ∨ s.chime.rear.play ≠ none → t.power.park = none))
    ∧ (inAwake s = true → s.power.limit.isSome = true → ∃ t, exec .awakeLimitExpiry s = .next t
      ∧ SameFigures s t ∧ t.power.limit = some 0 ∧ t.power.delay = s.power.delay ∧ t.power.park = some .limit
      ∧ (s.power.park = none → returning t))
    ∧ (∀ (p : Port) (n : BitVec 16), PortFree p s → ∃ t, exec (.keepAwake p n) s = .next t ∧ SameFigures s t
      ∧ (s.clock.mainFault = true → Answered p ⟨.clockFault, keepAwakeContent s⟩ s t ∧ t.power.delay = s.power.delay)
      ∧ (s.clock.mainFault = false → s.power.state ≠ .awake ∨ s.power.park = some .limit →
          Answered p ⟨.wrongState, keepAwakeContent s⟩ s t ∧ t.power.delay = s.power.delay)
      ∧ (s.clock.mainFault = false → s.power.state = .awake → s.power.park ≠ some .limit →
          t.power = { s.power with delay := some (max 1 (min 600 n.toNat) * 32768) }
          ∧ Answered p ⟨.ok, enc 1 2 ++ enc 2 (max 1 (min 600 n.toNat))⟩ s t))

/-- R64, R120, R134, R163, R165, R179: PARKED entry under its conditions, and what it leaves in each block. -/
def Obligations.ParkedEntryEmptiesTheBlocks : Prop :=
  ∀ (raw : BitVec 16) (s : State),
    (parkReady s = false → exec (.parkedEntry raw) s = .next s)
    ∧ (parkReady s = true → ∃ t, exec (.parkedEntry raw) s = .next t
      ∧ t.power = { s.power with
          state := .parked, park := none, delay := none, limit := none, armed := s.settings.work.wakeModes
          reference := raw, lineHold := Vector.replicate 16 0, waking := none }
      ∧ t.warn.list = [] ∧ t.warn.engineRun = 0 ∧ t.warn.runCount = 0 ∧ t.warn.limit = s.warn.limit
      ∧ t.chime = ⟨⟨none, []⟩, ⟨none, []⟩, .off⟩
      ∧ ((∃ e ∈ s.chime.front.queue ++ s.chime.rear.queue, e.requester = .front) →
          t.port.front.notices &&& Notice.chimeDone.bit = Notice.chimeDone.bit)
      ∧ (∀ q, waitingRequest t q = none) ∧ t.port.service.output = [] ∧ t.port.service.rx = .waitQuiet
      ∧ t.gauge.lamps = Vector.replicate 8 .off ∧ t.gauge.bulbCheck = none ∧ t.gauge.lampTests = Vector.replicate 8 none
      ∧ (∀ (g : Fin 6) (l : Fin 8), coilLevels t g = ⟨false, false, false, false⟩ ∧ lampOutput t l = false)
      ∧ t.fold = { s.fold with waiting := false } ∧ t.nv = s.nv
      ∧ t.clock = { s.clock with calib := none, mainGap := 0, mainGood := 0 }
      ∧ SameRecords s t ∧ t.meas = s.meas ∧ t.settings = s.settings ∧ t.units = s.units ∧ t.service = s.service)

/-- R156, R160, R165 to R167: a wake source fires, a reference level follows, and a wake sequence over sealed retention. -/
def Obligations.WakeSourcesAndSequence : Prop :=
  (∀ (w : WakeSource) (s : State),
    let bit := (1 : BitVec 16) <<< (WakeSource.toNat w)
    wakeEnabled s .ignition = true
    ∧ (parkedState s = false ∨ wakeEnabled s w = false → exec (.wakeSourceFires w) s = .next s)
    ∧ (parkedState s = true → wakeEnabled s w = true → ∃ t, exec (.wakeSourceFires w) s = .next t
      ∧ t = { s with power := t.power } ∧ t.power.state = .parked
      ∧ t.power.causeFront = s.power.causeFront ||| bit ∧ t.power.causeRear = s.power.causeRear ||| bit
      ∧ (s.power.waking = none → t.power.waking = some 4000 ∧ t.power.lastWake = bit)
      ∧ (∀ n, s.power.waking = some n → t.power.waking = some n ∧ t.power.lastWake = s.power.lastWake ||| bit)))
  ∧ (∀ (i : Fin 16) (s : State), wakeLine i = true → parkedState s = true →
    exec (.wakeLineEdge i) s = .next { s with power := { s.power with
      reference := s.power.reference ^^^ ((1 : BitVec 16) <<< i.val), lineHold := s.power.lineHold.set i 0 } })
  ∧ (∀ (i : StartInputs) (s : State), parkedState s = true → s.power.waking.isSome = true → RetentionSealed s →
    s.units.front ≤ 2 → s.units.rear ≤ 2 → s.store.held = ⟨false, false⟩ → i.mainEdge = true →
    ∃ t, exec (.wakeSequence i) s = .next t
      ∧ t.power.state = (if i.lines.getLsbD 0 then .run else if i.lines.getLsbD 1 then .acc else .awake)
      ∧ t.power.waking = none ∧ t.power.park = none
      ∧ (t.power.state = .awake → t.power.delay = some 983040 ∧ t.power.limit = some 39321600)
      ∧ Notified .wake t ∧ SameRecords s t ∧ t.settings.work = s.settings.work ∧ t.units = s.units
      ∧ t.fold.buf = s.fold.buf ∧ t.fold.rd = s.fold.rd ∧ t.fold.rf = s.fold.rf ∧ t.fold.tank = s.fold.tank
      ∧ t.clock.seconds = s.clock.seconds ∧ t.clock.mainFault = false ∧ t.meas.levels = i.lines
      ∧ (∀ k : Fin 6, t.meas.channels[k].sample = i.samples[k]) ∧ t.port.front.slot = .empty
      ∧ t.port.rear.slot = .empty ∧ t.warn.limit = s.warn.limit
      ∧ (s.power.lastWake.getLsbD 6 = true → ActiveEntry 19 t)
      ∧ (s.clock.alarmRang = true → ActiveEntry 20 t) ∧ t.clock.alarmRang = false)

/-! ### Ports -/

/-- R30, R104, R106, R161, R164, R165, R168, R170, R171, R172, R176: the transactions of a link, and its silence: what SELECT chooses;
the transaction end, whose hand-offs stand before the request of the incoming frame is executed or refused; a frame discarded in
a BUSY transaction or while a request waits; and in PARKED the select that can fire the link's wake source (in a wake sequence too:
log 25, DEDUCED), and a transaction that is not received. That the hand-offs, and what they leave settled, stand before the
request is judged and executed is log 6 (DEDUCED: R168 names the hand-off last). -/
def Obligations.LinkTransactions : Prop :=
  ∀ (l : Link) (s : State),
    (alive s = false → exec (.linkSelect l) s = exec (.wakeSourceFires (match l with | .front => .frontLink | .rear => .rearLink)) s
      ∧ ∀ incoming, exec (.linkTransactionEnd l incoming) s = .next s)
    ∧ (alive s = true → (s.link l).select = none → exec (.linkSelect l) s = .next (s.setLink l { s.link l with
      select := some (match (s.link l).slot with | .empty => .idle | .waiting _ => .busy | .done r => .reply r) }))
    ∧ (alive s = true → (s.link l).select ≠ none → exec (.linkSelect l) s = .next s)
    ∧ (∀ (out : Outgoing) (incoming : List Byte), alive s = true → (s.link l).select = some out →
      let h := closeTransaction l s
      let ended (t : State) := (t.link l).select = none ∧ (t.link l).silence = 0 ∧ (t.link l).silent = false
      (h.link l).slot = (s.link l).slot ∧ ended h ∧ SameFigures s h
      ∧ (inAwake s = true → h.power = { s.power with
          delay := some 983040, park := if s.power.park = some .delay then none else s.power.park })
      ∧ (inAwake s = true → s.power.park = some .delay → ParkEntryEnded s h)
      ∧ (s.power.park ≠ some .delay → h.gauge = { s.gauge with lamps := h.gauge.lamps })
      ∧ ((s.link l).silent = true → ListOrdered s.warn.list → ∀ e ∈ h.warn.list, e.w = 23 → e.cleared = false →
          (e.detail.getD 0).getLsbD (match l with | .front => 0 | .rear => 1) = false)
      ∧ ∃ t, exec (.linkTransactionEnd l incoming) s = .next t ∧ ended t
        ∧ (let free := out ≠ .busy ∧ ∀ r, (s.link l).slot ≠ .waiting r
          (¬ free → t = h)
          ∧ (free → judge incoming = .poll →
              (t.link l).slot = (match out with | .reply _ => .empty | .idle | .busy => (s.link l).slot) ∧ SameFigures s t)
          ∧ (free → judge incoming = .bad → (t.link l).slot = .done ⟨.checkError, []⟩ ∧ SameFigures s t)
          ∧ (∀ code args, free → judge incoming = .request code args → requestOf code args = none →
              (t.link l).slot = .done ⟨if code.toNat ∈ commandCodes then .badArgument else .unknownCommand, []⟩
              ∧ SameFigures s t)
          ∧ (∀ code args r, free → judge incoming = .request code args → requestOf code args = some r →
              t = settle h (serve l.port r (h.setLink l { h.link l with slot := .empty })))))
    ∧ (s.power.state = .run ∨ s.power.state = .acc → (s.link l).silent = false → alive s = true →
      ∃ t, exec (.silenceTimerExpiry l) s = .next t ∧ SameFigures s t
        ∧ (t.link l).silent = true ∧ (t.link l).silence = 2000000 ∧ (t.link l).slot = (s.link l).slot
        ∧ ∃ e ∈ t.warn.list, e.w = 23 ∧ e.cleared = false
          ∧ ∀ d, e.detail = some d → d.getLsbD (match l with | .front => 0 | .rear => 1) = true)

/-- R29, R30, R161, R164, R177 to R179: the service line: start bits, bytes, frames that end, the quiet line, and the output list.
That a discarding receiver drops every byte until the line is quiet, that no reply is sent meanwhile, and that the LINE_ERROR
restarts the manual silence count, is log 17 (DESIGN CHOICE: R178's sentences on it do not agree); so is that the quiet time of R178
too counts from the end of the part's own frame. That a frame end restarts that count in a main-clock fault too is log 40. -/
def Obligations.ServiceLineFrames : Prop :=
  ∀ s : State, alive s = true →
    let line := s.port.service
    (∃ t, exec .serviceStartBit s = .next t ∧ SameFigures s t ∧ t.port.service = { line with quiet := 0 }
      ∧ (inAwake s = true → t.power = { s.power with
          delay := some 983040, park := if s.power.park = some .delay then none else s.power.park })
      ∧ (inAwake s = true → s.power.park = some .delay → ParkEntryEnded s t)
      ∧ (inAwake s = true → s.power.park ≠ some .delay → t.gauge = { s.gauge with lamps := t.gauge.lamps })
      ∧ (inAwake s = false → s.power.park = none → t.power = s.power))
    ∧ (∀ (b : Byte) (good : Bool),
      (line.rx = .waitQuiet ∨ line.rx = .discarding → ∃ t, exec (.serviceByteReceived b good) s = .next t
        ∧ SameFigures s t ∧ t.port.service = line)
      ∧ (∀ bytes, line.rx = .building bytes → frameComplete bytes = false →
        ∃ t, exec (.serviceByteReceived b good) s = .next t ∧ SameFigures s t
          ∧ t.port.service = { line with rx := (
              if line.transmitting = true ∨ good = false ∨ (bytes = [] ∧ (b.toNat ≤ 2 ∨ 33 ≤ b.toNat)) then .discarding
              else .building (bytes ++ [b])) }))
    ∧ (∀ bytes, line.rx = .building bytes → frameComplete bytes = true → ParkNotDue s →
      ∃ t, exec .serviceFrameEnd s = .next t
        ∧ (let taken (st : Status) := t.port.service.rx = .building [] ∧ SameFigures s t
            ∧ t.gauge.silence = s.gauge.silence.map (fun _ => 0) ∧ t.port.service.request = line.request
            ∧ Answered .service ⟨st, []⟩ s t
          (judgeFrame bytes = .bad → taken .checkError)
          ∧ (∀ code args, judgeFrame bytes = .request code args → line.request ≠ none → taken .busy)
          ∧ (∀ code args, judgeFrame bytes = .request code args → line.request = none → requestOf code args = none →
              taken (if code.toNat ∈ commandCodes then .badArgument else .unknownCommand))
          ∧ (∀ code args r, judgeFrame bytes = .request code args → line.request = none → requestOf code args = some r →
              t = settle s (serve .service r { s with
                gauge := { s.gauge with silence := s.gauge.silence.map fun _ => 0 }
                port := { s.port with service := { line with rx := .building [] } } }))))
    ∧ (owesLineError line.rx = true → ∃ t, exec .serviceQuietExpiry s = .next t ∧ SameFigures s t
      ∧ t.port.service.rx = .building [] ∧ Answered .service ⟨.lineError, []⟩ s t
      ∧ t.gauge = { s.gauge with silence := s.gauge.silence.map fun _ => 0 })
    ∧ (∀ r rest, line.output = r :: rest → line.transmitting = false → receiverFree line.rx = true →
      exec .serviceTransmitStart s = .next { s with port := { s.port with service :=
        { line with transmitting := true, sendLeft := (r.content.length + 3) * 6875 } } })
    ∧ (line.transmitting = true → exec .serviceFrameSent s = .next { s with port := { s.port with service :=
        { line with output := line.output.tail, transmitting := false, sendLeft := 0, quiet := 0 } } })

/-! ### Output pins -/

/-- R24, R31, R35, R36, R37, R122, R133, R159, R168, R171, R174: the output pins: ATTN while a notice stands; SUSPEND in a fault; the
coil halves of the running frame, and the lamps, all low in PARKED; the tone, the strike and LOUD of each speaker; and the bytes
that a link puts out. That each is worked from the state, a tone as its period, is log 27 (DESIGN CHOICE). -/
def Obligations.OutputPinsFollowTheState : Prop :=
  ∀ (s : State) (l : Link) (g : Fin 6) (k : Fin 8) (sp : Speaker) (n : Nat),
    (attn s l = true ↔ (s.link l).notices ≠ 0) ∧ suspend s = s.clock.mainFault
    ∧ (alive s = true →
      (let q := (s.gauge.gauges[g]).latched
      let count := s.timers.frame * 256 / 1000000
      (s.timers.frame < 1000000 → count ≤ 255)
      ∧ coilLevels s g = ⟨!q.a.reverse && decide (count < q.a.duty), q.a.reverse && decide (count < q.a.duty),
          !q.b.reverse && decide (count < q.b.duty), q.b.reverse && decide (count < q.b.duty)⟩)
      ∧ lampOutput s k = (s.gauge.bulbCheck.isSome || (s.gauge.lampTests[k]).isSome
          || decide (s.gauge.lamps[k] = .on) || (decide (s.gauge.lamps[k] = .flashing) && s.gauge.flasherOn)))
    ∧ (alive s = false → coilLevels s g = ⟨false, false, false, false⟩ ∧ lampOutput s k = false ∧ linkByte s l n = 0)
    ∧ (clocked s = false ∨ (s.chime.speaker sp).play = none → tone s sp = none ∧ strike s sp = false ∧ loud s sp = false)
    ∧ (∀ q, clocked s = true → (s.chime.speaker sp).play = some q →
      loud s sp = decide (5 ≤ q.cls)
      ∧ (∀ d micros, (passSteps q.pattern)[q.step]? = some ⟨some d, micros⟩ →
          tone s sp = some (if s.clock.onRc then .fromMain (61 * d) else .fromSub (2 * d))
          ∧ strike s sp = decide (micros < q.left + 2000))
      ∧ (∀ micros, (passSteps q.pattern)[q.step]? = some ⟨none, micros⟩ → tone s sp = none ∧ strike s sp = false))
    ∧ (alive s = true → (s.link l).select = none → ∃ t, exec (.linkSelect l) s = .next t
      ∧ (let r : Reply := match (s.link l).slot with
          | .empty => ⟨.idle, []⟩
          | .waiting _ => ⟨.busy, []⟩
          | .done r => r
        linkByte s l n = 0
        ∧ linkByte t l 0 = BitVec.ofNat 8 (r.content.length + 3) ∧ linkByte t l 1 = BitVec.ofNat 8 r.status.code
        ∧ (n < r.content.length → linkByte t l (n + 2) = r.content.getD n 0)
        ∧ ((List.range (r.content.length + 3)).map (linkByte t l)).foldl (· + ·) 0 = 0
        ∧ (r.content.length + 3 ≤ n → linkByte t l n = 0)))

/-! ### Settings and resets -/

/-- R15, R51, R183: WRITE SETTING: its refusals in their order, numbers, curves in one part and in two, and Kr and Kf. That its
refusals carry no content, and the reply to part 0 of a curve in two parts, are log 29; the corners of the checks, and the
refusal of a Kr or Kf that is not of two bytes, are log 18 (both DESIGN CHOICE). -/
def Obligations.WriteSettingInstalls : Prop :=
  ∀ (p : Port) (item part : Byte) (value : List Byte) (s : State), PortFree p s →
    ∃ t, exec (.writeSetting p item part value) s = .next t
      ∧ (let refused (st : Status) := Answered p ⟨st, []⟩ s t ∧ SameFigures s t
        let n := item.toNat
        let rest := t.meas = s.meas ∧ SameRecords s t ∧ t.units = s.units ∧ t.service = s.service ∧ t.clock = s.clock
          ∧ t.timers = s.timers ∧ t.fold.buf = s.fold.buf ∧ t.settings.check = settingsCheck t.settings.work
          ∧ Answered p ⟨.ok, settingContent t.settings.work n 0⟩ s t
        (p ≠ .service → refused .denied)
        ∧ (p = .service → n ≤ 1 → value.length ≠ 2 → refused .badArgument)
        ∧ (p = .service → 45 < n → refused .badArgument)
        ∧ (p = .service → 2 ≤ n → lengthGood s n part.toNat value = false → refused .badArgument)
        ∧ (p = .service → 2 ≤ n → n ≤ 45 → lengthGood s n part.toNat value = true → s.clock.mainFault = true →
            refused .clockFault)
        ∧ (∀ r, p = .service → 2 ≤ n → s.clock.mainFault = false → itemRange n = some r → value.length = itemWidth n →
          let v : Int := if n = 33 then decInt value else decNat value
          ((v < r.1 ∨ r.2 < v) → refused .badArgument)
          ∧ (r.1 ≤ v → v ≤ r.2 →
            t.settings.work = s.settings.work.setNumber n v ∧ t.settings.staging = s.settings.staging
            ∧ t.fold.tank.q = (if n = 3 ∨ n = 4 then min (t.settings.work.cm + t.settings.work.ca) s.fold.tank.q
                else s.fold.tank.q)
            ∧ rest))
        ∧ (∀ i, p = .service → s.clock.mainFault = false → itemCurve n = some i →
          lengthGood s n part.toNat value = true →
          let count := (value.headD 0).toNat
          let installs (c : Curve) :=
            (curveGood i c = true → t.settings.work = s.settings.work.setCurve i c ∧ t.settings.staging = none ∧ rest)
            ∧ (curveGood i c = false → Answered p ⟨.badCurve, []⟩ s t ∧ t.settings.work = s.settings.work
                ∧ t.settings.staging = none)
          (part = 0 → count < 2 ∨ 8 < count → refused .badCurve)
          ∧ (part = 0 → 2 ≤ count → count ≤ 4 → installs (decPoints value.tail))
          ∧ (part = 0 → 5 ≤ count → count ≤ 8 → t.settings.work = s.settings.work
              ∧ t.settings.staging = some ⟨n, count, decPoints value.tail⟩
              ∧ Answered p ⟨.ok, settingContent s.settings.work n 0⟩ s t)
          ∧ (∀ g, part = 1 → s.settings.staging = some g → g.item = n → installs (g.points ++ decPoints value))))
      ∧ (∀ a b : Byte, p = .service → item.toNat ≤ 1 → value = [a, b] →
          exec (.writeSetting p item part value) s =
            exec (.writeSettingKrKf p (if item = 0 then .kr else .kf) (a ++ b)) s)

/-- R81, R184, R185: COMMIT SETTINGS and its completion, and the loss of supply that cuts a write. What a cut or failed write leaves
in the array is log 12, and that SUPPLY_LOSS changes nothing else, pending writes kept, is log 22 (both DESIGN CHOICE). -/
def Obligations.CommitAndSupplyLoss : Prop :=
  ∀ (p : Port) (s : State),
    (PortFree p s → ∃ t, exec (.commitSettings p) s = .next t
      ∧ t.meas = s.meas ∧ t.fold = s.fold ∧ SameRecords s t ∧ t.settings.work = s.settings.work ∧ t.units = s.units
      ∧ t.clock = s.clock ∧ t.nv.slots = s.nv.slots ∧ t.nv.block = s.nv.block
      ∧ (let refused (st : Status) := Answered p ⟨st, []⟩ s t ∧ t.settings = s.settings
        if p ≠ .service then refused .denied
        else if s.clock.mainFault then refused .clockFault
        else if 30 ≤ s.meas.speed then refused .moving
        else if commitBusy s then
          refused .settingsBusy
        else
          Answered p ⟨.ok, []⟩ s t ∧ t.settings.commit = .inProgress
          ∧ (t.nv.pendingCommit = true ∨ t.nv.flight = some (.commit s.settings.work 260000))))
    ∧ (∀ (agrees : Bool) (image : Settings) (left : Nat), clocked s = true → s.nv.flight = some (.commit image left) →
      ∃ t, exec (.commitComplete agrees) s = .next t ∧ Notified .status t
        ∧ t.settings = { s.settings with
            commit := if agrees then .ok else .failed
            defaulted := if agrees then false else s.settings.defaulted }
        ∧ (agrees = true → t.nv.block = some ⟨image, blockCheck image⟩)
        ∧ (agrees = false → ∃ check, t.nv.block = some ⟨image, check⟩)
        ∧ t.nv.slots = s.nv.slots ∧ t.meas = s.meas ∧ t.fold = s.fold ∧ SameRecords s t ∧ t.units = s.units
        ∧ t.service = s.service ∧ t.clock = s.clock ∧ t.timers = s.timers)
    ∧ (∃ t, exec .supplyLoss s = .next t
      ∧ t = { s with nv := t.nv, power := { s.power with supplied := false } } ∧ t.nv.flight = none
      ∧ (s.nv.flight = none → t.nv = s.nv)
      ∧ (∀ snap (no : Fin 32) seq left, s.nv.flight = some (.slot snap no.val seq left) →
          slotValid no.val t.nv.slots[no] = false ∧ t.nv.block = s.nv.block
          ∧ ∀ j : Fin 32, j ≠ no → t.nv.slots[j] = s.nv.slots[j])
      ∧ (∀ image left, s.nv.flight = some (.commit image left) → goodBlock t.nv = none ∧ t.nv.slots = s.nv.slots))

/-- R59, R61, R77, R78, R81, R82, R166, R174, R182, R185: what COLD START and RESTART leave: a write in flight is cut, its slot or the
block fails its check, and a commit that was cut or dropped has FAILED at a RESTART; a RESTART over sealed retention keeps it, and
one that finds ODO's check word wrong reloads ODO from the slot log. A COLD START without a main edge sets the trips' FUEL
INCOMPLETE (log 21, DEDUCED); that a main-clock fault that stood ends at once with a main edge is log 37 (DESIGN CHOICE). -/
def Obligations.ColdStartAndRestart : Prop :=
  ∀ (i : StartInputs) (s : State),
    let chosen (t : State) := t.power.state = (if i.lines.getLsbD 0 then .run else if i.lines.getLsbD 1 then .acc else .awake)
      ∧ t.power.supplied = true ∧ t.power.park = none ∧ t.power.causeFront = 0 ∧ t.power.causeRear = 0
      ∧ Notified .restart t ∧ t.clock.mainFault = !i.mainEdge ∧ t.store.logPos = scanLog t.nv.slots
      ∧ t.nv.flight = none ∧ t.nv.pendingSlot = none ∧ t.nv.pendingCommit = false
      ∧ (s.nv.flight = none → t.nv.slots = s.nv.slots ∧ t.nv.block = s.nv.block)
      ∧ (∀ snap (no : Fin 32) seq left, s.nv.flight = some (.slot snap no.val seq left) →
          slotValid no.val t.nv.slots[no] = false ∧ t.nv.block = s.nv.block
          ∧ ∀ j : Fin 32, j ≠ no → t.nv.slots[j] = s.nv.slots[j])
      ∧ (∀ image left, s.nv.flight = some (.commit image left) → goodBlock t.nv = none ∧ t.nv.slots = s.nv.slots)
      ∧ t.meas.levels = i.lines ∧ t.meas.speed = 0 ∧ t.port.front.slot = .empty ∧ t.port.rear.slot = .empty
    (∃ t, exec (.coldStart i) s = .next t ∧ chosen t
      ∧ (newestSlot t.nv.slots = none → t.store.odo.distance = 0 ∧ t.store.odo.allowanceOpen = true
          ∧ t.store.odo.reloaded = false)
      ∧ (∀ q, newestSlot t.nv.slots = some q → t.store.odo.distance = q.1.distance * 100
          ∧ t.store.odo.allowanceOpen = false ∧ t.store.odo.reloaded = true)
      ∧ (∀ k, (t.store.trip k).body = ⟨false, 0, 0, 0, 0, 0, t.store.odo.distance, true, false, !i.mainEdge⟩)
      ∧ t.store.charter.phase = .vacant ∧ t.fold.buf = ⟨0, 0, 0, 0, 0, 0, 0, false⟩ ∧ t.fold.rd = 0 ∧ t.fold.rf = 0
      ∧ t.fold.tank = ⟨0, false, false, false, false⟩ ∧ t.units = ⟨0, 0, 5⟩ ∧ t.warn.limit = 0
      ∧ t.settings.commit = .none ∧ t.clock.seconds = 0 ∧ t.clock.unset = true ∧ t.clock.divisor = 32000 ∧ t.clock.alarm = none
      ∧ (∀ w, goodBlock t.nv = some w → t.settings.work = w ∧ t.settings.defaulted = false)
      ∧ (goodBlock t.nv = none → t.settings.work = .builtIn ∧ t.settings.defaulted = true)
      ∧ (∀ k : Fin 8, t.service.items[k] =
          ⟨if (t.settings.work.items[k]).enabled then .unknown else .off, 0, none, 0, 0, 0, 0⟩))
    ∧ (∃ t, exec (.restart i) s = .next t ∧ chosen t
      ∧ (s.settings.commit = .inProgress → t.settings.commit = .failed)
      ∧ (s.settings.commit ≠ .inProgress → commitBusy s = false → t.settings.commit = s.settings.commit))
    ∧ (RetentionSealed s → s.units.front ≤ 2 → s.units.rear ≤ 2 → i.mainEdge = true → s.clock.onRc = false →
      ∃ t, exec (.restart i) s = .next t ∧ chosen t
        ∧ t.store.odo = s.store.odo ∧ t.store.a = s.store.a ∧ t.store.b = s.store.b ∧ t.store.p = s.store.p
        ∧ t.store.charter = s.store.charter ∧ t.store.held = ⟨false, false⟩
        ∧ t.fold.buf = s.fold.buf ∧ t.fold.rd = s.fold.rd ∧ t.fold.rf = s.fold.rf ∧ t.fold.tank = s.fold.tank
        ∧ t.settings.work = s.settings.work ∧ t.settings.staging = none ∧ t.units = s.units
        ∧ t.warn.limit = s.warn.limit ∧ t.clock.seconds = s.clock.seconds ∧ t.clock.unset = s.clock.unset
        ∧ t.clock.divisor = s.clock.divisor ∧ t.clock.alarm = s.clock.alarm)
    ∧ (RetentionSealed s → i.mainEdge = true → s.clock.onRc = true →
      ∃ t, exec (.restart i) s = .next t ∧ chosen t ∧ ActiveEntry 17 t ∧ t.clock.onRc = true
        ∧ (let marked (x : TripBody) : TripBody := if x.damaged then x else { x with timeDegraded := true }
          (∀ k, (t.store.trip k).body = marked (s.store.trip k).body)
          ∧ t.store.charter.body =
            (if s.store.charter.phase = .running then marked s.store.charter.body else s.store.charter.body))
        ∧ t.store.odo = s.store.odo ∧ t.store.charter.phase = s.store.charter.phase)
    ∧ (s.store.odo.check ≠ odoCheck s.store.odo → i.mainEdge = true → s.clock.onRc = false →
      ∃ t, exec (.restart i) s = .next t ∧ chosen t
        ∧ t.store.odo.distance = (match newestSlot t.nv.slots with | none => 0 | some q => q.1.distance * 100)
        ∧ t.store.odo.reloaded = true ∧ t.store.odo.allowanceOpen = false
        ∧ (∀ k, (t.store.trip k).body =
            ⟨false, 0, 0, 0, 0, s.clock.seconds, t.store.odo.distance, true, false, false⟩)
        ∧ (s.store.charter.phase = .running → t.store.charter.phase = .vacant ∧ Notified .charter t)
        ∧ ∃ e ∈ t.warn.list, e.w = 16 ∧ e.cleared = false ∧ ∃ d, e.detail = some d ∧ d.getLsbD 0 = true)

/-- R38, R50, R51, R83, R117, R138, R139, R145, R150, R166, R182: what the retention checks of a RESTART and a wake sequence make of
each block whose check word fails, and of the others; and what a reload of the settings changes in the fold state, the tank and
the service table. That the fold and the service checks are made on what retention held, before the reload, is log 20 (DEDUCED);
the stored forms that the check words sum are log 11 (DESIGN CHOICE). -/
def Obligations.FailedRetentionChecksStartAnew : Prop :=
  ∀ (i : StartInputs) (s : State),
    let checked (t : State) :=
      let unitsHold := s.units.check = unitCheck s.units.front s.units.rear ∧ s.units.front ≤ 2 ∧ s.units.rear ≤ 2
      let reload := s.settings.check ≠ settingsCheck s.settings.work
      let w := t.settings.work
      let unknown (k : Fin 8) : Item := ⟨if (w.items[k]).enabled then .unknown else .off, 0, none, 0, 0, 0, 0⟩
      (unitsHold → t.units = s.units)
      ∧ (¬ unitsHold → t.units = ⟨0, 0, 5⟩ ∧ Notified .status t)
      ∧ (s.warn.limitCheck = limitCheck s.warn.limit → t.warn.limit = s.warn.limit ∧ t.warn.limitCheck = s.warn.limitCheck)
      ∧ (s.warn.limitCheck ≠ limitCheck s.warn.limit → t.warn.limit = 0 ∧ t.warn.limitCheck = 6 ∧ Notified .status t)
      ∧ (¬ reload → w = s.settings.work ∧ t.settings.defaulted = s.settings.defaulted)
      ∧ (reload → Notified .status t
        ∧ (∀ image, goodBlock t.nv = some image → w = image ∧ t.settings.defaulted = s.settings.defaulted)
        ∧ (goodBlock t.nv = none → w = .builtIn ∧ t.settings.defaulted = true))
      ∧ t.settings.check = settingsCheck w ∧ t.settings.staging = none
      ∧ (s.fold.check ≠ foldCheck s.fold → Notified .status t ∧ t.fold.lost = true
        ∧ t.fold.buf = ⟨0, 0, 0, 0, 0, 0, 0, false⟩ ∧ t.fold.rd = 0 ∧ t.fold.rf = 0 ∧ t.fold.window = [] ∧ t.fold.seg = ⟨0, 0⟩
        ∧ t.fold.closed = [] ∧ t.fold.tank = ⟨0, false, false, false, false⟩)
      ∧ (s.fold.check = foldCheck s.fold → t.fold.lost = false
        ∧ t.fold.buf = s.fold.buf ∧ t.fold.window = s.fold.window ∧ t.fold.seg = s.fold.seg ∧ t.fold.closed = s.fold.closed
        ∧ t.fold.rd = (if w.kr = s.settings.work.kr then s.fold.rd else 0)
        ∧ t.fold.rf = (if w.kf = s.settings.work.kf then s.fold.rf else 0)
        ∧ (¬ reload → t.fold.tank = s.fold.tank)
        ∧ (reload → t.fold.tank = { s.fold.tank with q := min (w.cm + w.ca) s.fold.tank.q }))
      ∧ t.fold.waiting = false ∧ t.fold.merges = 0 ∧ t.fold.check = foldCheck t.fold
      ∧ (s.service.check ≠ serviceCheck s.service.items → Notified .service t ∧ ∀ k : Fin 8, t.service.items[k] = unknown k)
      ∧ (s.service.check = serviceCheck s.service.items → ∀ k : Fin 8,
        let before := (s.settings.work.items[k]).enabled
        let after := (w.items[k]).enabled
        (before = true → after = false → t.service.items[k] = ⟨.off, 0, none, 0, 0, 0, 0⟩)
        ∧ (before = false → after = true → t.service.items[k] = unknown k)
        ∧ (before = after → t.service.items[k] =
            { s.service.items[k] with state := evalState w.items[k] (s.clock.seconds / 86400) s.service.items[k] }))
      ∧ t.service.check = serviceCheck t.service.items
    (∃ t, exec (.restart i) s = .next t ∧ checked t)
    ∧ (parkedState s = true → s.power.waking.isSome = true → ∃ t, exec (.wakeSequence i) s = .next t ∧ checked t)
end

