-- ==== Sys2Proof/Laws/State.lean ====
section
/-! SUPPORT. What each named update of the state does to each of its fields, true by definition. -/

namespace Sys2Proof.Machine

/-! ### withMeas -/

@[simp] theorem withMeas_pending (s : State) (f : Measure → Measure) : (s.withMeas f).pending = s.pending := rfl
@[simp] theorem withMeas_meas (s : State) (f : Measure → Measure) : (s.withMeas f).meas = f s.meas := rfl
@[simp] theorem withMeas_gauge (s : State) (f : Measure → Measure) : (s.withMeas f).gauge = s.gauge := rfl
@[simp] theorem withMeas_fold (s : State) (f : Measure → Measure) : (s.withMeas f).fold = s.fold := rfl
@[simp] theorem withMeas_store (s : State) (f : Measure → Measure) : (s.withMeas f).store = s.store := rfl
@[simp] theorem withMeas_nv (s : State) (f : Measure → Measure) : (s.withMeas f).nv = s.nv := rfl
@[simp] theorem withMeas_units (s : State) (f : Measure → Measure) : (s.withMeas f).units = s.units := rfl
@[simp] theorem withMeas_warn (s : State) (f : Measure → Measure) : (s.withMeas f).warn = s.warn := rfl
@[simp] theorem withMeas_chime (s : State) (f : Measure → Measure) : (s.withMeas f).chime = s.chime := rfl
@[simp] theorem withMeas_service (s : State) (f : Measure → Measure) : (s.withMeas f).service = s.service := rfl
@[simp] theorem withMeas_clock (s : State) (f : Measure → Measure) : (s.withMeas f).clock = s.clock := rfl
@[simp] theorem withMeas_power (s : State) (f : Measure → Measure) : (s.withMeas f).power = s.power := rfl
@[simp] theorem withMeas_port (s : State) (f : Measure → Measure) : (s.withMeas f).port = s.port := rfl
@[simp] theorem withMeas_settings (s : State) (f : Measure → Measure) : (s.withMeas f).settings = s.settings := rfl
@[simp] theorem withMeas_timers (s : State) (f : Measure → Measure) : (s.withMeas f).timers = s.timers := rfl
@[simp] theorem withMeas_pins (s : State) (f : Measure → Measure) : (s.withMeas f).pins = s.pins := rfl
@[simp] theorem withMeas_own (s : State) (f : Measure → Measure) : (s.withMeas f).own = s.own := rfl

/-! ### withList -/

@[simp] theorem withList_pending (s : State) (l : List Entry) : (s.withList l).pending = s.pending := rfl
@[simp] theorem withList_meas (s : State) (l : List Entry) : (s.withList l).meas = s.meas := rfl
@[simp] theorem withList_gauge (s : State) (l : List Entry) : (s.withList l).gauge = s.gauge := rfl
@[simp] theorem withList_fold (s : State) (l : List Entry) : (s.withList l).fold = s.fold := rfl
@[simp] theorem withList_store (s : State) (l : List Entry) : (s.withList l).store = s.store := rfl
@[simp] theorem withList_nv (s : State) (l : List Entry) : (s.withList l).nv = s.nv := rfl
@[simp] theorem withList_units (s : State) (l : List Entry) : (s.withList l).units = s.units := rfl
@[simp] theorem withList_warn (s : State) (l : List Entry) : (s.withList l).warn = { s.warn with list := l } := rfl
@[simp] theorem withList_chime (s : State) (l : List Entry) : (s.withList l).chime = s.chime := rfl
@[simp] theorem withList_service (s : State) (l : List Entry) : (s.withList l).service = s.service := rfl
@[simp] theorem withList_clock (s : State) (l : List Entry) : (s.withList l).clock = s.clock := rfl
@[simp] theorem withList_power (s : State) (l : List Entry) : (s.withList l).power = s.power := rfl
@[simp] theorem withList_port (s : State) (l : List Entry) : (s.withList l).port = s.port := rfl
@[simp] theorem withList_settings (s : State) (l : List Entry) : (s.withList l).settings = s.settings := rfl
@[simp] theorem withList_timers (s : State) (l : List Entry) : (s.withList l).timers = s.timers := rfl
@[simp] theorem withList_pins (s : State) (l : List Entry) : (s.withList l).pins = s.pins := rfl
@[simp] theorem withList_own (s : State) (l : List Entry) : (s.withList l).own = s.own := rfl

/-! ### withSpeaker -/

@[simp] theorem withSpeaker_pending (s : State) (sp : Speaker) (x : SpeakerState) : (s.withSpeaker sp x).pending = s.pending := rfl
@[simp] theorem withSpeaker_meas (s : State) (sp : Speaker) (x : SpeakerState) : (s.withSpeaker sp x).meas = s.meas := rfl
@[simp] theorem withSpeaker_gauge (s : State) (sp : Speaker) (x : SpeakerState) : (s.withSpeaker sp x).gauge = s.gauge := rfl
@[simp] theorem withSpeaker_fold (s : State) (sp : Speaker) (x : SpeakerState) : (s.withSpeaker sp x).fold = s.fold := rfl
@[simp] theorem withSpeaker_store (s : State) (sp : Speaker) (x : SpeakerState) : (s.withSpeaker sp x).store = s.store := rfl
@[simp] theorem withSpeaker_nv (s : State) (sp : Speaker) (x : SpeakerState) : (s.withSpeaker sp x).nv = s.nv := rfl
@[simp] theorem withSpeaker_units (s : State) (sp : Speaker) (x : SpeakerState) : (s.withSpeaker sp x).units = s.units := rfl
@[simp] theorem withSpeaker_warn (s : State) (sp : Speaker) (x : SpeakerState) : (s.withSpeaker sp x).warn = s.warn := rfl
@[simp] theorem withSpeaker_chime (s : State) (sp : Speaker) (x : SpeakerState) : (s.withSpeaker sp x).chime = s.chime.setSpeaker sp x := rfl
@[simp] theorem withSpeaker_service (s : State) (sp : Speaker) (x : SpeakerState) : (s.withSpeaker sp x).service = s.service := rfl
@[simp] theorem withSpeaker_clock (s : State) (sp : Speaker) (x : SpeakerState) : (s.withSpeaker sp x).clock = s.clock := rfl
@[simp] theorem withSpeaker_power (s : State) (sp : Speaker) (x : SpeakerState) : (s.withSpeaker sp x).power = s.power := rfl
@[simp] theorem withSpeaker_port (s : State) (sp : Speaker) (x : SpeakerState) : (s.withSpeaker sp x).port = s.port := rfl
@[simp] theorem withSpeaker_settings (s : State) (sp : Speaker) (x : SpeakerState) : (s.withSpeaker sp x).settings = s.settings := rfl
@[simp] theorem withSpeaker_timers (s : State) (sp : Speaker) (x : SpeakerState) : (s.withSpeaker sp x).timers = s.timers := rfl
@[simp] theorem withSpeaker_pins (s : State) (sp : Speaker) (x : SpeakerState) : (s.withSpeaker sp x).pins = s.pins := rfl
@[simp] theorem withSpeaker_own (s : State) (sp : Speaker) (x : SpeakerState) : (s.withSpeaker sp x).own = s.own := rfl

/-! ### withPlay -/

@[simp] theorem withPlay_pending (s : State) (sp : Speaker) (q : Option Play) : (s.withPlay sp q).pending = s.pending := rfl
@[simp] theorem withPlay_meas (s : State) (sp : Speaker) (q : Option Play) : (s.withPlay sp q).meas = s.meas := rfl
@[simp] theorem withPlay_gauge (s : State) (sp : Speaker) (q : Option Play) : (s.withPlay sp q).gauge = s.gauge := rfl
@[simp] theorem withPlay_fold (s : State) (sp : Speaker) (q : Option Play) : (s.withPlay sp q).fold = s.fold := rfl
@[simp] theorem withPlay_store (s : State) (sp : Speaker) (q : Option Play) : (s.withPlay sp q).store = s.store := rfl
@[simp] theorem withPlay_nv (s : State) (sp : Speaker) (q : Option Play) : (s.withPlay sp q).nv = s.nv := rfl
@[simp] theorem withPlay_units (s : State) (sp : Speaker) (q : Option Play) : (s.withPlay sp q).units = s.units := rfl
@[simp] theorem withPlay_warn (s : State) (sp : Speaker) (q : Option Play) : (s.withPlay sp q).warn = s.warn := rfl
@[simp] theorem withPlay_chime (s : State) (sp : Speaker) (q : Option Play) : (s.withPlay sp q).chime = s.chime.setSpeaker sp { s.chime.speaker sp with play := q } := rfl
@[simp] theorem withPlay_service (s : State) (sp : Speaker) (q : Option Play) : (s.withPlay sp q).service = s.service := rfl
@[simp] theorem withPlay_clock (s : State) (sp : Speaker) (q : Option Play) : (s.withPlay sp q).clock = s.clock := rfl
@[simp] theorem withPlay_power (s : State) (sp : Speaker) (q : Option Play) : (s.withPlay sp q).power = s.power := rfl
@[simp] theorem withPlay_port (s : State) (sp : Speaker) (q : Option Play) : (s.withPlay sp q).port = s.port := rfl
@[simp] theorem withPlay_settings (s : State) (sp : Speaker) (q : Option Play) : (s.withPlay sp q).settings = s.settings := rfl
@[simp] theorem withPlay_timers (s : State) (sp : Speaker) (q : Option Play) : (s.withPlay sp q).timers = s.timers := rfl
@[simp] theorem withPlay_pins (s : State) (sp : Speaker) (q : Option Play) : (s.withPlay sp q).pins = s.pins := rfl
@[simp] theorem withPlay_own (s : State) (sp : Speaker) (q : Option Play) : (s.withPlay sp q).own = s.own := rfl

/-! ### withQueue -/

@[simp] theorem withQueue_pending (s : State) (sp : Speaker) (q : List QueueEntry) : (s.withQueue sp q).pending = s.pending := rfl
@[simp] theorem withQueue_meas (s : State) (sp : Speaker) (q : List QueueEntry) : (s.withQueue sp q).meas = s.meas := rfl
@[simp] theorem withQueue_gauge (s : State) (sp : Speaker) (q : List QueueEntry) : (s.withQueue sp q).gauge = s.gauge := rfl
@[simp] theorem withQueue_fold (s : State) (sp : Speaker) (q : List QueueEntry) : (s.withQueue sp q).fold = s.fold := rfl
@[simp] theorem withQueue_store (s : State) (sp : Speaker) (q : List QueueEntry) : (s.withQueue sp q).store = s.store := rfl
@[simp] theorem withQueue_nv (s : State) (sp : Speaker) (q : List QueueEntry) : (s.withQueue sp q).nv = s.nv := rfl
@[simp] theorem withQueue_units (s : State) (sp : Speaker) (q : List QueueEntry) : (s.withQueue sp q).units = s.units := rfl
@[simp] theorem withQueue_warn (s : State) (sp : Speaker) (q : List QueueEntry) : (s.withQueue sp q).warn = s.warn := rfl
@[simp] theorem withQueue_chime (s : State) (sp : Speaker) (q : List QueueEntry) : (s.withQueue sp q).chime = s.chime.setSpeaker sp { s.chime.speaker sp with queue := q } := rfl
@[simp] theorem withQueue_service (s : State) (sp : Speaker) (q : List QueueEntry) : (s.withQueue sp q).service = s.service := rfl
@[simp] theorem withQueue_clock (s : State) (sp : Speaker) (q : List QueueEntry) : (s.withQueue sp q).clock = s.clock := rfl
@[simp] theorem withQueue_power (s : State) (sp : Speaker) (q : List QueueEntry) : (s.withQueue sp q).power = s.power := rfl
@[simp] theorem withQueue_port (s : State) (sp : Speaker) (q : List QueueEntry) : (s.withQueue sp q).port = s.port := rfl
@[simp] theorem withQueue_settings (s : State) (sp : Speaker) (q : List QueueEntry) : (s.withQueue sp q).settings = s.settings := rfl
@[simp] theorem withQueue_timers (s : State) (sp : Speaker) (q : List QueueEntry) : (s.withQueue sp q).timers = s.timers := rfl
@[simp] theorem withQueue_pins (s : State) (sp : Speaker) (q : List QueueEntry) : (s.withQueue sp q).pins = s.pins := rfl
@[simp] theorem withQueue_own (s : State) (sp : Speaker) (q : List QueueEntry) : (s.withQueue sp q).own = s.own := rfl

/-! ### withPower -/

@[simp] theorem withPower_pending (s : State) (f : PowerUnit → PowerUnit) : (s.withPower f).pending = s.pending := rfl
@[simp] theorem withPower_meas (s : State) (f : PowerUnit → PowerUnit) : (s.withPower f).meas = s.meas := rfl
@[simp] theorem withPower_gauge (s : State) (f : PowerUnit → PowerUnit) : (s.withPower f).gauge = s.gauge := rfl
@[simp] theorem withPower_fold (s : State) (f : PowerUnit → PowerUnit) : (s.withPower f).fold = s.fold := rfl
@[simp] theorem withPower_store (s : State) (f : PowerUnit → PowerUnit) : (s.withPower f).store = s.store := rfl
@[simp] theorem withPower_nv (s : State) (f : PowerUnit → PowerUnit) : (s.withPower f).nv = s.nv := rfl
@[simp] theorem withPower_units (s : State) (f : PowerUnit → PowerUnit) : (s.withPower f).units = s.units := rfl
@[simp] theorem withPower_warn (s : State) (f : PowerUnit → PowerUnit) : (s.withPower f).warn = s.warn := rfl
@[simp] theorem withPower_chime (s : State) (f : PowerUnit → PowerUnit) : (s.withPower f).chime = s.chime := rfl
@[simp] theorem withPower_service (s : State) (f : PowerUnit → PowerUnit) : (s.withPower f).service = s.service := rfl
@[simp] theorem withPower_clock (s : State) (f : PowerUnit → PowerUnit) : (s.withPower f).clock = s.clock := rfl
@[simp] theorem withPower_power (s : State) (f : PowerUnit → PowerUnit) : (s.withPower f).power = f s.power := rfl
@[simp] theorem withPower_port (s : State) (f : PowerUnit → PowerUnit) : (s.withPower f).port = s.port := rfl
@[simp] theorem withPower_settings (s : State) (f : PowerUnit → PowerUnit) : (s.withPower f).settings = s.settings := rfl
@[simp] theorem withPower_timers (s : State) (f : PowerUnit → PowerUnit) : (s.withPower f).timers = s.timers := rfl
@[simp] theorem withPower_pins (s : State) (f : PowerUnit → PowerUnit) : (s.withPower f).pins = s.pins := rfl
@[simp] theorem withPower_own (s : State) (f : PowerUnit → PowerUnit) : (s.withPower f).own = s.own := rfl

/-! ### withStore -/

@[simp] theorem withStore_pending (s : State) (f : RecordStore → RecordStore) : (s.withStore f).pending = s.pending := rfl
@[simp] theorem withStore_meas (s : State) (f : RecordStore → RecordStore) : (s.withStore f).meas = s.meas := rfl
@[simp] theorem withStore_gauge (s : State) (f : RecordStore → RecordStore) : (s.withStore f).gauge = s.gauge := rfl
@[simp] theorem withStore_fold (s : State) (f : RecordStore → RecordStore) : (s.withStore f).fold = s.fold := rfl
@[simp] theorem withStore_store (s : State) (f : RecordStore → RecordStore) : (s.withStore f).store = f s.store := rfl
@[simp] theorem withStore_nv (s : State) (f : RecordStore → RecordStore) : (s.withStore f).nv = s.nv := rfl
@[simp] theorem withStore_units (s : State) (f : RecordStore → RecordStore) : (s.withStore f).units = s.units := rfl
@[simp] theorem withStore_warn (s : State) (f : RecordStore → RecordStore) : (s.withStore f).warn = s.warn := rfl
@[simp] theorem withStore_chime (s : State) (f : RecordStore → RecordStore) : (s.withStore f).chime = s.chime := rfl
@[simp] theorem withStore_service (s : State) (f : RecordStore → RecordStore) : (s.withStore f).service = s.service := rfl
@[simp] theorem withStore_clock (s : State) (f : RecordStore → RecordStore) : (s.withStore f).clock = s.clock := rfl
@[simp] theorem withStore_power (s : State) (f : RecordStore → RecordStore) : (s.withStore f).power = s.power := rfl
@[simp] theorem withStore_port (s : State) (f : RecordStore → RecordStore) : (s.withStore f).port = s.port := rfl
@[simp] theorem withStore_settings (s : State) (f : RecordStore → RecordStore) : (s.withStore f).settings = s.settings := rfl
@[simp] theorem withStore_timers (s : State) (f : RecordStore → RecordStore) : (s.withStore f).timers = s.timers := rfl
@[simp] theorem withStore_pins (s : State) (f : RecordStore → RecordStore) : (s.withStore f).pins = s.pins := rfl
@[simp] theorem withStore_own (s : State) (f : RecordStore → RecordStore) : (s.withStore f).own = s.own := rfl

/-! ### withFold -/

@[simp] theorem withFold_pending (s : State) (f : FoldEngine → FoldEngine) : (s.withFold f).pending = s.pending := rfl
@[simp] theorem withFold_meas (s : State) (f : FoldEngine → FoldEngine) : (s.withFold f).meas = s.meas := rfl
@[simp] theorem withFold_gauge (s : State) (f : FoldEngine → FoldEngine) : (s.withFold f).gauge = s.gauge := rfl
@[simp] theorem withFold_fold (s : State) (f : FoldEngine → FoldEngine) : (s.withFold f).fold = (f s.fold).seal := rfl
@[simp] theorem withFold_store (s : State) (f : FoldEngine → FoldEngine) : (s.withFold f).store = s.store := rfl
@[simp] theorem withFold_nv (s : State) (f : FoldEngine → FoldEngine) : (s.withFold f).nv = s.nv := rfl
@[simp] theorem withFold_units (s : State) (f : FoldEngine → FoldEngine) : (s.withFold f).units = s.units := rfl
@[simp] theorem withFold_warn (s : State) (f : FoldEngine → FoldEngine) : (s.withFold f).warn = s.warn := rfl
@[simp] theorem withFold_chime (s : State) (f : FoldEngine → FoldEngine) : (s.withFold f).chime = s.chime := rfl
@[simp] theorem withFold_service (s : State) (f : FoldEngine → FoldEngine) : (s.withFold f).service = s.service := rfl
@[simp] theorem withFold_clock (s : State) (f : FoldEngine → FoldEngine) : (s.withFold f).clock = s.clock := rfl
@[simp] theorem withFold_power (s : State) (f : FoldEngine → FoldEngine) : (s.withFold f).power = s.power := rfl
@[simp] theorem withFold_port (s : State) (f : FoldEngine → FoldEngine) : (s.withFold f).port = s.port := rfl
@[simp] theorem withFold_settings (s : State) (f : FoldEngine → FoldEngine) : (s.withFold f).settings = s.settings := rfl
@[simp] theorem withFold_timers (s : State) (f : FoldEngine → FoldEngine) : (s.withFold f).timers = s.timers := rfl
@[simp] theorem withFold_pins (s : State) (f : FoldEngine → FoldEngine) : (s.withFold f).pins = s.pins := rfl
@[simp] theorem withFold_own (s : State) (f : FoldEngine → FoldEngine) : (s.withFold f).own = s.own := rfl

/-! ### withFoldBare -/

@[simp] theorem withFoldBare_pending (s : State) (f : FoldEngine → FoldEngine) : (s.withFoldBare f).pending = s.pending := rfl
@[simp] theorem withFoldBare_meas (s : State) (f : FoldEngine → FoldEngine) : (s.withFoldBare f).meas = s.meas := rfl
@[simp] theorem withFoldBare_gauge (s : State) (f : FoldEngine → FoldEngine) : (s.withFoldBare f).gauge = s.gauge := rfl
@[simp] theorem withFoldBare_fold (s : State) (f : FoldEngine → FoldEngine) : (s.withFoldBare f).fold = f s.fold := rfl
@[simp] theorem withFoldBare_store (s : State) (f : FoldEngine → FoldEngine) : (s.withFoldBare f).store = s.store := rfl
@[simp] theorem withFoldBare_nv (s : State) (f : FoldEngine → FoldEngine) : (s.withFoldBare f).nv = s.nv := rfl
@[simp] theorem withFoldBare_units (s : State) (f : FoldEngine → FoldEngine) : (s.withFoldBare f).units = s.units := rfl
@[simp] theorem withFoldBare_warn (s : State) (f : FoldEngine → FoldEngine) : (s.withFoldBare f).warn = s.warn := rfl
@[simp] theorem withFoldBare_chime (s : State) (f : FoldEngine → FoldEngine) : (s.withFoldBare f).chime = s.chime := rfl
@[simp] theorem withFoldBare_service (s : State) (f : FoldEngine → FoldEngine) : (s.withFoldBare f).service = s.service := rfl
@[simp] theorem withFoldBare_clock (s : State) (f : FoldEngine → FoldEngine) : (s.withFoldBare f).clock = s.clock := rfl
@[simp] theorem withFoldBare_power (s : State) (f : FoldEngine → FoldEngine) : (s.withFoldBare f).power = s.power := rfl
@[simp] theorem withFoldBare_port (s : State) (f : FoldEngine → FoldEngine) : (s.withFoldBare f).port = s.port := rfl
@[simp] theorem withFoldBare_settings (s : State) (f : FoldEngine → FoldEngine) : (s.withFoldBare f).settings = s.settings := rfl
@[simp] theorem withFoldBare_timers (s : State) (f : FoldEngine → FoldEngine) : (s.withFoldBare f).timers = s.timers := rfl
@[simp] theorem withFoldBare_pins (s : State) (f : FoldEngine → FoldEngine) : (s.withFoldBare f).pins = s.pins := rfl
@[simp] theorem withFoldBare_own (s : State) (f : FoldEngine → FoldEngine) : (s.withFoldBare f).own = s.own := rfl

/-! ### withClock -/

@[simp] theorem withClock_pending (s : State) (f : ClockUnit → ClockUnit) : (s.withClock f).pending = s.pending := rfl
@[simp] theorem withClock_meas (s : State) (f : ClockUnit → ClockUnit) : (s.withClock f).meas = s.meas := rfl
@[simp] theorem withClock_gauge (s : State) (f : ClockUnit → ClockUnit) : (s.withClock f).gauge = s.gauge := rfl
@[simp] theorem withClock_fold (s : State) (f : ClockUnit → ClockUnit) : (s.withClock f).fold = s.fold := rfl
@[simp] theorem withClock_store (s : State) (f : ClockUnit → ClockUnit) : (s.withClock f).store = s.store := rfl
@[simp] theorem withClock_nv (s : State) (f : ClockUnit → ClockUnit) : (s.withClock f).nv = s.nv := rfl
@[simp] theorem withClock_units (s : State) (f : ClockUnit → ClockUnit) : (s.withClock f).units = s.units := rfl
@[simp] theorem withClock_warn (s : State) (f : ClockUnit → ClockUnit) : (s.withClock f).warn = s.warn := rfl
@[simp] theorem withClock_chime (s : State) (f : ClockUnit → ClockUnit) : (s.withClock f).chime = s.chime := rfl
@[simp] theorem withClock_service (s : State) (f : ClockUnit → ClockUnit) : (s.withClock f).service = s.service := rfl
@[simp] theorem withClock_clock (s : State) (f : ClockUnit → ClockUnit) : (s.withClock f).clock = f s.clock := rfl
@[simp] theorem withClock_power (s : State) (f : ClockUnit → ClockUnit) : (s.withClock f).power = s.power := rfl
@[simp] theorem withClock_port (s : State) (f : ClockUnit → ClockUnit) : (s.withClock f).port = s.port := rfl
@[simp] theorem withClock_settings (s : State) (f : ClockUnit → ClockUnit) : (s.withClock f).settings = s.settings := rfl
@[simp] theorem withClock_timers (s : State) (f : ClockUnit → ClockUnit) : (s.withClock f).timers = s.timers := rfl
@[simp] theorem withClock_pins (s : State) (f : ClockUnit → ClockUnit) : (s.withClock f).pins = s.pins := rfl
@[simp] theorem withClock_own (s : State) (f : ClockUnit → ClockUnit) : (s.withClock f).own = s.own := rfl

/-! ### withGauge -/

@[simp] theorem withGauge_pending (s : State) (f : GaugeUnit → GaugeUnit) : (s.withGauge f).pending = s.pending := rfl
@[simp] theorem withGauge_meas (s : State) (f : GaugeUnit → GaugeUnit) : (s.withGauge f).meas = s.meas := rfl
@[simp] theorem withGauge_gauge (s : State) (f : GaugeUnit → GaugeUnit) : (s.withGauge f).gauge = f s.gauge := rfl
@[simp] theorem withGauge_fold (s : State) (f : GaugeUnit → GaugeUnit) : (s.withGauge f).fold = s.fold := rfl
@[simp] theorem withGauge_store (s : State) (f : GaugeUnit → GaugeUnit) : (s.withGauge f).store = s.store := rfl
@[simp] theorem withGauge_nv (s : State) (f : GaugeUnit → GaugeUnit) : (s.withGauge f).nv = s.nv := rfl
@[simp] theorem withGauge_units (s : State) (f : GaugeUnit → GaugeUnit) : (s.withGauge f).units = s.units := rfl
@[simp] theorem withGauge_warn (s : State) (f : GaugeUnit → GaugeUnit) : (s.withGauge f).warn = s.warn := rfl
@[simp] theorem withGauge_chime (s : State) (f : GaugeUnit → GaugeUnit) : (s.withGauge f).chime = s.chime := rfl
@[simp] theorem withGauge_service (s : State) (f : GaugeUnit → GaugeUnit) : (s.withGauge f).service = s.service := rfl
@[simp] theorem withGauge_clock (s : State) (f : GaugeUnit → GaugeUnit) : (s.withGauge f).clock = s.clock := rfl
@[simp] theorem withGauge_power (s : State) (f : GaugeUnit → GaugeUnit) : (s.withGauge f).power = s.power := rfl
@[simp] theorem withGauge_port (s : State) (f : GaugeUnit → GaugeUnit) : (s.withGauge f).port = s.port := rfl
@[simp] theorem withGauge_settings (s : State) (f : GaugeUnit → GaugeUnit) : (s.withGauge f).settings = s.settings := rfl
@[simp] theorem withGauge_timers (s : State) (f : GaugeUnit → GaugeUnit) : (s.withGauge f).timers = s.timers := rfl
@[simp] theorem withGauge_pins (s : State) (f : GaugeUnit → GaugeUnit) : (s.withGauge f).pins = s.pins := rfl
@[simp] theorem withGauge_own (s : State) (f : GaugeUnit → GaugeUnit) : (s.withGauge f).own = s.own := rfl

/-! ### withGauges -/

@[simp] theorem withGauges_pending (s : State) (f : Gauge → Gauge) : (s.withGauges f).pending = s.pending := rfl
@[simp] theorem withGauges_meas (s : State) (f : Gauge → Gauge) : (s.withGauges f).meas = s.meas := rfl
@[simp] theorem withGauges_gauge (s : State) (f : Gauge → Gauge) : (s.withGauges f).gauge = { s.gauge with gauges := mapGauges f s.gauge.gauges } := rfl
@[simp] theorem withGauges_fold (s : State) (f : Gauge → Gauge) : (s.withGauges f).fold = s.fold := rfl
@[simp] theorem withGauges_store (s : State) (f : Gauge → Gauge) : (s.withGauges f).store = s.store := rfl
@[simp] theorem withGauges_nv (s : State) (f : Gauge → Gauge) : (s.withGauges f).nv = s.nv := rfl
@[simp] theorem withGauges_units (s : State) (f : Gauge → Gauge) : (s.withGauges f).units = s.units := rfl
@[simp] theorem withGauges_warn (s : State) (f : Gauge → Gauge) : (s.withGauges f).warn = s.warn := rfl
@[simp] theorem withGauges_chime (s : State) (f : Gauge → Gauge) : (s.withGauges f).chime = s.chime := rfl
@[simp] theorem withGauges_service (s : State) (f : Gauge → Gauge) : (s.withGauges f).service = s.service := rfl
@[simp] theorem withGauges_clock (s : State) (f : Gauge → Gauge) : (s.withGauges f).clock = s.clock := rfl
@[simp] theorem withGauges_power (s : State) (f : Gauge → Gauge) : (s.withGauges f).power = s.power := rfl
@[simp] theorem withGauges_port (s : State) (f : Gauge → Gauge) : (s.withGauges f).port = s.port := rfl
@[simp] theorem withGauges_settings (s : State) (f : Gauge → Gauge) : (s.withGauges f).settings = s.settings := rfl
@[simp] theorem withGauges_timers (s : State) (f : Gauge → Gauge) : (s.withGauges f).timers = s.timers := rfl
@[simp] theorem withGauges_pins (s : State) (f : Gauge → Gauge) : (s.withGauges f).pins = s.pins := rfl
@[simp] theorem withGauges_own (s : State) (f : Gauge → Gauge) : (s.withGauges f).own = s.own := rfl

/-! ### withWork -/

@[simp] theorem withWork_pending (s : State) (f : Settings → Settings) : (s.withWork f).pending = s.pending := rfl
@[simp] theorem withWork_meas (s : State) (f : Settings → Settings) : (s.withWork f).meas = s.meas := rfl
@[simp] theorem withWork_gauge (s : State) (f : Settings → Settings) : (s.withWork f).gauge = s.gauge := rfl
@[simp] theorem withWork_fold (s : State) (f : Settings → Settings) : (s.withWork f).fold = s.fold := rfl
@[simp] theorem withWork_store (s : State) (f : Settings → Settings) : (s.withWork f).store = s.store := rfl
@[simp] theorem withWork_nv (s : State) (f : Settings → Settings) : (s.withWork f).nv = s.nv := rfl
@[simp] theorem withWork_units (s : State) (f : Settings → Settings) : (s.withWork f).units = s.units := rfl
@[simp] theorem withWork_warn (s : State) (f : Settings → Settings) : (s.withWork f).warn = s.warn := rfl
@[simp] theorem withWork_chime (s : State) (f : Settings → Settings) : (s.withWork f).chime = s.chime := rfl
@[simp] theorem withWork_service (s : State) (f : Settings → Settings) : (s.withWork f).service = s.service := rfl
@[simp] theorem withWork_clock (s : State) (f : Settings → Settings) : (s.withWork f).clock = s.clock := rfl
@[simp] theorem withWork_power (s : State) (f : Settings → Settings) : (s.withWork f).power = s.power := rfl
@[simp] theorem withWork_port (s : State) (f : Settings → Settings) : (s.withWork f).port = s.port := rfl
@[simp] theorem withWork_settings (s : State) (f : Settings → Settings) : (s.withWork f).settings = { s.settings with work := f s.settings.work, check := settingsCheck (f s.settings.work) } := rfl
@[simp] theorem withWork_timers (s : State) (f : Settings → Settings) : (s.withWork f).timers = s.timers := rfl
@[simp] theorem withWork_pins (s : State) (f : Settings → Settings) : (s.withWork f).pins = s.pins := rfl
@[simp] theorem withWork_own (s : State) (f : Settings → Settings) : (s.withWork f).own = s.own := rfl

/-! ### withService -/

@[simp] theorem withService_pending (s : State) (f : ServiceLine → ServiceLine) : (s.withService f).pending = s.pending := rfl
@[simp] theorem withService_meas (s : State) (f : ServiceLine → ServiceLine) : (s.withService f).meas = s.meas := rfl
@[simp] theorem withService_gauge (s : State) (f : ServiceLine → ServiceLine) : (s.withService f).gauge = s.gauge := rfl
@[simp] theorem withService_fold (s : State) (f : ServiceLine → ServiceLine) : (s.withService f).fold = s.fold := rfl
@[simp] theorem withService_store (s : State) (f : ServiceLine → ServiceLine) : (s.withService f).store = s.store := rfl
@[simp] theorem withService_nv (s : State) (f : ServiceLine → ServiceLine) : (s.withService f).nv = s.nv := rfl
@[simp] theorem withService_units (s : State) (f : ServiceLine → ServiceLine) : (s.withService f).units = s.units := rfl
@[simp] theorem withService_warn (s : State) (f : ServiceLine → ServiceLine) : (s.withService f).warn = s.warn := rfl
@[simp] theorem withService_chime (s : State) (f : ServiceLine → ServiceLine) : (s.withService f).chime = s.chime := rfl
@[simp] theorem withService_service (s : State) (f : ServiceLine → ServiceLine) : (s.withService f).service = s.service := rfl
@[simp] theorem withService_clock (s : State) (f : ServiceLine → ServiceLine) : (s.withService f).clock = s.clock := rfl
@[simp] theorem withService_power (s : State) (f : ServiceLine → ServiceLine) : (s.withService f).power = s.power := rfl
@[simp] theorem withService_port (s : State) (f : ServiceLine → ServiceLine) : (s.withService f).port = { s.port with service := f s.port.service } := rfl
@[simp] theorem withService_settings (s : State) (f : ServiceLine → ServiceLine) : (s.withService f).settings = s.settings := rfl
@[simp] theorem withService_timers (s : State) (f : ServiceLine → ServiceLine) : (s.withService f).timers = s.timers := rfl
@[simp] theorem withService_pins (s : State) (f : ServiceLine → ServiceLine) : (s.withService f).pins = s.pins := rfl
@[simp] theorem withService_own (s : State) (f : ServiceLine → ServiceLine) : (s.withService f).own = s.own := rfl

/-! ### setLink -/

@[simp] theorem setLink_pending (s : State) (l : Link) (x : LinkState) : (s.setLink l x).pending = s.pending := by cases l <;> rfl
@[simp] theorem setLink_meas (s : State) (l : Link) (x : LinkState) : (s.setLink l x).meas = s.meas := by cases l <;> rfl
@[simp] theorem setLink_gauge (s : State) (l : Link) (x : LinkState) : (s.setLink l x).gauge = s.gauge := by cases l <;> rfl
@[simp] theorem setLink_fold (s : State) (l : Link) (x : LinkState) : (s.setLink l x).fold = s.fold := by cases l <;> rfl
@[simp] theorem setLink_store (s : State) (l : Link) (x : LinkState) : (s.setLink l x).store = s.store := by cases l <;> rfl
@[simp] theorem setLink_nv (s : State) (l : Link) (x : LinkState) : (s.setLink l x).nv = s.nv := by cases l <;> rfl
@[simp] theorem setLink_units (s : State) (l : Link) (x : LinkState) : (s.setLink l x).units = s.units := by cases l <;> rfl
@[simp] theorem setLink_warn (s : State) (l : Link) (x : LinkState) : (s.setLink l x).warn = s.warn := by cases l <;> rfl
@[simp] theorem setLink_chime (s : State) (l : Link) (x : LinkState) : (s.setLink l x).chime = s.chime := by cases l <;> rfl
@[simp] theorem setLink_service (s : State) (l : Link) (x : LinkState) : (s.setLink l x).service = s.service := by cases l <;> rfl
@[simp] theorem setLink_clock (s : State) (l : Link) (x : LinkState) : (s.setLink l x).clock = s.clock := by cases l <;> rfl
@[simp] theorem setLink_power (s : State) (l : Link) (x : LinkState) : (s.setLink l x).power = s.power := by cases l <;> rfl
@[simp] theorem setLink_settings (s : State) (l : Link) (x : LinkState) : (s.setLink l x).settings = s.settings := by cases l <;> rfl
@[simp] theorem setLink_timers (s : State) (l : Link) (x : LinkState) : (s.setLink l x).timers = s.timers := by cases l <;> rfl
@[simp] theorem setLink_pins (s : State) (l : Link) (x : LinkState) : (s.setLink l x).pins = s.pins := by cases l <;> rfl
@[simp] theorem setLink_own (s : State) (l : Link) (x : LinkState) : (s.setLink l x).own = s.own := by cases l <;> rfl
@[simp] theorem setLink_port_service (s : State) (l : Link) (x : LinkState) :
    (s.setLink l x).port.service = s.port.service := by cases l <;> rfl
@[simp] theorem setLink_link (s : State) (l : Link) (x : LinkState) : (s.setLink l x).link l = x := by cases l <;> rfl
@[simp] theorem setLink_front_port (s : State) (x : LinkState) :
    (s.setLink .front x).port = { s.port with front := x } := rfl
@[simp] theorem setLink_rear_port (s : State) (x : LinkState) :
    (s.setLink .rear x).port = { s.port with rear := x } := rfl

end Sys2Proof.Machine
end

