-- ==== Sys2Proof/Laws/Frames.lean ====
section
/-! SUPPORT. The frames of the shared operations: for each operation, every field of the state that it leaves as it was. -/

namespace Sys2Proof.Machine

/-! ### notify -/

@[simp] theorem notify_pending (l : Link) (n : Notice) (s : State) : (notify l n s).pending = s.pending := by simp [notify]
@[simp] theorem notify_meas (l : Link) (n : Notice) (s : State) : (notify l n s).meas = s.meas := by simp [notify]
@[simp] theorem notify_gauge (l : Link) (n : Notice) (s : State) : (notify l n s).gauge = s.gauge := by simp [notify]
@[simp] theorem notify_fold (l : Link) (n : Notice) (s : State) : (notify l n s).fold = s.fold := by simp [notify]
@[simp] theorem notify_store (l : Link) (n : Notice) (s : State) : (notify l n s).store = s.store := by simp [notify]
@[simp] theorem notify_nv (l : Link) (n : Notice) (s : State) : (notify l n s).nv = s.nv := by simp [notify]
@[simp] theorem notify_units (l : Link) (n : Notice) (s : State) : (notify l n s).units = s.units := by simp [notify]
@[simp] theorem notify_warn (l : Link) (n : Notice) (s : State) : (notify l n s).warn = s.warn := by simp [notify]
@[simp] theorem notify_chime (l : Link) (n : Notice) (s : State) : (notify l n s).chime = s.chime := by simp [notify]
@[simp] theorem notify_service (l : Link) (n : Notice) (s : State) : (notify l n s).service = s.service := by simp [notify]
@[simp] theorem notify_clock (l : Link) (n : Notice) (s : State) : (notify l n s).clock = s.clock := by simp [notify]
@[simp] theorem notify_power (l : Link) (n : Notice) (s : State) : (notify l n s).power = s.power := by simp [notify]
@[simp] theorem notify_settings (l : Link) (n : Notice) (s : State) : (notify l n s).settings = s.settings := by simp [notify]
@[simp] theorem notify_timers (l : Link) (n : Notice) (s : State) : (notify l n s).timers = s.timers := by simp [notify]
@[simp] theorem notify_pins (l : Link) (n : Notice) (s : State) : (notify l n s).pins = s.pins := by simp [notify]
@[simp] theorem notify_own (l : Link) (n : Notice) (s : State) : (notify l n s).own = s.own := by simp [notify]

/-! ### notifyBoth -/

@[simp] theorem notifyBoth_pending (n : Notice) (s : State) : (notifyBoth n s).pending = s.pending := rfl
@[simp] theorem notifyBoth_meas (n : Notice) (s : State) : (notifyBoth n s).meas = s.meas := rfl
@[simp] theorem notifyBoth_gauge (n : Notice) (s : State) : (notifyBoth n s).gauge = s.gauge := rfl
@[simp] theorem notifyBoth_fold (n : Notice) (s : State) : (notifyBoth n s).fold = s.fold := rfl
@[simp] theorem notifyBoth_store (n : Notice) (s : State) : (notifyBoth n s).store = s.store := rfl
@[simp] theorem notifyBoth_nv (n : Notice) (s : State) : (notifyBoth n s).nv = s.nv := rfl
@[simp] theorem notifyBoth_units (n : Notice) (s : State) : (notifyBoth n s).units = s.units := rfl
@[simp] theorem notifyBoth_warn (n : Notice) (s : State) : (notifyBoth n s).warn = s.warn := rfl
@[simp] theorem notifyBoth_chime (n : Notice) (s : State) : (notifyBoth n s).chime = s.chime := rfl
@[simp] theorem notifyBoth_service (n : Notice) (s : State) : (notifyBoth n s).service = s.service := rfl
@[simp] theorem notifyBoth_clock (n : Notice) (s : State) : (notifyBoth n s).clock = s.clock := rfl
@[simp] theorem notifyBoth_power (n : Notice) (s : State) : (notifyBoth n s).power = s.power := rfl
@[simp] theorem notifyBoth_settings (n : Notice) (s : State) : (notifyBoth n s).settings = s.settings := rfl
@[simp] theorem notifyBoth_timers (n : Notice) (s : State) : (notifyBoth n s).timers = s.timers := rfl
@[simp] theorem notifyBoth_pins (n : Notice) (s : State) : (notifyBoth n s).pins = s.pins := rfl
@[simp] theorem notifyBoth_own (n : Notice) (s : State) : (notifyBoth n s).own = s.own := rfl

/-! ### notifyBothIf -/

@[simp] theorem notifyBothIf_pending (b : Bool) (n : Notice) (s : State) : (notifyBothIf b n s).pending = s.pending := by unfold notifyBothIf; split <;> simp
@[simp] theorem notifyBothIf_meas (b : Bool) (n : Notice) (s : State) : (notifyBothIf b n s).meas = s.meas := by unfold notifyBothIf; split <;> simp
@[simp] theorem notifyBothIf_gauge (b : Bool) (n : Notice) (s : State) : (notifyBothIf b n s).gauge = s.gauge := by unfold notifyBothIf; split <;> simp
@[simp] theorem notifyBothIf_fold (b : Bool) (n : Notice) (s : State) : (notifyBothIf b n s).fold = s.fold := by unfold notifyBothIf; split <;> simp
@[simp] theorem notifyBothIf_store (b : Bool) (n : Notice) (s : State) : (notifyBothIf b n s).store = s.store := by unfold notifyBothIf; split <;> simp
@[simp] theorem notifyBothIf_nv (b : Bool) (n : Notice) (s : State) : (notifyBothIf b n s).nv = s.nv := by unfold notifyBothIf; split <;> simp
@[simp] theorem notifyBothIf_units (b : Bool) (n : Notice) (s : State) : (notifyBothIf b n s).units = s.units := by unfold notifyBothIf; split <;> simp
@[simp] theorem notifyBothIf_warn (b : Bool) (n : Notice) (s : State) : (notifyBothIf b n s).warn = s.warn := by unfold notifyBothIf; split <;> simp
@[simp] theorem notifyBothIf_chime (b : Bool) (n : Notice) (s : State) : (notifyBothIf b n s).chime = s.chime := by unfold notifyBothIf; split <;> simp
@[simp] theorem notifyBothIf_service (b : Bool) (n : Notice) (s : State) : (notifyBothIf b n s).service = s.service := by unfold notifyBothIf; split <;> simp
@[simp] theorem notifyBothIf_clock (b : Bool) (n : Notice) (s : State) : (notifyBothIf b n s).clock = s.clock := by unfold notifyBothIf; split <;> simp
@[simp] theorem notifyBothIf_power (b : Bool) (n : Notice) (s : State) : (notifyBothIf b n s).power = s.power := by unfold notifyBothIf; split <;> simp
@[simp] theorem notifyBothIf_settings (b : Bool) (n : Notice) (s : State) : (notifyBothIf b n s).settings = s.settings := by unfold notifyBothIf; split <;> simp
@[simp] theorem notifyBothIf_timers (b : Bool) (n : Notice) (s : State) : (notifyBothIf b n s).timers = s.timers := by unfold notifyBothIf; split <;> simp
@[simp] theorem notifyBothIf_pins (b : Bool) (n : Notice) (s : State) : (notifyBothIf b n s).pins = s.pins := by unfold notifyBothIf; split <;> simp
@[simp] theorem notifyBothIf_own (b : Bool) (n : Notice) (s : State) : (notifyBothIf b n s).own = s.own := by unfold notifyBothIf; split <;> simp

/-! ### serviceReply -/

@[simp] theorem serviceReply_pending (r : Reply) (s : State) : (serviceReply r s).pending = s.pending := by unfold serviceReply; split <;> simp
@[simp] theorem serviceReply_meas (r : Reply) (s : State) : (serviceReply r s).meas = s.meas := by unfold serviceReply; split <;> simp
@[simp] theorem serviceReply_gauge (r : Reply) (s : State) : (serviceReply r s).gauge = s.gauge := by unfold serviceReply; split <;> simp
@[simp] theorem serviceReply_fold (r : Reply) (s : State) : (serviceReply r s).fold = s.fold := by unfold serviceReply; split <;> simp
@[simp] theorem serviceReply_store (r : Reply) (s : State) : (serviceReply r s).store = s.store := by unfold serviceReply; split <;> simp
@[simp] theorem serviceReply_nv (r : Reply) (s : State) : (serviceReply r s).nv = s.nv := by unfold serviceReply; split <;> simp
@[simp] theorem serviceReply_units (r : Reply) (s : State) : (serviceReply r s).units = s.units := by unfold serviceReply; split <;> simp
@[simp] theorem serviceReply_warn (r : Reply) (s : State) : (serviceReply r s).warn = s.warn := by unfold serviceReply; split <;> simp
@[simp] theorem serviceReply_chime (r : Reply) (s : State) : (serviceReply r s).chime = s.chime := by unfold serviceReply; split <;> simp
@[simp] theorem serviceReply_service (r : Reply) (s : State) : (serviceReply r s).service = s.service := by unfold serviceReply; split <;> simp
@[simp] theorem serviceReply_clock (r : Reply) (s : State) : (serviceReply r s).clock = s.clock := by unfold serviceReply; split <;> simp
@[simp] theorem serviceReply_power (r : Reply) (s : State) : (serviceReply r s).power = s.power := by unfold serviceReply; split <;> simp
@[simp] theorem serviceReply_settings (r : Reply) (s : State) : (serviceReply r s).settings = s.settings := by unfold serviceReply; split <;> simp
@[simp] theorem serviceReply_timers (r : Reply) (s : State) : (serviceReply r s).timers = s.timers := by unfold serviceReply; split <;> simp
@[simp] theorem serviceReply_pins (r : Reply) (s : State) : (serviceReply r s).pins = s.pins := by unfold serviceReply; split <;> simp
@[simp] theorem serviceReply_own (r : Reply) (s : State) : (serviceReply r s).own = s.own := by unfold serviceReply; split <;> simp

/-! ### deliver -/

@[simp] theorem deliver_pending (p : Port) (r : Reply) (s : State) : (deliver p r s).pending = s.pending := by unfold deliver; split <;> simp
@[simp] theorem deliver_meas (p : Port) (r : Reply) (s : State) : (deliver p r s).meas = s.meas := by unfold deliver; split <;> simp
@[simp] theorem deliver_gauge (p : Port) (r : Reply) (s : State) : (deliver p r s).gauge = s.gauge := by unfold deliver; split <;> simp
@[simp] theorem deliver_fold (p : Port) (r : Reply) (s : State) : (deliver p r s).fold = s.fold := by unfold deliver; split <;> simp
@[simp] theorem deliver_store (p : Port) (r : Reply) (s : State) : (deliver p r s).store = s.store := by unfold deliver; split <;> simp
@[simp] theorem deliver_nv (p : Port) (r : Reply) (s : State) : (deliver p r s).nv = s.nv := by unfold deliver; split <;> simp
@[simp] theorem deliver_units (p : Port) (r : Reply) (s : State) : (deliver p r s).units = s.units := by unfold deliver; split <;> simp
@[simp] theorem deliver_warn (p : Port) (r : Reply) (s : State) : (deliver p r s).warn = s.warn := by unfold deliver; split <;> simp
@[simp] theorem deliver_chime (p : Port) (r : Reply) (s : State) : (deliver p r s).chime = s.chime := by unfold deliver; split <;> simp
@[simp] theorem deliver_service (p : Port) (r : Reply) (s : State) : (deliver p r s).service = s.service := by unfold deliver; split <;> simp
@[simp] theorem deliver_clock (p : Port) (r : Reply) (s : State) : (deliver p r s).clock = s.clock := by unfold deliver; split <;> simp
@[simp] theorem deliver_power (p : Port) (r : Reply) (s : State) : (deliver p r s).power = s.power := by unfold deliver; split <;> simp
@[simp] theorem deliver_settings (p : Port) (r : Reply) (s : State) : (deliver p r s).settings = s.settings := by unfold deliver; split <;> simp
@[simp] theorem deliver_timers (p : Port) (r : Reply) (s : State) : (deliver p r s).timers = s.timers := by unfold deliver; split <;> simp
@[simp] theorem deliver_pins (p : Port) (r : Reply) (s : State) : (deliver p r s).pins = s.pins := by unfold deliver; split <;> simp
@[simp] theorem deliver_own (p : Port) (r : Reply) (s : State) : (deliver p r s).own = s.own := by unfold deliver; split <;> simp

/-! ### holdRequest -/

@[simp] theorem holdRequest_pending (p : Port) (r : Request) (s : State) : (holdRequest p r s).pending = s.pending := by unfold holdRequest; split <;> simp
@[simp] theorem holdRequest_meas (p : Port) (r : Request) (s : State) : (holdRequest p r s).meas = s.meas := by unfold holdRequest; split <;> simp
@[simp] theorem holdRequest_gauge (p : Port) (r : Request) (s : State) : (holdRequest p r s).gauge = s.gauge := by unfold holdRequest; split <;> simp
@[simp] theorem holdRequest_fold (p : Port) (r : Request) (s : State) : (holdRequest p r s).fold = s.fold := by unfold holdRequest; split <;> simp
@[simp] theorem holdRequest_store (p : Port) (r : Request) (s : State) : (holdRequest p r s).store = s.store := by unfold holdRequest; split <;> simp
@[simp] theorem holdRequest_nv (p : Port) (r : Request) (s : State) : (holdRequest p r s).nv = s.nv := by unfold holdRequest; split <;> simp
@[simp] theorem holdRequest_units (p : Port) (r : Request) (s : State) : (holdRequest p r s).units = s.units := by unfold holdRequest; split <;> simp
@[simp] theorem holdRequest_warn (p : Port) (r : Request) (s : State) : (holdRequest p r s).warn = s.warn := by unfold holdRequest; split <;> simp
@[simp] theorem holdRequest_chime (p : Port) (r : Request) (s : State) : (holdRequest p r s).chime = s.chime := by unfold holdRequest; split <;> simp
@[simp] theorem holdRequest_service (p : Port) (r : Request) (s : State) : (holdRequest p r s).service = s.service := by unfold holdRequest; split <;> simp
@[simp] theorem holdRequest_clock (p : Port) (r : Request) (s : State) : (holdRequest p r s).clock = s.clock := by unfold holdRequest; split <;> simp
@[simp] theorem holdRequest_power (p : Port) (r : Request) (s : State) : (holdRequest p r s).power = s.power := by unfold holdRequest; split <;> simp
@[simp] theorem holdRequest_settings (p : Port) (r : Request) (s : State) : (holdRequest p r s).settings = s.settings := by unfold holdRequest; split <;> simp
@[simp] theorem holdRequest_timers (p : Port) (r : Request) (s : State) : (holdRequest p r s).timers = s.timers := by unfold holdRequest; split <;> simp
@[simp] theorem holdRequest_pins (p : Port) (r : Request) (s : State) : (holdRequest p r s).pins = s.pins := by unfold holdRequest; split <;> simp
@[simp] theorem holdRequest_own (p : Port) (r : Request) (s : State) : (holdRequest p r s).own = s.own := by unfold holdRequest; split <;> simp

/-! ### turnAway -/

@[simp] theorem turnAway_pending (p : Port) (s : State) : (turnAway p s).pending = s.pending := by unfold turnAway; split <;> simp
@[simp] theorem turnAway_meas (p : Port) (s : State) : (turnAway p s).meas = s.meas := by unfold turnAway; split <;> simp
@[simp] theorem turnAway_gauge (p : Port) (s : State) : (turnAway p s).gauge = s.gauge := by unfold turnAway; split <;> simp
@[simp] theorem turnAway_fold (p : Port) (s : State) : (turnAway p s).fold = s.fold := by unfold turnAway; split <;> simp
@[simp] theorem turnAway_store (p : Port) (s : State) : (turnAway p s).store = s.store := by unfold turnAway; split <;> simp
@[simp] theorem turnAway_nv (p : Port) (s : State) : (turnAway p s).nv = s.nv := by unfold turnAway; split <;> simp
@[simp] theorem turnAway_units (p : Port) (s : State) : (turnAway p s).units = s.units := by unfold turnAway; split <;> simp
@[simp] theorem turnAway_warn (p : Port) (s : State) : (turnAway p s).warn = s.warn := by unfold turnAway; split <;> simp
@[simp] theorem turnAway_chime (p : Port) (s : State) : (turnAway p s).chime = s.chime := by unfold turnAway; split <;> simp
@[simp] theorem turnAway_service (p : Port) (s : State) : (turnAway p s).service = s.service := by unfold turnAway; split <;> simp
@[simp] theorem turnAway_clock (p : Port) (s : State) : (turnAway p s).clock = s.clock := by unfold turnAway; split <;> simp
@[simp] theorem turnAway_power (p : Port) (s : State) : (turnAway p s).power = s.power := by unfold turnAway; split <;> simp
@[simp] theorem turnAway_settings (p : Port) (s : State) : (turnAway p s).settings = s.settings := by unfold turnAway; split <;> simp
@[simp] theorem turnAway_timers (p : Port) (s : State) : (turnAway p s).timers = s.timers := by unfold turnAway; split <;> simp
@[simp] theorem turnAway_pins (p : Port) (s : State) : (turnAway p s).pins = s.pins := by unfold turnAway; split <;> simp
@[simp] theorem turnAway_own (p : Port) (s : State) : (turnAway p s).own = s.own := by unfold turnAway; split <;> simp

/-! ### queueSlotWrite -/

@[simp] theorem queueSlotWrite_pending (s : State) : (queueSlotWrite s).pending = s.pending := rfl
@[simp] theorem queueSlotWrite_meas (s : State) : (queueSlotWrite s).meas = s.meas := rfl
@[simp] theorem queueSlotWrite_gauge (s : State) : (queueSlotWrite s).gauge = s.gauge := rfl
@[simp] theorem queueSlotWrite_fold (s : State) : (queueSlotWrite s).fold = s.fold := rfl
@[simp] theorem queueSlotWrite_store (s : State) : (queueSlotWrite s).store = s.store := rfl
@[simp] theorem queueSlotWrite_units (s : State) : (queueSlotWrite s).units = s.units := rfl
@[simp] theorem queueSlotWrite_warn (s : State) : (queueSlotWrite s).warn = s.warn := rfl
@[simp] theorem queueSlotWrite_chime (s : State) : (queueSlotWrite s).chime = s.chime := rfl
@[simp] theorem queueSlotWrite_service (s : State) : (queueSlotWrite s).service = s.service := rfl
@[simp] theorem queueSlotWrite_clock (s : State) : (queueSlotWrite s).clock = s.clock := rfl
@[simp] theorem queueSlotWrite_power (s : State) : (queueSlotWrite s).power = s.power := rfl
@[simp] theorem queueSlotWrite_port (s : State) : (queueSlotWrite s).port = s.port := rfl
@[simp] theorem queueSlotWrite_settings (s : State) : (queueSlotWrite s).settings = s.settings := rfl
@[simp] theorem queueSlotWrite_timers (s : State) : (queueSlotWrite s).timers = s.timers := rfl
@[simp] theorem queueSlotWrite_pins (s : State) : (queueSlotWrite s).pins = s.pins := rfl
@[simp] theorem queueSlotWrite_own (s : State) : (queueSlotWrite s).own = s.own := rfl

/-! ### raise -/

@[simp] theorem raise_pending (w : Fin 24) (add : Bool) (d : BitVec 8) (s : State) : (raise w add d s).pending = s.pending := rfl
@[simp] theorem raise_meas (w : Fin 24) (add : Bool) (d : BitVec 8) (s : State) : (raise w add d s).meas = s.meas := rfl
@[simp] theorem raise_gauge (w : Fin 24) (add : Bool) (d : BitVec 8) (s : State) : (raise w add d s).gauge = s.gauge := rfl
@[simp] theorem raise_fold (w : Fin 24) (add : Bool) (d : BitVec 8) (s : State) : (raise w add d s).fold = s.fold := rfl
@[simp] theorem raise_store (w : Fin 24) (add : Bool) (d : BitVec 8) (s : State) : (raise w add d s).store = s.store := rfl
@[simp] theorem raise_nv (w : Fin 24) (add : Bool) (d : BitVec 8) (s : State) : (raise w add d s).nv = s.nv := rfl
@[simp] theorem raise_units (w : Fin 24) (add : Bool) (d : BitVec 8) (s : State) : (raise w add d s).units = s.units := rfl
@[simp] theorem raise_chime (w : Fin 24) (add : Bool) (d : BitVec 8) (s : State) : (raise w add d s).chime = s.chime := rfl
@[simp] theorem raise_service (w : Fin 24) (add : Bool) (d : BitVec 8) (s : State) : (raise w add d s).service = s.service := rfl
@[simp] theorem raise_clock (w : Fin 24) (add : Bool) (d : BitVec 8) (s : State) : (raise w add d s).clock = s.clock := rfl
@[simp] theorem raise_power (w : Fin 24) (add : Bool) (d : BitVec 8) (s : State) : (raise w add d s).power = s.power := rfl
@[simp] theorem raise_port (w : Fin 24) (add : Bool) (d : BitVec 8) (s : State) : (raise w add d s).port = s.port := rfl
@[simp] theorem raise_settings (w : Fin 24) (add : Bool) (d : BitVec 8) (s : State) : (raise w add d s).settings = s.settings := rfl
@[simp] theorem raise_timers (w : Fin 24) (add : Bool) (d : BitVec 8) (s : State) : (raise w add d s).timers = s.timers := rfl
@[simp] theorem raise_pins (w : Fin 24) (add : Bool) (d : BitVec 8) (s : State) : (raise w add d s).pins = s.pins := rfl
@[simp] theorem raise_own (w : Fin 24) (add : Bool) (d : BitVec 8) (s : State) : (raise w add d s).own = s.own := rfl

/-! ### release -/

@[simp] theorem release_pending (w : Fin 24) (s : State) : (release w s).pending = s.pending := rfl
@[simp] theorem release_meas (w : Fin 24) (s : State) : (release w s).meas = s.meas := rfl
@[simp] theorem release_gauge (w : Fin 24) (s : State) : (release w s).gauge = s.gauge := rfl
@[simp] theorem release_fold (w : Fin 24) (s : State) : (release w s).fold = s.fold := rfl
@[simp] theorem release_store (w : Fin 24) (s : State) : (release w s).store = s.store := rfl
@[simp] theorem release_nv (w : Fin 24) (s : State) : (release w s).nv = s.nv := rfl
@[simp] theorem release_units (w : Fin 24) (s : State) : (release w s).units = s.units := rfl
@[simp] theorem release_chime (w : Fin 24) (s : State) : (release w s).chime = s.chime := rfl
@[simp] theorem release_service (w : Fin 24) (s : State) : (release w s).service = s.service := rfl
@[simp] theorem release_clock (w : Fin 24) (s : State) : (release w s).clock = s.clock := rfl
@[simp] theorem release_power (w : Fin 24) (s : State) : (release w s).power = s.power := rfl
@[simp] theorem release_port (w : Fin 24) (s : State) : (release w s).port = s.port := rfl
@[simp] theorem release_settings (w : Fin 24) (s : State) : (release w s).settings = s.settings := rfl
@[simp] theorem release_timers (w : Fin 24) (s : State) : (release w s).timers = s.timers := rfl
@[simp] theorem release_pins (w : Fin 24) (s : State) : (release w s).pins = s.pins := rfl
@[simp] theorem release_own (w : Fin 24) (s : State) : (release w s).own = s.own := rfl

/-! ### dropMember -/

@[simp] theorem dropMember_pending (w : Fin 24) (d : BitVec 8) (s : State) : (dropMember w d s).pending = s.pending := by simp only [dropMember]; (repeat' split) <;> simp
@[simp] theorem dropMember_meas (w : Fin 24) (d : BitVec 8) (s : State) : (dropMember w d s).meas = s.meas := by simp only [dropMember]; (repeat' split) <;> simp
@[simp] theorem dropMember_gauge (w : Fin 24) (d : BitVec 8) (s : State) : (dropMember w d s).gauge = s.gauge := by simp only [dropMember]; (repeat' split) <;> simp
@[simp] theorem dropMember_fold (w : Fin 24) (d : BitVec 8) (s : State) : (dropMember w d s).fold = s.fold := by simp only [dropMember]; (repeat' split) <;> simp
@[simp] theorem dropMember_store (w : Fin 24) (d : BitVec 8) (s : State) : (dropMember w d s).store = s.store := by simp only [dropMember]; (repeat' split) <;> simp
@[simp] theorem dropMember_nv (w : Fin 24) (d : BitVec 8) (s : State) : (dropMember w d s).nv = s.nv := by simp only [dropMember]; (repeat' split) <;> simp
@[simp] theorem dropMember_units (w : Fin 24) (d : BitVec 8) (s : State) : (dropMember w d s).units = s.units := by simp only [dropMember]; (repeat' split) <;> simp
@[simp] theorem dropMember_chime (w : Fin 24) (d : BitVec 8) (s : State) : (dropMember w d s).chime = s.chime := by simp only [dropMember]; (repeat' split) <;> simp
@[simp] theorem dropMember_service (w : Fin 24) (d : BitVec 8) (s : State) : (dropMember w d s).service = s.service := by simp only [dropMember]; (repeat' split) <;> simp
@[simp] theorem dropMember_clock (w : Fin 24) (d : BitVec 8) (s : State) : (dropMember w d s).clock = s.clock := by simp only [dropMember]; (repeat' split) <;> simp
@[simp] theorem dropMember_power (w : Fin 24) (d : BitVec 8) (s : State) : (dropMember w d s).power = s.power := by simp only [dropMember]; (repeat' split) <;> simp
@[simp] theorem dropMember_port (w : Fin 24) (d : BitVec 8) (s : State) : (dropMember w d s).port = s.port := by simp only [dropMember]; (repeat' split) <;> simp
@[simp] theorem dropMember_settings (w : Fin 24) (d : BitVec 8) (s : State) : (dropMember w d s).settings = s.settings := by simp only [dropMember]; (repeat' split) <;> simp
@[simp] theorem dropMember_timers (w : Fin 24) (d : BitVec 8) (s : State) : (dropMember w d s).timers = s.timers := by simp only [dropMember]; (repeat' split) <;> simp
@[simp] theorem dropMember_pins (w : Fin 24) (d : BitVec 8) (s : State) : (dropMember w d s).pins = s.pins := by simp only [dropMember]; (repeat' split) <;> simp
@[simp] theorem dropMember_own (w : Fin 24) (d : BitVec 8) (s : State) : (dropMember w d s).own = s.own := by simp only [dropMember]; (repeat' split) <;> simp

/-! ### handItemSets -/

@[simp] theorem handItemSets_pending (due overdue : BitVec 8) (s : State) : (handItemSets due overdue s).pending = s.pending := by simp only [handItemSets]; split_ifs <;> simp
@[simp] theorem handItemSets_meas (due overdue : BitVec 8) (s : State) : (handItemSets due overdue s).meas = s.meas := by simp only [handItemSets]; split_ifs <;> simp
@[simp] theorem handItemSets_gauge (due overdue : BitVec 8) (s : State) : (handItemSets due overdue s).gauge = s.gauge := by simp only [handItemSets]; split_ifs <;> simp
@[simp] theorem handItemSets_fold (due overdue : BitVec 8) (s : State) : (handItemSets due overdue s).fold = s.fold := by simp only [handItemSets]; split_ifs <;> simp
@[simp] theorem handItemSets_store (due overdue : BitVec 8) (s : State) : (handItemSets due overdue s).store = s.store := by simp only [handItemSets]; split_ifs <;> simp
@[simp] theorem handItemSets_nv (due overdue : BitVec 8) (s : State) : (handItemSets due overdue s).nv = s.nv := by simp only [handItemSets]; split_ifs <;> simp
@[simp] theorem handItemSets_units (due overdue : BitVec 8) (s : State) : (handItemSets due overdue s).units = s.units := by simp only [handItemSets]; split_ifs <;> simp
@[simp] theorem handItemSets_chime (due overdue : BitVec 8) (s : State) : (handItemSets due overdue s).chime = s.chime := by simp only [handItemSets]; split_ifs <;> simp
@[simp] theorem handItemSets_service (due overdue : BitVec 8) (s : State) : (handItemSets due overdue s).service = s.service := by simp only [handItemSets]; split_ifs <;> simp
@[simp] theorem handItemSets_clock (due overdue : BitVec 8) (s : State) : (handItemSets due overdue s).clock = s.clock := by simp only [handItemSets]; split_ifs <;> simp
@[simp] theorem handItemSets_power (due overdue : BitVec 8) (s : State) : (handItemSets due overdue s).power = s.power := by simp only [handItemSets]; split_ifs <;> simp
@[simp] theorem handItemSets_port (due overdue : BitVec 8) (s : State) : (handItemSets due overdue s).port = s.port := by simp only [handItemSets]; split_ifs <;> simp
@[simp] theorem handItemSets_settings (due overdue : BitVec 8) (s : State) : (handItemSets due overdue s).settings = s.settings := by simp only [handItemSets]; split_ifs <;> simp
@[simp] theorem handItemSets_timers (due overdue : BitVec 8) (s : State) : (handItemSets due overdue s).timers = s.timers := by simp only [handItemSets]; split_ifs <;> simp
@[simp] theorem handItemSets_pins (due overdue : BitVec 8) (s : State) : (handItemSets due overdue s).pins = s.pins := by simp only [handItemSets]; split_ifs <;> simp
@[simp] theorem handItemSets_own (due overdue : BitVec 8) (s : State) : (handItemSets due overdue s).own = s.own := by simp only [handItemSets]; split_ifs <;> simp

/-! ### remind -/

@[simp] theorem remind_pending (s : State) : (remind s).pending = s.pending := rfl
@[simp] theorem remind_meas (s : State) : (remind s).meas = s.meas := rfl
@[simp] theorem remind_gauge (s : State) : (remind s).gauge = s.gauge := rfl
@[simp] theorem remind_fold (s : State) : (remind s).fold = s.fold := rfl
@[simp] theorem remind_store (s : State) : (remind s).store = s.store := rfl
@[simp] theorem remind_nv (s : State) : (remind s).nv = s.nv := rfl
@[simp] theorem remind_units (s : State) : (remind s).units = s.units := rfl
@[simp] theorem remind_chime (s : State) : (remind s).chime = s.chime := rfl
@[simp] theorem remind_service (s : State) : (remind s).service = s.service := rfl
@[simp] theorem remind_clock (s : State) : (remind s).clock = s.clock := rfl
@[simp] theorem remind_power (s : State) : (remind s).power = s.power := rfl
@[simp] theorem remind_port (s : State) : (remind s).port = s.port := rfl
@[simp] theorem remind_settings (s : State) : (remind s).settings = s.settings := rfl
@[simp] theorem remind_timers (s : State) : (remind s).timers = s.timers := rfl
@[simp] theorem remind_pins (s : State) : (remind s).pins = s.pins := rfl
@[simp] theorem remind_own (s : State) : (remind s).own = s.own := rfl

/-! ### countViews -/

@[simp] theorem countViews_pending (old : List Entry) (s : State) : (countViews old s).pending = s.pending := by simp only [countViews]; split_ifs <;> simp
@[simp] theorem countViews_meas (old : List Entry) (s : State) : (countViews old s).meas = s.meas := by simp only [countViews]; split_ifs <;> simp
@[simp] theorem countViews_gauge (old : List Entry) (s : State) : (countViews old s).gauge = s.gauge := by simp only [countViews]; split_ifs <;> simp
@[simp] theorem countViews_fold (old : List Entry) (s : State) : (countViews old s).fold = s.fold := by simp only [countViews]; split_ifs <;> simp
@[simp] theorem countViews_store (old : List Entry) (s : State) : (countViews old s).store = s.store := by simp only [countViews]; split_ifs <;> simp
@[simp] theorem countViews_nv (old : List Entry) (s : State) : (countViews old s).nv = s.nv := by simp only [countViews]; split_ifs <;> simp
@[simp] theorem countViews_units (old : List Entry) (s : State) : (countViews old s).units = s.units := by simp only [countViews]; split_ifs <;> simp
@[simp] theorem countViews_chime (old : List Entry) (s : State) : (countViews old s).chime = s.chime := by simp only [countViews]; split_ifs <;> simp
@[simp] theorem countViews_service (old : List Entry) (s : State) : (countViews old s).service = s.service := by simp only [countViews]; split_ifs <;> simp
@[simp] theorem countViews_clock (old : List Entry) (s : State) : (countViews old s).clock = s.clock := by simp only [countViews]; split_ifs <;> simp
@[simp] theorem countViews_power (old : List Entry) (s : State) : (countViews old s).power = s.power := by simp only [countViews]; split_ifs <;> simp
@[simp] theorem countViews_settings (old : List Entry) (s : State) : (countViews old s).settings = s.settings := by simp only [countViews]; split_ifs <;> simp
@[simp] theorem countViews_timers (old : List Entry) (s : State) : (countViews old s).timers = s.timers := by simp only [countViews]; split_ifs <;> simp
@[simp] theorem countViews_pins (old : List Entry) (s : State) : (countViews old s).pins = s.pins := by simp only [countViews]; split_ifs <;> simp
@[simp] theorem countViews_own (old : List Entry) (s : State) : (countViews old s).own = s.own := by simp only [countViews]; split_ifs <;> simp

/-! ### workLamps -/

@[simp] theorem workLamps_pending (s : State) : (workLamps s).pending = s.pending := rfl
@[simp] theorem workLamps_meas (s : State) : (workLamps s).meas = s.meas := rfl
@[simp] theorem workLamps_fold (s : State) : (workLamps s).fold = s.fold := rfl
@[simp] theorem workLamps_store (s : State) : (workLamps s).store = s.store := rfl
@[simp] theorem workLamps_nv (s : State) : (workLamps s).nv = s.nv := rfl
@[simp] theorem workLamps_units (s : State) : (workLamps s).units = s.units := rfl
@[simp] theorem workLamps_warn (s : State) : (workLamps s).warn = s.warn := rfl
@[simp] theorem workLamps_chime (s : State) : (workLamps s).chime = s.chime := rfl
@[simp] theorem workLamps_service (s : State) : (workLamps s).service = s.service := rfl
@[simp] theorem workLamps_clock (s : State) : (workLamps s).clock = s.clock := rfl
@[simp] theorem workLamps_power (s : State) : (workLamps s).power = s.power := rfl
@[simp] theorem workLamps_port (s : State) : (workLamps s).port = s.port := rfl
@[simp] theorem workLamps_settings (s : State) : (workLamps s).settings = s.settings := rfl
@[simp] theorem workLamps_timers (s : State) : (workLamps s).timers = s.timers := rfl
@[simp] theorem workLamps_pins (s : State) : (workLamps s).pins = s.pins := rfl
@[simp] theorem workLamps_own (s : State) : (workLamps s).own = s.own := rfl

/-! ### setChime -/

@[simp] theorem setChime_pending (w : Fin 24) (sp : Speaker) (m : ChimeMark) (s : State) : (setChime w sp m s).pending = s.pending := rfl
@[simp] theorem setChime_meas (w : Fin 24) (sp : Speaker) (m : ChimeMark) (s : State) : (setChime w sp m s).meas = s.meas := rfl
@[simp] theorem setChime_gauge (w : Fin 24) (sp : Speaker) (m : ChimeMark) (s : State) : (setChime w sp m s).gauge = s.gauge := rfl
@[simp] theorem setChime_fold (w : Fin 24) (sp : Speaker) (m : ChimeMark) (s : State) : (setChime w sp m s).fold = s.fold := rfl
@[simp] theorem setChime_store (w : Fin 24) (sp : Speaker) (m : ChimeMark) (s : State) : (setChime w sp m s).store = s.store := rfl
@[simp] theorem setChime_nv (w : Fin 24) (sp : Speaker) (m : ChimeMark) (s : State) : (setChime w sp m s).nv = s.nv := rfl
@[simp] theorem setChime_units (w : Fin 24) (sp : Speaker) (m : ChimeMark) (s : State) : (setChime w sp m s).units = s.units := rfl
@[simp] theorem setChime_chime (w : Fin 24) (sp : Speaker) (m : ChimeMark) (s : State) : (setChime w sp m s).chime = s.chime := rfl
@[simp] theorem setChime_service (w : Fin 24) (sp : Speaker) (m : ChimeMark) (s : State) : (setChime w sp m s).service = s.service := rfl
@[simp] theorem setChime_clock (w : Fin 24) (sp : Speaker) (m : ChimeMark) (s : State) : (setChime w sp m s).clock = s.clock := rfl
@[simp] theorem setChime_power (w : Fin 24) (sp : Speaker) (m : ChimeMark) (s : State) : (setChime w sp m s).power = s.power := rfl
@[simp] theorem setChime_port (w : Fin 24) (sp : Speaker) (m : ChimeMark) (s : State) : (setChime w sp m s).port = s.port := rfl
@[simp] theorem setChime_settings (w : Fin 24) (sp : Speaker) (m : ChimeMark) (s : State) : (setChime w sp m s).settings = s.settings := rfl
@[simp] theorem setChime_timers (w : Fin 24) (sp : Speaker) (m : ChimeMark) (s : State) : (setChime w sp m s).timers = s.timers := rfl
@[simp] theorem setChime_pins (w : Fin 24) (sp : Speaker) (m : ChimeMark) (s : State) : (setChime w sp m s).pins = s.pins := rfl
@[simp] theorem setChime_own (w : Fin 24) (sp : Speaker) (m : ChimeMark) (s : State) : (setChime w sp m s).own = s.own := rfl

/-! ### takeCandidate -/

@[simp] theorem takeCandidate_pending (sp : Speaker) (c : Candidate) (s : State) : (takeCandidate sp c s).pending = s.pending := by unfold takeCandidate; split <;> simp
@[simp] theorem takeCandidate_meas (sp : Speaker) (c : Candidate) (s : State) : (takeCandidate sp c s).meas = s.meas := by unfold takeCandidate; split <;> simp
@[simp] theorem takeCandidate_gauge (sp : Speaker) (c : Candidate) (s : State) : (takeCandidate sp c s).gauge = s.gauge := by unfold takeCandidate; split <;> simp
@[simp] theorem takeCandidate_fold (sp : Speaker) (c : Candidate) (s : State) : (takeCandidate sp c s).fold = s.fold := by unfold takeCandidate; split <;> simp
@[simp] theorem takeCandidate_store (sp : Speaker) (c : Candidate) (s : State) : (takeCandidate sp c s).store = s.store := by unfold takeCandidate; split <;> simp
@[simp] theorem takeCandidate_nv (sp : Speaker) (c : Candidate) (s : State) : (takeCandidate sp c s).nv = s.nv := by unfold takeCandidate; split <;> simp
@[simp] theorem takeCandidate_units (sp : Speaker) (c : Candidate) (s : State) : (takeCandidate sp c s).units = s.units := by unfold takeCandidate; split <;> simp
@[simp] theorem takeCandidate_service (sp : Speaker) (c : Candidate) (s : State) : (takeCandidate sp c s).service = s.service := by unfold takeCandidate; split <;> simp
@[simp] theorem takeCandidate_clock (sp : Speaker) (c : Candidate) (s : State) : (takeCandidate sp c s).clock = s.clock := by unfold takeCandidate; split <;> simp
@[simp] theorem takeCandidate_power (sp : Speaker) (c : Candidate) (s : State) : (takeCandidate sp c s).power = s.power := by unfold takeCandidate; split <;> simp
@[simp] theorem takeCandidate_port (sp : Speaker) (c : Candidate) (s : State) : (takeCandidate sp c s).port = s.port := by unfold takeCandidate; split <;> simp
@[simp] theorem takeCandidate_settings (sp : Speaker) (c : Candidate) (s : State) : (takeCandidate sp c s).settings = s.settings := by unfold takeCandidate; split <;> simp
@[simp] theorem takeCandidate_timers (sp : Speaker) (c : Candidate) (s : State) : (takeCandidate sp c s).timers = s.timers := by unfold takeCandidate; split <;> simp
@[simp] theorem takeCandidate_pins (sp : Speaker) (c : Candidate) (s : State) : (takeCandidate sp c s).pins = s.pins := by unfold takeCandidate; split <;> simp
@[simp] theorem takeCandidate_own (sp : Speaker) (c : Candidate) (s : State) : (takeCandidate sp c s).own = s.own := by unfold takeCandidate; split <;> simp

/-! ### choose -/

@[simp] theorem choose_pending (sp : Speaker) (s : State) : (choose sp s).pending = s.pending := by unfold choose; split <;> simp
@[simp] theorem choose_meas (sp : Speaker) (s : State) : (choose sp s).meas = s.meas := by unfold choose; split <;> simp
@[simp] theorem choose_gauge (sp : Speaker) (s : State) : (choose sp s).gauge = s.gauge := by unfold choose; split <;> simp
@[simp] theorem choose_fold (sp : Speaker) (s : State) : (choose sp s).fold = s.fold := by unfold choose; split <;> simp
@[simp] theorem choose_store (sp : Speaker) (s : State) : (choose sp s).store = s.store := by unfold choose; split <;> simp
@[simp] theorem choose_nv (sp : Speaker) (s : State) : (choose sp s).nv = s.nv := by unfold choose; split <;> simp
@[simp] theorem choose_units (sp : Speaker) (s : State) : (choose sp s).units = s.units := by unfold choose; split <;> simp
@[simp] theorem choose_service (sp : Speaker) (s : State) : (choose sp s).service = s.service := by unfold choose; split <;> simp
@[simp] theorem choose_clock (sp : Speaker) (s : State) : (choose sp s).clock = s.clock := by unfold choose; split <;> simp
@[simp] theorem choose_power (sp : Speaker) (s : State) : (choose sp s).power = s.power := by unfold choose; split <;> simp
@[simp] theorem choose_port (sp : Speaker) (s : State) : (choose sp s).port = s.port := by unfold choose; split <;> simp
@[simp] theorem choose_settings (sp : Speaker) (s : State) : (choose sp s).settings = s.settings := by unfold choose; split <;> simp
@[simp] theorem choose_timers (sp : Speaker) (s : State) : (choose sp s).timers = s.timers := by unfold choose; split <;> simp
@[simp] theorem choose_pins (sp : Speaker) (s : State) : (choose sp s).pins = s.pins := by unfold choose; split <;> simp
@[simp] theorem choose_own (sp : Speaker) (s : State) : (choose sp s).own = s.own := by unfold choose; split <;> simp

/-! ### chooseIfIdle -/

@[simp] theorem chooseIfIdle_pending (sp : Speaker) (s : State) : (chooseIfIdle sp s).pending = s.pending := by unfold chooseIfIdle; split <;> simp
@[simp] theorem chooseIfIdle_meas (sp : Speaker) (s : State) : (chooseIfIdle sp s).meas = s.meas := by unfold chooseIfIdle; split <;> simp
@[simp] theorem chooseIfIdle_gauge (sp : Speaker) (s : State) : (chooseIfIdle sp s).gauge = s.gauge := by unfold chooseIfIdle; split <;> simp
@[simp] theorem chooseIfIdle_fold (sp : Speaker) (s : State) : (chooseIfIdle sp s).fold = s.fold := by unfold chooseIfIdle; split <;> simp
@[simp] theorem chooseIfIdle_store (sp : Speaker) (s : State) : (chooseIfIdle sp s).store = s.store := by unfold chooseIfIdle; split <;> simp
@[simp] theorem chooseIfIdle_nv (sp : Speaker) (s : State) : (chooseIfIdle sp s).nv = s.nv := by unfold chooseIfIdle; split <;> simp
@[simp] theorem chooseIfIdle_units (sp : Speaker) (s : State) : (chooseIfIdle sp s).units = s.units := by unfold chooseIfIdle; split <;> simp
@[simp] theorem chooseIfIdle_service (sp : Speaker) (s : State) : (chooseIfIdle sp s).service = s.service := by unfold chooseIfIdle; split <;> simp
@[simp] theorem chooseIfIdle_clock (sp : Speaker) (s : State) : (chooseIfIdle sp s).clock = s.clock := by unfold chooseIfIdle; split <;> simp
@[simp] theorem chooseIfIdle_power (sp : Speaker) (s : State) : (chooseIfIdle sp s).power = s.power := by unfold chooseIfIdle; split <;> simp
@[simp] theorem chooseIfIdle_port (sp : Speaker) (s : State) : (chooseIfIdle sp s).port = s.port := by unfold chooseIfIdle; split <;> simp
@[simp] theorem chooseIfIdle_settings (sp : Speaker) (s : State) : (chooseIfIdle sp s).settings = s.settings := by unfold chooseIfIdle; split <;> simp
@[simp] theorem chooseIfIdle_timers (sp : Speaker) (s : State) : (chooseIfIdle sp s).timers = s.timers := by unfold chooseIfIdle; split <;> simp
@[simp] theorem chooseIfIdle_pins (sp : Speaker) (s : State) : (chooseIfIdle sp s).pins = s.pins := by unfold chooseIfIdle; split <;> simp
@[simp] theorem chooseIfIdle_own (sp : Speaker) (s : State) : (chooseIfIdle sp s).own = s.own := by unfold chooseIfIdle; split <;> simp

/-! ### settleQuiet -/

@[simp] theorem settleQuiet_pending (s : State) : (settleQuiet s).pending = s.pending := by unfold settleQuiet; split <;> simp
@[simp] theorem settleQuiet_meas (s : State) : (settleQuiet s).meas = s.meas := by unfold settleQuiet; split <;> simp
@[simp] theorem settleQuiet_gauge (s : State) : (settleQuiet s).gauge = s.gauge := by unfold settleQuiet; split <;> simp
@[simp] theorem settleQuiet_fold (s : State) : (settleQuiet s).fold = s.fold := by unfold settleQuiet; split <;> simp
@[simp] theorem settleQuiet_store (s : State) : (settleQuiet s).store = s.store := by unfold settleQuiet; split <;> simp
@[simp] theorem settleQuiet_nv (s : State) : (settleQuiet s).nv = s.nv := by unfold settleQuiet; split <;> simp
@[simp] theorem settleQuiet_units (s : State) : (settleQuiet s).units = s.units := by unfold settleQuiet; split <;> simp
@[simp] theorem settleQuiet_chime (s : State) : (settleQuiet s).chime = s.chime := by unfold settleQuiet; split <;> simp
@[simp] theorem settleQuiet_service (s : State) : (settleQuiet s).service = s.service := by unfold settleQuiet; split <;> simp
@[simp] theorem settleQuiet_clock (s : State) : (settleQuiet s).clock = s.clock := by unfold settleQuiet; split <;> simp
@[simp] theorem settleQuiet_power (s : State) : (settleQuiet s).power = s.power := by unfold settleQuiet; split <;> simp
@[simp] theorem settleQuiet_port (s : State) : (settleQuiet s).port = s.port := by unfold settleQuiet; split <;> simp
@[simp] theorem settleQuiet_settings (s : State) : (settleQuiet s).settings = s.settings := by unfold settleQuiet; split <;> simp
@[simp] theorem settleQuiet_timers (s : State) : (settleQuiet s).timers = s.timers := by unfold settleQuiet; split <;> simp
@[simp] theorem settleQuiet_pins (s : State) : (settleQuiet s).pins = s.pins := by unfold settleQuiet; split <;> simp
@[simp] theorem settleQuiet_own (s : State) : (settleQuiet s).own = s.own := by unfold settleQuiet; split <;> simp

/-! ### chooseBoth -/

@[simp] theorem chooseBoth_pending (s : State) : (chooseBoth s).pending = s.pending := by simp [chooseBoth]
@[simp] theorem chooseBoth_meas (s : State) : (chooseBoth s).meas = s.meas := by simp [chooseBoth]
@[simp] theorem chooseBoth_gauge (s : State) : (chooseBoth s).gauge = s.gauge := by simp [chooseBoth]
@[simp] theorem chooseBoth_fold (s : State) : (chooseBoth s).fold = s.fold := by simp [chooseBoth]
@[simp] theorem chooseBoth_store (s : State) : (chooseBoth s).store = s.store := by simp [chooseBoth]
@[simp] theorem chooseBoth_nv (s : State) : (chooseBoth s).nv = s.nv := by simp [chooseBoth]
@[simp] theorem chooseBoth_units (s : State) : (chooseBoth s).units = s.units := by simp [chooseBoth]
@[simp] theorem chooseBoth_service (s : State) : (chooseBoth s).service = s.service := by simp [chooseBoth]
@[simp] theorem chooseBoth_clock (s : State) : (chooseBoth s).clock = s.clock := by simp [chooseBoth]
@[simp] theorem chooseBoth_power (s : State) : (chooseBoth s).power = s.power := by simp [chooseBoth]
@[simp] theorem chooseBoth_port (s : State) : (chooseBoth s).port = s.port := by simp [chooseBoth]
@[simp] theorem chooseBoth_settings (s : State) : (chooseBoth s).settings = s.settings := by simp [chooseBoth]
@[simp] theorem chooseBoth_timers (s : State) : (chooseBoth s).timers = s.timers := by simp [chooseBoth]
@[simp] theorem chooseBoth_pins (s : State) : (chooseBoth s).pins = s.pins := by simp [chooseBoth]
@[simp] theorem chooseBoth_own (s : State) : (chooseBoth s).own = s.own := by simp [chooseBoth]

/-! ### startChoice -/

@[simp] theorem startChoice_pending (s : State) : (startChoice s).pending = s.pending := by unfold startChoice; split <;> simp
@[simp] theorem startChoice_meas (s : State) : (startChoice s).meas = s.meas := by unfold startChoice; split <;> simp
@[simp] theorem startChoice_gauge (s : State) : (startChoice s).gauge = s.gauge := by unfold startChoice; split <;> simp
@[simp] theorem startChoice_fold (s : State) : (startChoice s).fold = s.fold := by unfold startChoice; split <;> simp
@[simp] theorem startChoice_store (s : State) : (startChoice s).store = s.store := by unfold startChoice; split <;> simp
@[simp] theorem startChoice_nv (s : State) : (startChoice s).nv = s.nv := by unfold startChoice; split <;> simp
@[simp] theorem startChoice_units (s : State) : (startChoice s).units = s.units := by unfold startChoice; split <;> simp
@[simp] theorem startChoice_service (s : State) : (startChoice s).service = s.service := by unfold startChoice; split <;> simp
@[simp] theorem startChoice_clock (s : State) : (startChoice s).clock = s.clock := by unfold startChoice; split <;> simp
@[simp] theorem startChoice_power (s : State) : (startChoice s).power = s.power := by unfold startChoice; split <;> simp
@[simp] theorem startChoice_port (s : State) : (startChoice s).port = s.port := by unfold startChoice; split <;> simp
@[simp] theorem startChoice_settings (s : State) : (startChoice s).settings = s.settings := by unfold startChoice; split <;> simp
@[simp] theorem startChoice_timers (s : State) : (startChoice s).timers = s.timers := by unfold startChoice; split <;> simp
@[simp] theorem startChoice_pins (s : State) : (startChoice s).pins = s.pins := by unfold startChoice; split <;> simp
@[simp] theorem startChoice_own (s : State) : (startChoice s).own = s.own := by unfold startChoice; split <;> simp

/-! ### settleChimes -/

@[simp] theorem settleChimes_pending (s : State) : (settleChimes s).pending = s.pending := by simp only [settleChimes]; split <;> simp
@[simp] theorem settleChimes_meas (s : State) : (settleChimes s).meas = s.meas := by simp only [settleChimes]; split <;> simp
@[simp] theorem settleChimes_gauge (s : State) : (settleChimes s).gauge = s.gauge := by simp only [settleChimes]; split <;> simp
@[simp] theorem settleChimes_fold (s : State) : (settleChimes s).fold = s.fold := by simp only [settleChimes]; split <;> simp
@[simp] theorem settleChimes_store (s : State) : (settleChimes s).store = s.store := by simp only [settleChimes]; split <;> simp
@[simp] theorem settleChimes_nv (s : State) : (settleChimes s).nv = s.nv := by simp only [settleChimes]; split <;> simp
@[simp] theorem settleChimes_units (s : State) : (settleChimes s).units = s.units := by simp only [settleChimes]; split <;> simp
@[simp] theorem settleChimes_service (s : State) : (settleChimes s).service = s.service := by simp only [settleChimes]; split <;> simp
@[simp] theorem settleChimes_clock (s : State) : (settleChimes s).clock = s.clock := by simp only [settleChimes]; split <;> simp
@[simp] theorem settleChimes_power (s : State) : (settleChimes s).power = s.power := by simp only [settleChimes]; split <;> simp
@[simp] theorem settleChimes_port (s : State) : (settleChimes s).port = s.port := by simp only [settleChimes]; split <;> simp
@[simp] theorem settleChimes_settings (s : State) : (settleChimes s).settings = s.settings := by simp only [settleChimes]; split <;> simp
@[simp] theorem settleChimes_timers (s : State) : (settleChimes s).timers = s.timers := by simp only [settleChimes]; split <;> simp
@[simp] theorem settleChimes_pins (s : State) : (settleChimes s).pins = s.pins := by simp only [settleChimes]; split <;> simp
@[simp] theorem settleChimes_own (s : State) : (settleChimes s).own = s.own := by simp only [settleChimes]; split <;> simp

/-! ### chimeDone -/

@[simp] theorem chimeDone_pending (p : Port) (s : State) : (chimeDone p s).pending = s.pending := by unfold chimeDone; split <;> simp
@[simp] theorem chimeDone_meas (p : Port) (s : State) : (chimeDone p s).meas = s.meas := by unfold chimeDone; split <;> simp
@[simp] theorem chimeDone_gauge (p : Port) (s : State) : (chimeDone p s).gauge = s.gauge := by unfold chimeDone; split <;> simp
@[simp] theorem chimeDone_fold (p : Port) (s : State) : (chimeDone p s).fold = s.fold := by unfold chimeDone; split <;> simp
@[simp] theorem chimeDone_store (p : Port) (s : State) : (chimeDone p s).store = s.store := by unfold chimeDone; split <;> simp
@[simp] theorem chimeDone_nv (p : Port) (s : State) : (chimeDone p s).nv = s.nv := by unfold chimeDone; split <;> simp
@[simp] theorem chimeDone_units (p : Port) (s : State) : (chimeDone p s).units = s.units := by unfold chimeDone; split <;> simp
@[simp] theorem chimeDone_warn (p : Port) (s : State) : (chimeDone p s).warn = s.warn := by unfold chimeDone; split <;> simp
@[simp] theorem chimeDone_chime (p : Port) (s : State) : (chimeDone p s).chime = s.chime := by unfold chimeDone; split <;> simp
@[simp] theorem chimeDone_service (p : Port) (s : State) : (chimeDone p s).service = s.service := by unfold chimeDone; split <;> simp
@[simp] theorem chimeDone_clock (p : Port) (s : State) : (chimeDone p s).clock = s.clock := by unfold chimeDone; split <;> simp
@[simp] theorem chimeDone_power (p : Port) (s : State) : (chimeDone p s).power = s.power := by unfold chimeDone; split <;> simp
@[simp] theorem chimeDone_settings (p : Port) (s : State) : (chimeDone p s).settings = s.settings := by unfold chimeDone; split <;> simp
@[simp] theorem chimeDone_timers (p : Port) (s : State) : (chimeDone p s).timers = s.timers := by unfold chimeDone; split <;> simp
@[simp] theorem chimeDone_pins (p : Port) (s : State) : (chimeDone p s).pins = s.pins := by unfold chimeDone; split <;> simp
@[simp] theorem chimeDone_own (p : Port) (s : State) : (chimeDone p s).own = s.own := by unfold chimeDone; split <;> simp

/-! ### chimeDoneAll -/

@[simp] theorem chimeDoneAll_pending (q : List QueueEntry) (s : State) : (chimeDoneAll q s).pending = s.pending := by simp only [chimeDoneAll]; split_ifs <;> simp
@[simp] theorem chimeDoneAll_meas (q : List QueueEntry) (s : State) : (chimeDoneAll q s).meas = s.meas := by simp only [chimeDoneAll]; split_ifs <;> simp
@[simp] theorem chimeDoneAll_gauge (q : List QueueEntry) (s : State) : (chimeDoneAll q s).gauge = s.gauge := by simp only [chimeDoneAll]; split_ifs <;> simp
@[simp] theorem chimeDoneAll_fold (q : List QueueEntry) (s : State) : (chimeDoneAll q s).fold = s.fold := by simp only [chimeDoneAll]; split_ifs <;> simp
@[simp] theorem chimeDoneAll_store (q : List QueueEntry) (s : State) : (chimeDoneAll q s).store = s.store := by simp only [chimeDoneAll]; split_ifs <;> simp
@[simp] theorem chimeDoneAll_nv (q : List QueueEntry) (s : State) : (chimeDoneAll q s).nv = s.nv := by simp only [chimeDoneAll]; split_ifs <;> simp
@[simp] theorem chimeDoneAll_units (q : List QueueEntry) (s : State) : (chimeDoneAll q s).units = s.units := by simp only [chimeDoneAll]; split_ifs <;> simp
@[simp] theorem chimeDoneAll_warn (q : List QueueEntry) (s : State) : (chimeDoneAll q s).warn = s.warn := by simp only [chimeDoneAll]; split_ifs <;> simp
@[simp] theorem chimeDoneAll_chime (q : List QueueEntry) (s : State) : (chimeDoneAll q s).chime = s.chime := by simp only [chimeDoneAll]; split_ifs <;> simp
@[simp] theorem chimeDoneAll_service (q : List QueueEntry) (s : State) : (chimeDoneAll q s).service = s.service := by simp only [chimeDoneAll]; split_ifs <;> simp
@[simp] theorem chimeDoneAll_clock (q : List QueueEntry) (s : State) : (chimeDoneAll q s).clock = s.clock := by simp only [chimeDoneAll]; split_ifs <;> simp
@[simp] theorem chimeDoneAll_power (q : List QueueEntry) (s : State) : (chimeDoneAll q s).power = s.power := by simp only [chimeDoneAll]; split_ifs <;> simp
@[simp] theorem chimeDoneAll_settings (q : List QueueEntry) (s : State) : (chimeDoneAll q s).settings = s.settings := by simp only [chimeDoneAll]; split_ifs <;> simp
@[simp] theorem chimeDoneAll_timers (q : List QueueEntry) (s : State) : (chimeDoneAll q s).timers = s.timers := by simp only [chimeDoneAll]; split_ifs <;> simp
@[simp] theorem chimeDoneAll_pins (q : List QueueEntry) (s : State) : (chimeDoneAll q s).pins = s.pins := by simp only [chimeDoneAll]; split_ifs <;> simp
@[simp] theorem chimeDoneAll_own (q : List QueueEntry) (s : State) : (chimeDoneAll q s).own = s.own := by simp only [chimeDoneAll]; split_ifs <;> simp

/-! ### queuePassEnd -/

@[simp] theorem queuePassEnd_pending (sp : Speaker) (s : State) : (queuePassEnd sp s).pending = s.pending := by simp only [queuePassEnd]; (repeat' split) <;> simp
@[simp] theorem queuePassEnd_meas (sp : Speaker) (s : State) : (queuePassEnd sp s).meas = s.meas := by simp only [queuePassEnd]; (repeat' split) <;> simp
@[simp] theorem queuePassEnd_gauge (sp : Speaker) (s : State) : (queuePassEnd sp s).gauge = s.gauge := by simp only [queuePassEnd]; (repeat' split) <;> simp
@[simp] theorem queuePassEnd_fold (sp : Speaker) (s : State) : (queuePassEnd sp s).fold = s.fold := by simp only [queuePassEnd]; (repeat' split) <;> simp
@[simp] theorem queuePassEnd_store (sp : Speaker) (s : State) : (queuePassEnd sp s).store = s.store := by simp only [queuePassEnd]; (repeat' split) <;> simp
@[simp] theorem queuePassEnd_nv (sp : Speaker) (s : State) : (queuePassEnd sp s).nv = s.nv := by simp only [queuePassEnd]; (repeat' split) <;> simp
@[simp] theorem queuePassEnd_units (sp : Speaker) (s : State) : (queuePassEnd sp s).units = s.units := by simp only [queuePassEnd]; (repeat' split) <;> simp
@[simp] theorem queuePassEnd_warn (sp : Speaker) (s : State) : (queuePassEnd sp s).warn = s.warn := by simp only [queuePassEnd]; (repeat' split) <;> simp
@[simp] theorem queuePassEnd_service (sp : Speaker) (s : State) : (queuePassEnd sp s).service = s.service := by simp only [queuePassEnd]; (repeat' split) <;> simp
@[simp] theorem queuePassEnd_clock (sp : Speaker) (s : State) : (queuePassEnd sp s).clock = s.clock := by simp only [queuePassEnd]; (repeat' split) <;> simp
@[simp] theorem queuePassEnd_power (sp : Speaker) (s : State) : (queuePassEnd sp s).power = s.power := by simp only [queuePassEnd]; (repeat' split) <;> simp
@[simp] theorem queuePassEnd_settings (sp : Speaker) (s : State) : (queuePassEnd sp s).settings = s.settings := by simp only [queuePassEnd]; (repeat' split) <;> simp
@[simp] theorem queuePassEnd_timers (sp : Speaker) (s : State) : (queuePassEnd sp s).timers = s.timers := by simp only [queuePassEnd]; (repeat' split) <;> simp
@[simp] theorem queuePassEnd_pins (sp : Speaker) (s : State) : (queuePassEnd sp s).pins = s.pins := by simp only [queuePassEnd]; (repeat' split) <;> simp
@[simp] theorem queuePassEnd_own (sp : Speaker) (s : State) : (queuePassEnd sp s).own = s.own := by simp only [queuePassEnd]; (repeat' split) <;> simp

/-! ### passEnd -/

@[simp] theorem passEnd_pending (sp : Speaker) (q : Play) (s : State) : (passEnd sp q s).pending = s.pending := by unfold passEnd; (repeat' split) <;> simp
@[simp] theorem passEnd_meas (sp : Speaker) (q : Play) (s : State) : (passEnd sp q s).meas = s.meas := by unfold passEnd; (repeat' split) <;> simp
@[simp] theorem passEnd_gauge (sp : Speaker) (q : Play) (s : State) : (passEnd sp q s).gauge = s.gauge := by unfold passEnd; (repeat' split) <;> simp
@[simp] theorem passEnd_fold (sp : Speaker) (q : Play) (s : State) : (passEnd sp q s).fold = s.fold := by unfold passEnd; (repeat' split) <;> simp
@[simp] theorem passEnd_store (sp : Speaker) (q : Play) (s : State) : (passEnd sp q s).store = s.store := by unfold passEnd; (repeat' split) <;> simp
@[simp] theorem passEnd_nv (sp : Speaker) (q : Play) (s : State) : (passEnd sp q s).nv = s.nv := by unfold passEnd; (repeat' split) <;> simp
@[simp] theorem passEnd_units (sp : Speaker) (q : Play) (s : State) : (passEnd sp q s).units = s.units := by unfold passEnd; (repeat' split) <;> simp
@[simp] theorem passEnd_service (sp : Speaker) (q : Play) (s : State) : (passEnd sp q s).service = s.service := by unfold passEnd; (repeat' split) <;> simp
@[simp] theorem passEnd_clock (sp : Speaker) (q : Play) (s : State) : (passEnd sp q s).clock = s.clock := by unfold passEnd; (repeat' split) <;> simp
@[simp] theorem passEnd_power (sp : Speaker) (q : Play) (s : State) : (passEnd sp q s).power = s.power := by unfold passEnd; (repeat' split) <;> simp
@[simp] theorem passEnd_settings (sp : Speaker) (q : Play) (s : State) : (passEnd sp q s).settings = s.settings := by unfold passEnd; (repeat' split) <;> simp
@[simp] theorem passEnd_timers (sp : Speaker) (q : Play) (s : State) : (passEnd sp q s).timers = s.timers := by unfold passEnd; (repeat' split) <;> simp
@[simp] theorem passEnd_pins (sp : Speaker) (q : Play) (s : State) : (passEnd sp q s).pins = s.pins := by unfold passEnd; (repeat' split) <;> simp
@[simp] theorem passEnd_own (sp : Speaker) (q : Play) (s : State) : (passEnd sp q s).own = s.own := by unfold passEnd; (repeat' split) <;> simp

/-! ### giveBack -/

@[simp] theorem giveBack_pending (sp : Speaker) (q : Play) (s : State) : (giveBack sp q s).pending = s.pending := by unfold giveBack; split <;> simp
@[simp] theorem giveBack_meas (sp : Speaker) (q : Play) (s : State) : (giveBack sp q s).meas = s.meas := by unfold giveBack; split <;> simp
@[simp] theorem giveBack_gauge (sp : Speaker) (q : Play) (s : State) : (giveBack sp q s).gauge = s.gauge := by unfold giveBack; split <;> simp
@[simp] theorem giveBack_fold (sp : Speaker) (q : Play) (s : State) : (giveBack sp q s).fold = s.fold := by unfold giveBack; split <;> simp
@[simp] theorem giveBack_store (sp : Speaker) (q : Play) (s : State) : (giveBack sp q s).store = s.store := by unfold giveBack; split <;> simp
@[simp] theorem giveBack_nv (sp : Speaker) (q : Play) (s : State) : (giveBack sp q s).nv = s.nv := by unfold giveBack; split <;> simp
@[simp] theorem giveBack_units (sp : Speaker) (q : Play) (s : State) : (giveBack sp q s).units = s.units := by unfold giveBack; split <;> simp
@[simp] theorem giveBack_service (sp : Speaker) (q : Play) (s : State) : (giveBack sp q s).service = s.service := by unfold giveBack; split <;> simp
@[simp] theorem giveBack_clock (sp : Speaker) (q : Play) (s : State) : (giveBack sp q s).clock = s.clock := by unfold giveBack; split <;> simp
@[simp] theorem giveBack_power (sp : Speaker) (q : Play) (s : State) : (giveBack sp q s).power = s.power := by unfold giveBack; split <;> simp
@[simp] theorem giveBack_port (sp : Speaker) (q : Play) (s : State) : (giveBack sp q s).port = s.port := by unfold giveBack; split <;> simp
@[simp] theorem giveBack_settings (sp : Speaker) (q : Play) (s : State) : (giveBack sp q s).settings = s.settings := by unfold giveBack; split <;> simp
@[simp] theorem giveBack_timers (sp : Speaker) (q : Play) (s : State) : (giveBack sp q s).timers = s.timers := by unfold giveBack; split <;> simp
@[simp] theorem giveBack_pins (sp : Speaker) (q : Play) (s : State) : (giveBack sp q s).pins = s.pins := by unfold giveBack; split <;> simp
@[simp] theorem giveBack_own (sp : Speaker) (q : Play) (s : State) : (giveBack sp q s).own = s.own := by unfold giveBack; split <;> simp

/-! ### quietAtBoundary -/

@[simp] theorem quietAtBoundary_pending (sp : Speaker) (s : State) : (quietAtBoundary sp s).pending = s.pending := by unfold quietAtBoundary; split <;> simp
@[simp] theorem quietAtBoundary_meas (sp : Speaker) (s : State) : (quietAtBoundary sp s).meas = s.meas := by unfold quietAtBoundary; split <;> simp
@[simp] theorem quietAtBoundary_gauge (sp : Speaker) (s : State) : (quietAtBoundary sp s).gauge = s.gauge := by unfold quietAtBoundary; split <;> simp
@[simp] theorem quietAtBoundary_fold (sp : Speaker) (s : State) : (quietAtBoundary sp s).fold = s.fold := by unfold quietAtBoundary; split <;> simp
@[simp] theorem quietAtBoundary_store (sp : Speaker) (s : State) : (quietAtBoundary sp s).store = s.store := by unfold quietAtBoundary; split <;> simp
@[simp] theorem quietAtBoundary_nv (sp : Speaker) (s : State) : (quietAtBoundary sp s).nv = s.nv := by unfold quietAtBoundary; split <;> simp
@[simp] theorem quietAtBoundary_units (sp : Speaker) (s : State) : (quietAtBoundary sp s).units = s.units := by unfold quietAtBoundary; split <;> simp
@[simp] theorem quietAtBoundary_warn (sp : Speaker) (s : State) : (quietAtBoundary sp s).warn = s.warn := by unfold quietAtBoundary; split <;> simp
@[simp] theorem quietAtBoundary_service (sp : Speaker) (s : State) : (quietAtBoundary sp s).service = s.service := by unfold quietAtBoundary; split <;> simp
@[simp] theorem quietAtBoundary_clock (sp : Speaker) (s : State) : (quietAtBoundary sp s).clock = s.clock := by unfold quietAtBoundary; split <;> simp
@[simp] theorem quietAtBoundary_power (sp : Speaker) (s : State) : (quietAtBoundary sp s).power = s.power := by unfold quietAtBoundary; split <;> simp
@[simp] theorem quietAtBoundary_port (sp : Speaker) (s : State) : (quietAtBoundary sp s).port = s.port := by unfold quietAtBoundary; split <;> simp
@[simp] theorem quietAtBoundary_settings (sp : Speaker) (s : State) : (quietAtBoundary sp s).settings = s.settings := by unfold quietAtBoundary; split <;> simp
@[simp] theorem quietAtBoundary_timers (sp : Speaker) (s : State) : (quietAtBoundary sp s).timers = s.timers := by unfold quietAtBoundary; split <;> simp
@[simp] theorem quietAtBoundary_pins (sp : Speaker) (s : State) : (quietAtBoundary sp s).pins = s.pins := by unfold quietAtBoundary; split <;> simp
@[simp] theorem quietAtBoundary_own (sp : Speaker) (s : State) : (quietAtBoundary sp s).own = s.own := by unfold quietAtBoundary; split <;> simp

/-! ### boundary -/

@[simp] theorem boundary_pending (sp : Speaker) (q : Play) (s : State) : (boundary sp q s).pending = s.pending := by unfold boundary; (repeat' split) <;> simp
@[simp] theorem boundary_meas (sp : Speaker) (q : Play) (s : State) : (boundary sp q s).meas = s.meas := by unfold boundary; (repeat' split) <;> simp
@[simp] theorem boundary_gauge (sp : Speaker) (q : Play) (s : State) : (boundary sp q s).gauge = s.gauge := by unfold boundary; (repeat' split) <;> simp
@[simp] theorem boundary_fold (sp : Speaker) (q : Play) (s : State) : (boundary sp q s).fold = s.fold := by unfold boundary; (repeat' split) <;> simp
@[simp] theorem boundary_store (sp : Speaker) (q : Play) (s : State) : (boundary sp q s).store = s.store := by unfold boundary; (repeat' split) <;> simp
@[simp] theorem boundary_nv (sp : Speaker) (q : Play) (s : State) : (boundary sp q s).nv = s.nv := by unfold boundary; (repeat' split) <;> simp
@[simp] theorem boundary_units (sp : Speaker) (q : Play) (s : State) : (boundary sp q s).units = s.units := by unfold boundary; (repeat' split) <;> simp
@[simp] theorem boundary_service (sp : Speaker) (q : Play) (s : State) : (boundary sp q s).service = s.service := by unfold boundary; (repeat' split) <;> simp
@[simp] theorem boundary_clock (sp : Speaker) (q : Play) (s : State) : (boundary sp q s).clock = s.clock := by unfold boundary; (repeat' split) <;> simp
@[simp] theorem boundary_power (sp : Speaker) (q : Play) (s : State) : (boundary sp q s).power = s.power := by unfold boundary; (repeat' split) <;> simp
@[simp] theorem boundary_settings (sp : Speaker) (q : Play) (s : State) : (boundary sp q s).settings = s.settings := by unfold boundary; (repeat' split) <;> simp
@[simp] theorem boundary_timers (sp : Speaker) (q : Play) (s : State) : (boundary sp q s).timers = s.timers := by unfold boundary; (repeat' split) <;> simp
@[simp] theorem boundary_pins (sp : Speaker) (q : Play) (s : State) : (boundary sp q s).pins = s.pins := by unfold boundary; (repeat' split) <;> simp
@[simp] theorem boundary_own (sp : Speaker) (q : Play) (s : State) : (boundary sp q s).own = s.own := by unfold boundary; (repeat' split) <;> simp

/-! ### suspendSpeaker -/

@[simp] theorem suspendSpeaker_pending (sp : Speaker) (s : State) : (suspendSpeaker sp s).pending = s.pending := by unfold suspendSpeaker; (repeat' split) <;> simp
@[simp] theorem suspendSpeaker_meas (sp : Speaker) (s : State) : (suspendSpeaker sp s).meas = s.meas := by unfold suspendSpeaker; (repeat' split) <;> simp
@[simp] theorem suspendSpeaker_gauge (sp : Speaker) (s : State) : (suspendSpeaker sp s).gauge = s.gauge := by unfold suspendSpeaker; (repeat' split) <;> simp
@[simp] theorem suspendSpeaker_fold (sp : Speaker) (s : State) : (suspendSpeaker sp s).fold = s.fold := by unfold suspendSpeaker; (repeat' split) <;> simp
@[simp] theorem suspendSpeaker_store (sp : Speaker) (s : State) : (suspendSpeaker sp s).store = s.store := by unfold suspendSpeaker; (repeat' split) <;> simp
@[simp] theorem suspendSpeaker_nv (sp : Speaker) (s : State) : (suspendSpeaker sp s).nv = s.nv := by unfold suspendSpeaker; (repeat' split) <;> simp
@[simp] theorem suspendSpeaker_units (sp : Speaker) (s : State) : (suspendSpeaker sp s).units = s.units := by unfold suspendSpeaker; (repeat' split) <;> simp
@[simp] theorem suspendSpeaker_service (sp : Speaker) (s : State) : (suspendSpeaker sp s).service = s.service := by unfold suspendSpeaker; (repeat' split) <;> simp
@[simp] theorem suspendSpeaker_clock (sp : Speaker) (s : State) : (suspendSpeaker sp s).clock = s.clock := by unfold suspendSpeaker; (repeat' split) <;> simp
@[simp] theorem suspendSpeaker_power (sp : Speaker) (s : State) : (suspendSpeaker sp s).power = s.power := by unfold suspendSpeaker; (repeat' split) <;> simp
@[simp] theorem suspendSpeaker_port (sp : Speaker) (s : State) : (suspendSpeaker sp s).port = s.port := by unfold suspendSpeaker; (repeat' split) <;> simp
@[simp] theorem suspendSpeaker_settings (sp : Speaker) (s : State) : (suspendSpeaker sp s).settings = s.settings := by unfold suspendSpeaker; (repeat' split) <;> simp
@[simp] theorem suspendSpeaker_timers (sp : Speaker) (s : State) : (suspendSpeaker sp s).timers = s.timers := by unfold suspendSpeaker; (repeat' split) <;> simp
@[simp] theorem suspendSpeaker_pins (sp : Speaker) (s : State) : (suspendSpeaker sp s).pins = s.pins := by unfold suspendSpeaker; (repeat' split) <;> simp
@[simp] theorem suspendSpeaker_own (sp : Speaker) (s : State) : (suspendSpeaker sp s).own = s.own := by unfold suspendSpeaker; (repeat' split) <;> simp

/-! ### suspendChimes -/

@[simp] theorem suspendChimes_pending (s : State) : (suspendChimes s).pending = s.pending := by simp only [suspendChimes]; split <;> simp
@[simp] theorem suspendChimes_meas (s : State) : (suspendChimes s).meas = s.meas := by simp only [suspendChimes]; split <;> simp
@[simp] theorem suspendChimes_gauge (s : State) : (suspendChimes s).gauge = s.gauge := by simp only [suspendChimes]; split <;> simp
@[simp] theorem suspendChimes_fold (s : State) : (suspendChimes s).fold = s.fold := by simp only [suspendChimes]; split <;> simp
@[simp] theorem suspendChimes_store (s : State) : (suspendChimes s).store = s.store := by simp only [suspendChimes]; split <;> simp
@[simp] theorem suspendChimes_nv (s : State) : (suspendChimes s).nv = s.nv := by simp only [suspendChimes]; split <;> simp
@[simp] theorem suspendChimes_units (s : State) : (suspendChimes s).units = s.units := by simp only [suspendChimes]; split <;> simp
@[simp] theorem suspendChimes_service (s : State) : (suspendChimes s).service = s.service := by simp only [suspendChimes]; split <;> simp
@[simp] theorem suspendChimes_clock (s : State) : (suspendChimes s).clock = s.clock := by simp only [suspendChimes]; split <;> simp
@[simp] theorem suspendChimes_power (s : State) : (suspendChimes s).power = s.power := by simp only [suspendChimes]; split <;> simp
@[simp] theorem suspendChimes_port (s : State) : (suspendChimes s).port = s.port := by simp only [suspendChimes]; split <;> simp
@[simp] theorem suspendChimes_settings (s : State) : (suspendChimes s).settings = s.settings := by simp only [suspendChimes]; split <;> simp
@[simp] theorem suspendChimes_timers (s : State) : (suspendChimes s).timers = s.timers := by simp only [suspendChimes]; split <;> simp
@[simp] theorem suspendChimes_pins (s : State) : (suspendChimes s).pins = s.pins := by simp only [suspendChimes]; split <;> simp
@[simp] theorem suspendChimes_own (s : State) : (suspendChimes s).own = s.own := by simp only [suspendChimes]; split <;> simp

/-! ### queueShare -/

@[simp] theorem queueShare_pending (sh : Share) (sp : Speaker) (e : QueueEntry) (s : State) : (queueShare sh sp e s).pending = s.pending := by unfold queueShare; split <;> simp
@[simp] theorem queueShare_meas (sh : Share) (sp : Speaker) (e : QueueEntry) (s : State) : (queueShare sh sp e s).meas = s.meas := by unfold queueShare; split <;> simp
@[simp] theorem queueShare_gauge (sh : Share) (sp : Speaker) (e : QueueEntry) (s : State) : (queueShare sh sp e s).gauge = s.gauge := by unfold queueShare; split <;> simp
@[simp] theorem queueShare_fold (sh : Share) (sp : Speaker) (e : QueueEntry) (s : State) : (queueShare sh sp e s).fold = s.fold := by unfold queueShare; split <;> simp
@[simp] theorem queueShare_store (sh : Share) (sp : Speaker) (e : QueueEntry) (s : State) : (queueShare sh sp e s).store = s.store := by unfold queueShare; split <;> simp
@[simp] theorem queueShare_nv (sh : Share) (sp : Speaker) (e : QueueEntry) (s : State) : (queueShare sh sp e s).nv = s.nv := by unfold queueShare; split <;> simp
@[simp] theorem queueShare_units (sh : Share) (sp : Speaker) (e : QueueEntry) (s : State) : (queueShare sh sp e s).units = s.units := by unfold queueShare; split <;> simp
@[simp] theorem queueShare_warn (sh : Share) (sp : Speaker) (e : QueueEntry) (s : State) : (queueShare sh sp e s).warn = s.warn := by unfold queueShare; split <;> simp
@[simp] theorem queueShare_service (sh : Share) (sp : Speaker) (e : QueueEntry) (s : State) : (queueShare sh sp e s).service = s.service := by unfold queueShare; split <;> simp
@[simp] theorem queueShare_clock (sh : Share) (sp : Speaker) (e : QueueEntry) (s : State) : (queueShare sh sp e s).clock = s.clock := by unfold queueShare; split <;> simp
@[simp] theorem queueShare_power (sh : Share) (sp : Speaker) (e : QueueEntry) (s : State) : (queueShare sh sp e s).power = s.power := by unfold queueShare; split <;> simp
@[simp] theorem queueShare_port (sh : Share) (sp : Speaker) (e : QueueEntry) (s : State) : (queueShare sh sp e s).port = s.port := by unfold queueShare; split <;> simp
@[simp] theorem queueShare_settings (sh : Share) (sp : Speaker) (e : QueueEntry) (s : State) : (queueShare sh sp e s).settings = s.settings := by unfold queueShare; split <;> simp
@[simp] theorem queueShare_timers (sh : Share) (sp : Speaker) (e : QueueEntry) (s : State) : (queueShare sh sp e s).timers = s.timers := by unfold queueShare; split <;> simp
@[simp] theorem queueShare_pins (sh : Share) (sp : Speaker) (e : QueueEntry) (s : State) : (queueShare sh sp e s).pins = s.pins := by unfold queueShare; split <;> simp
@[simp] theorem queueShare_own (sh : Share) (sp : Speaker) (e : QueueEntry) (s : State) : (queueShare sh sp e s).own = s.own := by unfold queueShare; split <;> simp

/-! ### arbitrate -/

@[simp] theorem arbitrate_pending (s : State) : (arbitrate s).pending = s.pending := by unfold arbitrate; (repeat' split) <;> simp
@[simp] theorem arbitrate_meas (s : State) : (arbitrate s).meas = s.meas := by unfold arbitrate; (repeat' split) <;> simp
@[simp] theorem arbitrate_gauge (s : State) : (arbitrate s).gauge = s.gauge := by unfold arbitrate; (repeat' split) <;> simp
@[simp] theorem arbitrate_fold (s : State) : (arbitrate s).fold = s.fold := by unfold arbitrate; (repeat' split) <;> simp
@[simp] theorem arbitrate_nv (s : State) : (arbitrate s).nv = s.nv := by unfold arbitrate; (repeat' split) <;> simp
@[simp] theorem arbitrate_units (s : State) : (arbitrate s).units = s.units := by unfold arbitrate; (repeat' split) <;> simp
@[simp] theorem arbitrate_warn (s : State) : (arbitrate s).warn = s.warn := by unfold arbitrate; (repeat' split) <;> simp
@[simp] theorem arbitrate_chime (s : State) : (arbitrate s).chime = s.chime := by unfold arbitrate; (repeat' split) <;> simp
@[simp] theorem arbitrate_service (s : State) : (arbitrate s).service = s.service := by unfold arbitrate; (repeat' split) <;> simp
@[simp] theorem arbitrate_clock (s : State) : (arbitrate s).clock = s.clock := by unfold arbitrate; (repeat' split) <;> simp
@[simp] theorem arbitrate_power (s : State) : (arbitrate s).power = s.power := by unfold arbitrate; (repeat' split) <;> simp
@[simp] theorem arbitrate_port (s : State) : (arbitrate s).port = s.port := by unfold arbitrate; (repeat' split) <;> simp
@[simp] theorem arbitrate_settings (s : State) : (arbitrate s).settings = s.settings := by unfold arbitrate; (repeat' split) <;> simp
@[simp] theorem arbitrate_timers (s : State) : (arbitrate s).timers = s.timers := by unfold arbitrate; (repeat' split) <;> simp
@[simp] theorem arbitrate_pins (s : State) : (arbitrate s).pins = s.pins := by unfold arbitrate; (repeat' split) <;> simp
@[simp] theorem arbitrate_own (s : State) : (arbitrate s).own = s.own := by unfold arbitrate; (repeat' split) <;> simp

/-! ### moveGauges -/

@[simp] theorem moveGauges_pending (s : State) : (moveGauges s).pending = s.pending := rfl
@[simp] theorem moveGauges_meas (s : State) : (moveGauges s).meas = s.meas := rfl
@[simp] theorem moveGauges_fold (s : State) : (moveGauges s).fold = s.fold := rfl
@[simp] theorem moveGauges_store (s : State) : (moveGauges s).store = s.store := rfl
@[simp] theorem moveGauges_nv (s : State) : (moveGauges s).nv = s.nv := rfl
@[simp] theorem moveGauges_units (s : State) : (moveGauges s).units = s.units := rfl
@[simp] theorem moveGauges_warn (s : State) : (moveGauges s).warn = s.warn := rfl
@[simp] theorem moveGauges_chime (s : State) : (moveGauges s).chime = s.chime := rfl
@[simp] theorem moveGauges_service (s : State) : (moveGauges s).service = s.service := rfl
@[simp] theorem moveGauges_clock (s : State) : (moveGauges s).clock = s.clock := rfl
@[simp] theorem moveGauges_power (s : State) : (moveGauges s).power = s.power := rfl
@[simp] theorem moveGauges_port (s : State) : (moveGauges s).port = s.port := rfl
@[simp] theorem moveGauges_settings (s : State) : (moveGauges s).settings = s.settings := rfl
@[simp] theorem moveGauges_timers (s : State) : (moveGauges s).timers = s.timers := rfl
@[simp] theorem moveGauges_pins (s : State) : (moveGauges s).pins = s.pins := rfl
@[simp] theorem moveGauges_own (s : State) : (moveGauges s).own = s.own := rfl

/-! ### countSilence -/

@[simp] theorem countSilence_pending (s : State) : (countSilence s).pending = s.pending := by
  unfold countSilence; split
  · rfl
  · split_ifs <;> rfl
@[simp] theorem countSilence_meas (s : State) : (countSilence s).meas = s.meas := by
  unfold countSilence; split
  · rfl
  · split_ifs <;> rfl
@[simp] theorem countSilence_fold (s : State) : (countSilence s).fold = s.fold := by
  unfold countSilence; split
  · rfl
  · split_ifs <;> rfl
@[simp] theorem countSilence_store (s : State) : (countSilence s).store = s.store := by
  unfold countSilence; split
  · rfl
  · split_ifs <;> rfl
@[simp] theorem countSilence_nv (s : State) : (countSilence s).nv = s.nv := by
  unfold countSilence; split
  · rfl
  · split_ifs <;> rfl
@[simp] theorem countSilence_units (s : State) : (countSilence s).units = s.units := by
  unfold countSilence; split
  · rfl
  · split_ifs <;> rfl
@[simp] theorem countSilence_warn (s : State) : (countSilence s).warn = s.warn := by
  unfold countSilence; split
  · rfl
  · split_ifs <;> rfl
@[simp] theorem countSilence_chime (s : State) : (countSilence s).chime = s.chime := by
  unfold countSilence; split
  · rfl
  · split_ifs <;> rfl
@[simp] theorem countSilence_service (s : State) : (countSilence s).service = s.service := by
  unfold countSilence; split
  · rfl
  · split_ifs <;> rfl
@[simp] theorem countSilence_clock (s : State) : (countSilence s).clock = s.clock := by
  unfold countSilence; split
  · rfl
  · split_ifs <;> rfl
@[simp] theorem countSilence_power (s : State) : (countSilence s).power = s.power := by
  unfold countSilence; split
  · rfl
  · split_ifs <;> rfl
@[simp] theorem countSilence_port (s : State) : (countSilence s).port = s.port := by
  unfold countSilence; split
  · rfl
  · split_ifs <;> rfl
@[simp] theorem countSilence_settings (s : State) : (countSilence s).settings = s.settings := by
  unfold countSilence; split
  · rfl
  · split_ifs <;> rfl
@[simp] theorem countSilence_timers (s : State) : (countSilence s).timers = s.timers := by
  unfold countSilence; split
  · rfl
  · split_ifs <;> rfl
@[simp] theorem countSilence_pins (s : State) : (countSilence s).pins = s.pins := by
  unfold countSilence; split
  · rfl
  · split_ifs <;> rfl
@[simp] theorem countSilence_own (s : State) : (countSilence s).own = s.own := by
  unfold countSilence; split
  · rfl
  · split_ifs <;> rfl

/-! ### stepGauges -/

@[simp] theorem stepGauges_pending (s : State) : (stepGauges s).pending = s.pending := by simp [stepGauges]
@[simp] theorem stepGauges_meas (s : State) : (stepGauges s).meas = s.meas := by simp [stepGauges]
@[simp] theorem stepGauges_fold (s : State) : (stepGauges s).fold = s.fold := by simp [stepGauges]
@[simp] theorem stepGauges_store (s : State) : (stepGauges s).store = s.store := by simp [stepGauges]
@[simp] theorem stepGauges_nv (s : State) : (stepGauges s).nv = s.nv := by simp [stepGauges]
@[simp] theorem stepGauges_units (s : State) : (stepGauges s).units = s.units := by simp [stepGauges]
@[simp] theorem stepGauges_warn (s : State) : (stepGauges s).warn = s.warn := by simp [stepGauges]
@[simp] theorem stepGauges_chime (s : State) : (stepGauges s).chime = s.chime := by simp [stepGauges]
@[simp] theorem stepGauges_service (s : State) : (stepGauges s).service = s.service := by simp [stepGauges]
@[simp] theorem stepGauges_clock (s : State) : (stepGauges s).clock = s.clock := by simp [stepGauges]
@[simp] theorem stepGauges_power (s : State) : (stepGauges s).power = s.power := by simp [stepGauges]
@[simp] theorem stepGauges_port (s : State) : (stepGauges s).port = s.port := by simp [stepGauges]
@[simp] theorem stepGauges_settings (s : State) : (stepGauges s).settings = s.settings := by simp [stepGauges]
@[simp] theorem stepGauges_timers (s : State) : (stepGauges s).timers = s.timers := by simp [stepGauges]
@[simp] theorem stepGauges_pins (s : State) : (stepGauges s).pins = s.pins := by simp [stepGauges]
@[simp] theorem stepGauges_own (s : State) : (stepGauges s).own = s.own := by simp [stepGauges]

/-! ### releaseAllManual -/

@[simp] theorem releaseAllManual_pending (s : State) : (releaseAllManual s).pending = s.pending := rfl
@[simp] theorem releaseAllManual_meas (s : State) : (releaseAllManual s).meas = s.meas := rfl
@[simp] theorem releaseAllManual_fold (s : State) : (releaseAllManual s).fold = s.fold := rfl
@[simp] theorem releaseAllManual_store (s : State) : (releaseAllManual s).store = s.store := rfl
@[simp] theorem releaseAllManual_nv (s : State) : (releaseAllManual s).nv = s.nv := rfl
@[simp] theorem releaseAllManual_units (s : State) : (releaseAllManual s).units = s.units := rfl
@[simp] theorem releaseAllManual_warn (s : State) : (releaseAllManual s).warn = s.warn := rfl
@[simp] theorem releaseAllManual_chime (s : State) : (releaseAllManual s).chime = s.chime := rfl
@[simp] theorem releaseAllManual_service (s : State) : (releaseAllManual s).service = s.service := rfl
@[simp] theorem releaseAllManual_clock (s : State) : (releaseAllManual s).clock = s.clock := rfl
@[simp] theorem releaseAllManual_power (s : State) : (releaseAllManual s).power = s.power := rfl
@[simp] theorem releaseAllManual_port (s : State) : (releaseAllManual s).port = s.port := rfl
@[simp] theorem releaseAllManual_settings (s : State) : (releaseAllManual s).settings = s.settings := rfl
@[simp] theorem releaseAllManual_timers (s : State) : (releaseAllManual s).timers = s.timers := rfl
@[simp] theorem releaseAllManual_pins (s : State) : (releaseAllManual s).pins = s.pins := rfl
@[simp] theorem releaseAllManual_own (s : State) : (releaseAllManual s).own = s.own := rfl

/-! ### frameStart -/

@[simp] theorem frameStart_pending (s : State) : (frameStart s).pending = s.pending := rfl
@[simp] theorem frameStart_meas (s : State) : (frameStart s).meas = s.meas := rfl
@[simp] theorem frameStart_fold (s : State) : (frameStart s).fold = s.fold := rfl
@[simp] theorem frameStart_store (s : State) : (frameStart s).store = s.store := rfl
@[simp] theorem frameStart_nv (s : State) : (frameStart s).nv = s.nv := rfl
@[simp] theorem frameStart_units (s : State) : (frameStart s).units = s.units := rfl
@[simp] theorem frameStart_warn (s : State) : (frameStart s).warn = s.warn := rfl
@[simp] theorem frameStart_chime (s : State) : (frameStart s).chime = s.chime := rfl
@[simp] theorem frameStart_service (s : State) : (frameStart s).service = s.service := rfl
@[simp] theorem frameStart_clock (s : State) : (frameStart s).clock = s.clock := rfl
@[simp] theorem frameStart_power (s : State) : (frameStart s).power = s.power := rfl
@[simp] theorem frameStart_port (s : State) : (frameStart s).port = s.port := rfl
@[simp] theorem frameStart_settings (s : State) : (frameStart s).settings = s.settings := rfl
@[simp] theorem frameStart_timers (s : State) :
    (frameStart s).timers = { s.timers with frame := framePhase s.timers.frame } := rfl
@[simp] theorem frameStart_pins (s : State) : (frameStart s).pins = s.pins := rfl
@[simp] theorem frameStart_own (s : State) : (frameStart s).own = s.own := rfl

/-! ### returnRequest -/

@[simp] theorem returnRequest_pending (s : State) : (returnRequest s).pending = s.pending := rfl
@[simp] theorem returnRequest_meas (s : State) : (returnRequest s).meas = s.meas := rfl
@[simp] theorem returnRequest_fold (s : State) : (returnRequest s).fold = s.fold := rfl
@[simp] theorem returnRequest_store (s : State) : (returnRequest s).store = s.store := rfl
@[simp] theorem returnRequest_nv (s : State) : (returnRequest s).nv = s.nv := rfl
@[simp] theorem returnRequest_units (s : State) : (returnRequest s).units = s.units := rfl
@[simp] theorem returnRequest_warn (s : State) : (returnRequest s).warn = s.warn := rfl
@[simp] theorem returnRequest_chime (s : State) : (returnRequest s).chime = s.chime := rfl
@[simp] theorem returnRequest_service (s : State) : (returnRequest s).service = s.service := rfl
@[simp] theorem returnRequest_clock (s : State) : (returnRequest s).clock = s.clock := rfl
@[simp] theorem returnRequest_power (s : State) : (returnRequest s).power = s.power := rfl
@[simp] theorem returnRequest_port (s : State) : (returnRequest s).port = s.port := rfl
@[simp] theorem returnRequest_settings (s : State) : (returnRequest s).settings = s.settings := rfl
@[simp] theorem returnRequest_timers (s : State) : (returnRequest s).timers = s.timers := rfl
@[simp] theorem returnRequest_pins (s : State) : (returnRequest s).pins = s.pins := rfl
@[simp] theorem returnRequest_own (s : State) : (returnRequest s).own = s.own := rfl

/-! ### returnEnded -/

@[simp] theorem returnEnded_pending (s : State) : (returnEnded s).pending = s.pending := by unfold returnEnded; split <;> simp
@[simp] theorem returnEnded_meas (s : State) : (returnEnded s).meas = s.meas := by unfold returnEnded; split <;> simp
@[simp] theorem returnEnded_fold (s : State) : (returnEnded s).fold = s.fold := by unfold returnEnded; split <;> simp
@[simp] theorem returnEnded_store (s : State) : (returnEnded s).store = s.store := by unfold returnEnded; split <;> simp
@[simp] theorem returnEnded_nv (s : State) : (returnEnded s).nv = s.nv := by unfold returnEnded; split <;> simp
@[simp] theorem returnEnded_units (s : State) : (returnEnded s).units = s.units := by unfold returnEnded; split <;> simp
@[simp] theorem returnEnded_warn (s : State) : (returnEnded s).warn = s.warn := by unfold returnEnded; split <;> simp
@[simp] theorem returnEnded_chime (s : State) : (returnEnded s).chime = s.chime := by unfold returnEnded; split <;> simp
@[simp] theorem returnEnded_service (s : State) : (returnEnded s).service = s.service := by unfold returnEnded; split <;> simp
@[simp] theorem returnEnded_clock (s : State) : (returnEnded s).clock = s.clock := by unfold returnEnded; split <;> simp
@[simp] theorem returnEnded_power (s : State) : (returnEnded s).power = s.power := by unfold returnEnded; split <;> simp
@[simp] theorem returnEnded_port (s : State) : (returnEnded s).port = s.port := by unfold returnEnded; split <;> simp
@[simp] theorem returnEnded_settings (s : State) : (returnEnded s).settings = s.settings := by unfold returnEnded; split <;> simp
@[simp] theorem returnEnded_timers (s : State) : (returnEnded s).timers = s.timers := by unfold returnEnded; split <;> simp
@[simp] theorem returnEnded_pins (s : State) : (returnEnded s).pins = s.pins := by unfold returnEnded; split <;> simp
@[simp] theorem returnEnded_own (s : State) : (returnEnded s).own = s.own := by unfold returnEnded; split <;> simp

/-! ### gaugesRunEntry -/

@[simp] theorem gaugesRunEntry_pending (b : Bool) (s : State) : (gaugesRunEntry b s).pending = s.pending := rfl
@[simp] theorem gaugesRunEntry_meas (b : Bool) (s : State) : (gaugesRunEntry b s).meas = s.meas := rfl
@[simp] theorem gaugesRunEntry_fold (b : Bool) (s : State) : (gaugesRunEntry b s).fold = s.fold := rfl
@[simp] theorem gaugesRunEntry_store (b : Bool) (s : State) : (gaugesRunEntry b s).store = s.store := rfl
@[simp] theorem gaugesRunEntry_nv (b : Bool) (s : State) : (gaugesRunEntry b s).nv = s.nv := rfl
@[simp] theorem gaugesRunEntry_units (b : Bool) (s : State) : (gaugesRunEntry b s).units = s.units := rfl
@[simp] theorem gaugesRunEntry_warn (b : Bool) (s : State) : (gaugesRunEntry b s).warn = s.warn := rfl
@[simp] theorem gaugesRunEntry_chime (b : Bool) (s : State) : (gaugesRunEntry b s).chime = s.chime := rfl
@[simp] theorem gaugesRunEntry_service (b : Bool) (s : State) : (gaugesRunEntry b s).service = s.service := rfl
@[simp] theorem gaugesRunEntry_clock (b : Bool) (s : State) : (gaugesRunEntry b s).clock = s.clock := rfl
@[simp] theorem gaugesRunEntry_power (b : Bool) (s : State) : (gaugesRunEntry b s).power = s.power := rfl
@[simp] theorem gaugesRunEntry_port (b : Bool) (s : State) : (gaugesRunEntry b s).port = s.port := rfl
@[simp] theorem gaugesRunEntry_settings (b : Bool) (s : State) : (gaugesRunEntry b s).settings = s.settings := rfl
@[simp] theorem gaugesRunEntry_timers (b : Bool) (s : State) : (gaugesRunEntry b s).timers = s.timers := rfl
@[simp] theorem gaugesRunEntry_pins (b : Bool) (s : State) : (gaugesRunEntry b s).pins = s.pins := rfl
@[simp] theorem gaugesRunEntry_own (b : Bool) (s : State) : (gaugesRunEntry b s).own = s.own := rfl

/-! ### gaugesLeaveRun -/

@[simp] theorem gaugesLeaveRun_pending (s : State) : (gaugesLeaveRun s).pending = s.pending := rfl
@[simp] theorem gaugesLeaveRun_meas (s : State) : (gaugesLeaveRun s).meas = s.meas := rfl
@[simp] theorem gaugesLeaveRun_fold (s : State) : (gaugesLeaveRun s).fold = s.fold := rfl
@[simp] theorem gaugesLeaveRun_store (s : State) : (gaugesLeaveRun s).store = s.store := rfl
@[simp] theorem gaugesLeaveRun_nv (s : State) : (gaugesLeaveRun s).nv = s.nv := rfl
@[simp] theorem gaugesLeaveRun_units (s : State) : (gaugesLeaveRun s).units = s.units := rfl
@[simp] theorem gaugesLeaveRun_warn (s : State) : (gaugesLeaveRun s).warn = s.warn := rfl
@[simp] theorem gaugesLeaveRun_chime (s : State) : (gaugesLeaveRun s).chime = s.chime := rfl
@[simp] theorem gaugesLeaveRun_service (s : State) : (gaugesLeaveRun s).service = s.service := rfl
@[simp] theorem gaugesLeaveRun_clock (s : State) : (gaugesLeaveRun s).clock = s.clock := rfl
@[simp] theorem gaugesLeaveRun_power (s : State) : (gaugesLeaveRun s).power = s.power := rfl
@[simp] theorem gaugesLeaveRun_port (s : State) : (gaugesLeaveRun s).port = s.port := rfl
@[simp] theorem gaugesLeaveRun_settings (s : State) : (gaugesLeaveRun s).settings = s.settings := rfl
@[simp] theorem gaugesLeaveRun_timers (s : State) : (gaugesLeaveRun s).timers = s.timers := rfl
@[simp] theorem gaugesLeaveRun_pins (s : State) : (gaugesLeaveRun s).pins = s.pins := rfl
@[simp] theorem gaugesLeaveRun_own (s : State) : (gaugesLeaveRun s).own = s.own := rfl

/-! ### startWrite -/

@[simp] theorem startWrite_pending (s : State) : (startWrite s).pending = s.pending := by unfold startWrite; (repeat' split) <;> simp
@[simp] theorem startWrite_meas (s : State) : (startWrite s).meas = s.meas := by unfold startWrite; (repeat' split) <;> simp
@[simp] theorem startWrite_gauge (s : State) : (startWrite s).gauge = s.gauge := by unfold startWrite; (repeat' split) <;> simp
@[simp] theorem startWrite_fold (s : State) : (startWrite s).fold = s.fold := by unfold startWrite; (repeat' split) <;> simp
@[simp] theorem startWrite_store (s : State) : (startWrite s).store = s.store := by unfold startWrite; (repeat' split) <;> simp
@[simp] theorem startWrite_units (s : State) : (startWrite s).units = s.units := by unfold startWrite; (repeat' split) <;> simp
@[simp] theorem startWrite_warn (s : State) : (startWrite s).warn = s.warn := by unfold startWrite; (repeat' split) <;> simp
@[simp] theorem startWrite_chime (s : State) : (startWrite s).chime = s.chime := by unfold startWrite; (repeat' split) <;> simp
@[simp] theorem startWrite_service (s : State) : (startWrite s).service = s.service := by unfold startWrite; (repeat' split) <;> simp
@[simp] theorem startWrite_clock (s : State) : (startWrite s).clock = s.clock := by unfold startWrite; (repeat' split) <;> simp
@[simp] theorem startWrite_power (s : State) : (startWrite s).power = s.power := by unfold startWrite; (repeat' split) <;> simp
@[simp] theorem startWrite_port (s : State) : (startWrite s).port = s.port := by unfold startWrite; (repeat' split) <;> simp
@[simp] theorem startWrite_settings (s : State) : (startWrite s).settings = s.settings := by unfold startWrite; (repeat' split) <;> simp
@[simp] theorem startWrite_timers (s : State) : (startWrite s).timers = s.timers := by unfold startWrite; (repeat' split) <;> simp
@[simp] theorem startWrite_pins (s : State) : (startWrite s).pins = s.pins := by unfold startWrite; (repeat' split) <;> simp
@[simp] theorem startWrite_own (s : State) : (startWrite s).own = s.own := by unfold startWrite; (repeat' split) <;> simp

/-! ### cutFlight -/

@[simp] theorem cutFlight_pending (s : State) : (cutFlight s).pending = s.pending := by unfold cutFlight; split <;> simp
@[simp] theorem cutFlight_meas (s : State) : (cutFlight s).meas = s.meas := by unfold cutFlight; split <;> simp
@[simp] theorem cutFlight_gauge (s : State) : (cutFlight s).gauge = s.gauge := by unfold cutFlight; split <;> simp
@[simp] theorem cutFlight_fold (s : State) : (cutFlight s).fold = s.fold := by unfold cutFlight; split <;> simp
@[simp] theorem cutFlight_store (s : State) : (cutFlight s).store = s.store := by unfold cutFlight; split <;> simp
@[simp] theorem cutFlight_units (s : State) : (cutFlight s).units = s.units := by unfold cutFlight; split <;> simp
@[simp] theorem cutFlight_warn (s : State) : (cutFlight s).warn = s.warn := by unfold cutFlight; split <;> simp
@[simp] theorem cutFlight_chime (s : State) : (cutFlight s).chime = s.chime := by unfold cutFlight; split <;> simp
@[simp] theorem cutFlight_service (s : State) : (cutFlight s).service = s.service := by unfold cutFlight; split <;> simp
@[simp] theorem cutFlight_clock (s : State) : (cutFlight s).clock = s.clock := by unfold cutFlight; split <;> simp
@[simp] theorem cutFlight_power (s : State) : (cutFlight s).power = s.power := by unfold cutFlight; split <;> simp
@[simp] theorem cutFlight_port (s : State) : (cutFlight s).port = s.port := by unfold cutFlight; split <;> simp
@[simp] theorem cutFlight_settings (s : State) : (cutFlight s).settings = s.settings := by unfold cutFlight; split <;> simp
@[simp] theorem cutFlight_timers (s : State) : (cutFlight s).timers = s.timers := by unfold cutFlight; split <;> simp
@[simp] theorem cutFlight_pins (s : State) : (cutFlight s).pins = s.pins := by unfold cutFlight; split <;> simp
@[simp] theorem cutFlight_own (s : State) : (cutFlight s).own = s.own := by unfold cutFlight; split <;> simp

/-! ### restartDelay -/

@[simp] theorem restartDelay_pending (n : Nat) (s : State) : (restartDelay n s).pending = s.pending := by unfold restartDelay; split <;> simp
@[simp] theorem restartDelay_meas (n : Nat) (s : State) : (restartDelay n s).meas = s.meas := by unfold restartDelay; split <;> simp
@[simp] theorem restartDelay_gauge (n : Nat) (s : State) : (restartDelay n s).gauge = s.gauge := by unfold restartDelay; split <;> simp
@[simp] theorem restartDelay_fold (n : Nat) (s : State) : (restartDelay n s).fold = s.fold := by unfold restartDelay; split <;> simp
@[simp] theorem restartDelay_store (n : Nat) (s : State) : (restartDelay n s).store = s.store := by unfold restartDelay; split <;> simp
@[simp] theorem restartDelay_nv (n : Nat) (s : State) : (restartDelay n s).nv = s.nv := by unfold restartDelay; split <;> simp
@[simp] theorem restartDelay_units (n : Nat) (s : State) : (restartDelay n s).units = s.units := by unfold restartDelay; split <;> simp
@[simp] theorem restartDelay_warn (n : Nat) (s : State) : (restartDelay n s).warn = s.warn := by unfold restartDelay; split <;> simp
@[simp] theorem restartDelay_chime (n : Nat) (s : State) : (restartDelay n s).chime = s.chime := by unfold restartDelay; split <;> simp
@[simp] theorem restartDelay_service (n : Nat) (s : State) : (restartDelay n s).service = s.service := by unfold restartDelay; split <;> simp
@[simp] theorem restartDelay_clock (n : Nat) (s : State) : (restartDelay n s).clock = s.clock := by unfold restartDelay; split <;> simp
@[simp] theorem restartDelay_port (n : Nat) (s : State) : (restartDelay n s).port = s.port := by unfold restartDelay; split <;> simp
@[simp] theorem restartDelay_settings (n : Nat) (s : State) : (restartDelay n s).settings = s.settings := by unfold restartDelay; split <;> simp
@[simp] theorem restartDelay_timers (n : Nat) (s : State) : (restartDelay n s).timers = s.timers := by unfold restartDelay; split <;> simp
@[simp] theorem restartDelay_pins (n : Nat) (s : State) : (restartDelay n s).pins = s.pins := by unfold restartDelay; split <;> simp
@[simp] theorem restartDelay_own (n : Nat) (s : State) : (restartDelay n s).own = s.own := by unfold restartDelay; split <;> simp

/-! ### endParkEntry -/

@[simp] theorem endParkEntry_pending (s : State) : (endParkEntry s).pending = s.pending := by unfold endParkEntry; split <;> simp
@[simp] theorem endParkEntry_meas (s : State) : (endParkEntry s).meas = s.meas := by unfold endParkEntry; split <;> simp
@[simp] theorem endParkEntry_fold (s : State) : (endParkEntry s).fold = s.fold := by unfold endParkEntry; split <;> simp
@[simp] theorem endParkEntry_store (s : State) : (endParkEntry s).store = s.store := by unfold endParkEntry; split <;> simp
@[simp] theorem endParkEntry_nv (s : State) : (endParkEntry s).nv = s.nv := by unfold endParkEntry; split <;> simp
@[simp] theorem endParkEntry_units (s : State) : (endParkEntry s).units = s.units := by unfold endParkEntry; split <;> simp
@[simp] theorem endParkEntry_warn (s : State) : (endParkEntry s).warn = s.warn := by unfold endParkEntry; split <;> simp
@[simp] theorem endParkEntry_chime (s : State) : (endParkEntry s).chime = s.chime := by unfold endParkEntry; split <;> simp
@[simp] theorem endParkEntry_service (s : State) : (endParkEntry s).service = s.service := by unfold endParkEntry; split <;> simp
@[simp] theorem endParkEntry_clock (s : State) : (endParkEntry s).clock = s.clock := by unfold endParkEntry; split <;> simp
@[simp] theorem endParkEntry_port (s : State) : (endParkEntry s).port = s.port := by unfold endParkEntry; split <;> simp
@[simp] theorem endParkEntry_settings (s : State) : (endParkEntry s).settings = s.settings := by unfold endParkEntry; split <;> simp
@[simp] theorem endParkEntry_timers (s : State) : (endParkEntry s).timers = s.timers := by unfold endParkEntry; split <;> simp
@[simp] theorem endParkEntry_pins (s : State) : (endParkEntry s).pins = s.pins := by unfold endParkEntry; split <;> simp
@[simp] theorem endParkEntry_own (s : State) : (endParkEntry s).own = s.own := by unfold endParkEntry; split <;> simp

/-! ### endDelayPark -/

@[simp] theorem endDelayPark_pending (s : State) : (endDelayPark s).pending = s.pending := by unfold endDelayPark; split <;> simp
@[simp] theorem endDelayPark_meas (s : State) : (endDelayPark s).meas = s.meas := by unfold endDelayPark; split <;> simp
@[simp] theorem endDelayPark_fold (s : State) : (endDelayPark s).fold = s.fold := by unfold endDelayPark; split <;> simp
@[simp] theorem endDelayPark_store (s : State) : (endDelayPark s).store = s.store := by unfold endDelayPark; split <;> simp
@[simp] theorem endDelayPark_nv (s : State) : (endDelayPark s).nv = s.nv := by unfold endDelayPark; split <;> simp
@[simp] theorem endDelayPark_units (s : State) : (endDelayPark s).units = s.units := by unfold endDelayPark; split <;> simp
@[simp] theorem endDelayPark_warn (s : State) : (endDelayPark s).warn = s.warn := by unfold endDelayPark; split <;> simp
@[simp] theorem endDelayPark_chime (s : State) : (endDelayPark s).chime = s.chime := by unfold endDelayPark; split <;> simp
@[simp] theorem endDelayPark_service (s : State) : (endDelayPark s).service = s.service := by unfold endDelayPark; split <;> simp
@[simp] theorem endDelayPark_clock (s : State) : (endDelayPark s).clock = s.clock := by unfold endDelayPark; split <;> simp
@[simp] theorem endDelayPark_port (s : State) : (endDelayPark s).port = s.port := by unfold endDelayPark; split <;> simp
@[simp] theorem endDelayPark_settings (s : State) : (endDelayPark s).settings = s.settings := by unfold endDelayPark; split <;> simp
@[simp] theorem endDelayPark_timers (s : State) : (endDelayPark s).timers = s.timers := by unfold endDelayPark; split <;> simp
@[simp] theorem endDelayPark_pins (s : State) : (endDelayPark s).pins = s.pins := by unfold endDelayPark; split <;> simp
@[simp] theorem endDelayPark_own (s : State) : (endDelayPark s).own = s.own := by unfold endDelayPark; split <;> simp

/-! ### activity -/

@[simp] theorem activity_pending (s : State) : (activity s).pending = s.pending := by simp [activity]
@[simp] theorem activity_meas (s : State) : (activity s).meas = s.meas := by simp [activity]
@[simp] theorem activity_fold (s : State) : (activity s).fold = s.fold := by simp [activity]
@[simp] theorem activity_store (s : State) : (activity s).store = s.store := by simp [activity]
@[simp] theorem activity_nv (s : State) : (activity s).nv = s.nv := by simp [activity]
@[simp] theorem activity_units (s : State) : (activity s).units = s.units := by simp [activity]
@[simp] theorem activity_warn (s : State) : (activity s).warn = s.warn := by simp [activity]
@[simp] theorem activity_chime (s : State) : (activity s).chime = s.chime := by simp [activity]
@[simp] theorem activity_service (s : State) : (activity s).service = s.service := by simp [activity]
@[simp] theorem activity_clock (s : State) : (activity s).clock = s.clock := by simp [activity]
@[simp] theorem activity_port (s : State) : (activity s).port = s.port := by simp [activity]
@[simp] theorem activity_settings (s : State) : (activity s).settings = s.settings := by simp [activity]
@[simp] theorem activity_timers (s : State) : (activity s).timers = s.timers := by simp [activity]
@[simp] theorem activity_pins (s : State) : (activity s).pins = s.pins := by simp [activity]
@[simp] theorem activity_own (s : State) : (activity s).own = s.own := by simp [activity]

/-! ### beginPark -/

@[simp] theorem beginPark_pending (c : ParkCause) (s : State) : (beginPark c s).pending = s.pending := rfl
@[simp] theorem beginPark_meas (c : ParkCause) (s : State) : (beginPark c s).meas = s.meas := rfl
@[simp] theorem beginPark_fold (c : ParkCause) (s : State) : (beginPark c s).fold = s.fold := rfl
@[simp] theorem beginPark_store (c : ParkCause) (s : State) : (beginPark c s).store = s.store := rfl
@[simp] theorem beginPark_units (c : ParkCause) (s : State) : (beginPark c s).units = s.units := rfl
@[simp] theorem beginPark_warn (c : ParkCause) (s : State) : (beginPark c s).warn = s.warn := rfl
@[simp] theorem beginPark_chime (c : ParkCause) (s : State) : (beginPark c s).chime = s.chime := rfl
@[simp] theorem beginPark_service (c : ParkCause) (s : State) : (beginPark c s).service = s.service := rfl
@[simp] theorem beginPark_clock (c : ParkCause) (s : State) : (beginPark c s).clock = s.clock := rfl
@[simp] theorem beginPark_port (c : ParkCause) (s : State) : (beginPark c s).port = s.port := rfl
@[simp] theorem beginPark_settings (c : ParkCause) (s : State) : (beginPark c s).settings = s.settings := rfl
@[simp] theorem beginPark_timers (c : ParkCause) (s : State) : (beginPark c s).timers = s.timers := rfl
@[simp] theorem beginPark_pins (c : ParkCause) (s : State) : (beginPark c s).pins = s.pins := rfl
@[simp] theorem beginPark_own (c : ParkCause) (s : State) : (beginPark c s).own = s.own := rfl

/-! ### settlePark -/

@[simp] theorem settlePark_pending (s : State) : (settlePark s).pending = s.pending := by simp only [settlePark]; split_ifs <;> simp
@[simp] theorem settlePark_meas (s : State) : (settlePark s).meas = s.meas := by simp only [settlePark]; split_ifs <;> simp
@[simp] theorem settlePark_fold (s : State) : (settlePark s).fold = s.fold := by simp only [settlePark]; split_ifs <;> simp
@[simp] theorem settlePark_store (s : State) : (settlePark s).store = s.store := by simp only [settlePark]; split_ifs <;> simp
@[simp] theorem settlePark_units (s : State) : (settlePark s).units = s.units := by simp only [settlePark]; split_ifs <;> simp
@[simp] theorem settlePark_warn (s : State) : (settlePark s).warn = s.warn := by simp only [settlePark]; split_ifs <;> simp
@[simp] theorem settlePark_chime (s : State) : (settlePark s).chime = s.chime := by simp only [settlePark]; split_ifs <;> simp
@[simp] theorem settlePark_service (s : State) : (settlePark s).service = s.service := by simp only [settlePark]; split_ifs <;> simp
@[simp] theorem settlePark_clock (s : State) : (settlePark s).clock = s.clock := by simp only [settlePark]; split_ifs <;> simp
@[simp] theorem settlePark_port (s : State) : (settlePark s).port = s.port := by simp only [settlePark]; split_ifs <;> simp
@[simp] theorem settlePark_settings (s : State) : (settlePark s).settings = s.settings := by simp only [settlePark]; split_ifs <;> simp
@[simp] theorem settlePark_timers (s : State) : (settlePark s).timers = s.timers := by simp only [settlePark]; split_ifs <;> simp
@[simp] theorem settlePark_pins (s : State) : (settlePark s).pins = s.pins := by simp only [settlePark]; split_ifs <;> simp
@[simp] theorem settlePark_own (s : State) : (settlePark s).own = s.own := by simp only [settlePark]; split_ifs <;> simp

/-! ### settleFrom -/

@[simp] theorem settleFrom_pending (old : List Entry) (s : State) : (settleFrom old s).pending = s.pending := by simp [settleFrom]
@[simp] theorem settleFrom_meas (old : List Entry) (s : State) : (settleFrom old s).meas = s.meas := by simp [settleFrom]
@[simp] theorem settleFrom_fold (old : List Entry) (s : State) : (settleFrom old s).fold = s.fold := by simp [settleFrom]
@[simp] theorem settleFrom_units (old : List Entry) (s : State) : (settleFrom old s).units = s.units := by simp [settleFrom]
@[simp] theorem settleFrom_service (old : List Entry) (s : State) : (settleFrom old s).service = s.service := by simp [settleFrom]
@[simp] theorem settleFrom_clock (old : List Entry) (s : State) : (settleFrom old s).clock = s.clock := by simp [settleFrom]
@[simp] theorem settleFrom_settings (old : List Entry) (s : State) : (settleFrom old s).settings = s.settings := by simp [settleFrom]
@[simp] theorem settleFrom_timers (old : List Entry) (s : State) : (settleFrom old s).timers = s.timers := by simp [settleFrom]
@[simp] theorem settleFrom_pins (old : List Entry) (s : State) : (settleFrom old s).pins = s.pins := by simp [settleFrom]
@[simp] theorem settleFrom_own (old : List Entry) (s : State) : (settleFrom old s).own = s.own := by simp [settleFrom]

/-! ### settle -/

@[simp] theorem settle_pending (old : State) (s : State) : (settle old s).pending = s.pending := by simp [settle]
@[simp] theorem settle_meas (old : State) (s : State) : (settle old s).meas = s.meas := by simp [settle]
@[simp] theorem settle_fold (old : State) (s : State) : (settle old s).fold = s.fold := by simp [settle]
@[simp] theorem settle_units (old : State) (s : State) : (settle old s).units = s.units := by simp [settle]
@[simp] theorem settle_service (old : State) (s : State) : (settle old s).service = s.service := by simp [settle]
@[simp] theorem settle_clock (old : State) (s : State) : (settle old s).clock = s.clock := by simp [settle]
@[simp] theorem settle_settings (old : State) (s : State) : (settle old s).settings = s.settings := by simp [settle]
@[simp] theorem settle_timers (old : State) (s : State) : (settle old s).timers = s.timers := by simp [settle]
@[simp] theorem settle_pins (old : State) (s : State) : (settle old s).pins = s.pins := by simp [settle]
@[simp] theorem settle_own (old : State) (s : State) : (settle old s).own = s.own := by simp [settle]

/-! ### runEntry -/

@[simp] theorem runEntry_pending (b : Bool) (s : State) : (runEntry b s).pending = s.pending := rfl
@[simp] theorem runEntry_fold (b : Bool) (s : State) : (runEntry b s).fold = s.fold := rfl
@[simp] theorem runEntry_store (b : Bool) (s : State) : (runEntry b s).store = s.store := rfl
@[simp] theorem runEntry_nv (b : Bool) (s : State) : (runEntry b s).nv = s.nv := rfl
@[simp] theorem runEntry_units (b : Bool) (s : State) : (runEntry b s).units = s.units := rfl
@[simp] theorem runEntry_chime (b : Bool) (s : State) : (runEntry b s).chime = s.chime := rfl
@[simp] theorem runEntry_service (b : Bool) (s : State) : (runEntry b s).service = s.service := rfl
@[simp] theorem runEntry_clock (b : Bool) (s : State) : (runEntry b s).clock = s.clock := rfl
@[simp] theorem runEntry_power (b : Bool) (s : State) : (runEntry b s).power = s.power := rfl
@[simp] theorem runEntry_port (b : Bool) (s : State) : (runEntry b s).port = s.port := rfl
@[simp] theorem runEntry_settings (b : Bool) (s : State) : (runEntry b s).settings = s.settings := rfl
@[simp] theorem runEntry_timers (b : Bool) (s : State) : (runEntry b s).timers = s.timers := rfl
@[simp] theorem runEntry_pins (b : Bool) (s : State) : (runEntry b s).pins = s.pins := rfl
@[simp] theorem runEntry_own (b : Bool) (s : State) : (runEntry b s).own = s.own := rfl

/-! ### leaveRun -/

@[simp] theorem leaveRun_pending (s : State) : (leaveRun s).pending = s.pending := rfl
@[simp] theorem leaveRun_fold (s : State) : (leaveRun s).fold = s.fold := rfl
@[simp] theorem leaveRun_store (s : State) : (leaveRun s).store = s.store := rfl
@[simp] theorem leaveRun_nv (s : State) : (leaveRun s).nv = s.nv := rfl
@[simp] theorem leaveRun_units (s : State) : (leaveRun s).units = s.units := rfl
@[simp] theorem leaveRun_warn (s : State) : (leaveRun s).warn = s.warn := rfl
@[simp] theorem leaveRun_chime (s : State) : (leaveRun s).chime = s.chime := rfl
@[simp] theorem leaveRun_service (s : State) : (leaveRun s).service = s.service := rfl
@[simp] theorem leaveRun_clock (s : State) : (leaveRun s).clock = s.clock := rfl
@[simp] theorem leaveRun_power (s : State) : (leaveRun s).power = s.power := rfl
@[simp] theorem leaveRun_port (s : State) : (leaveRun s).port = s.port := rfl
@[simp] theorem leaveRun_settings (s : State) : (leaveRun s).settings = s.settings := rfl
@[simp] theorem leaveRun_timers (s : State) : (leaveRun s).timers = s.timers := rfl
@[simp] theorem leaveRun_pins (s : State) : (leaveRun s).pins = s.pins := rfl
@[simp] theorem leaveRun_own (s : State) : (leaveRun s).own = s.own := rfl

/-! ### restartSilence -/

@[simp] theorem restartSilence_pending (s : State) : (restartSilence s).pending = s.pending := rfl
@[simp] theorem restartSilence_meas (s : State) : (restartSilence s).meas = s.meas := rfl
@[simp] theorem restartSilence_gauge (s : State) : (restartSilence s).gauge = s.gauge := rfl
@[simp] theorem restartSilence_fold (s : State) : (restartSilence s).fold = s.fold := rfl
@[simp] theorem restartSilence_store (s : State) : (restartSilence s).store = s.store := rfl
@[simp] theorem restartSilence_nv (s : State) : (restartSilence s).nv = s.nv := rfl
@[simp] theorem restartSilence_units (s : State) : (restartSilence s).units = s.units := rfl
@[simp] theorem restartSilence_warn (s : State) : (restartSilence s).warn = s.warn := rfl
@[simp] theorem restartSilence_chime (s : State) : (restartSilence s).chime = s.chime := rfl
@[simp] theorem restartSilence_service (s : State) : (restartSilence s).service = s.service := rfl
@[simp] theorem restartSilence_clock (s : State) : (restartSilence s).clock = s.clock := rfl
@[simp] theorem restartSilence_power (s : State) : (restartSilence s).power = s.power := rfl
@[simp] theorem restartSilence_settings (s : State) : (restartSilence s).settings = s.settings := rfl
@[simp] theorem restartSilence_timers (s : State) : (restartSilence s).timers = s.timers := rfl
@[simp] theorem restartSilence_pins (s : State) : (restartSilence s).pins = s.pins := rfl
@[simp] theorem restartSilence_own (s : State) : (restartSilence s).own = s.own := rfl

/-! ### unsilence -/

@[simp] theorem unsilence_pending (s : State) : (unsilence s).pending = s.pending := rfl
@[simp] theorem unsilence_meas (s : State) : (unsilence s).meas = s.meas := rfl
@[simp] theorem unsilence_gauge (s : State) : (unsilence s).gauge = s.gauge := rfl
@[simp] theorem unsilence_fold (s : State) : (unsilence s).fold = s.fold := rfl
@[simp] theorem unsilence_store (s : State) : (unsilence s).store = s.store := rfl
@[simp] theorem unsilence_nv (s : State) : (unsilence s).nv = s.nv := rfl
@[simp] theorem unsilence_units (s : State) : (unsilence s).units = s.units := rfl
@[simp] theorem unsilence_warn (s : State) : (unsilence s).warn = s.warn := rfl
@[simp] theorem unsilence_chime (s : State) : (unsilence s).chime = s.chime := rfl
@[simp] theorem unsilence_service (s : State) : (unsilence s).service = s.service := rfl
@[simp] theorem unsilence_clock (s : State) : (unsilence s).clock = s.clock := rfl
@[simp] theorem unsilence_power (s : State) : (unsilence s).power = s.power := rfl
@[simp] theorem unsilence_settings (s : State) : (unsilence s).settings = s.settings := rfl
@[simp] theorem unsilence_timers (s : State) : (unsilence s).timers = s.timers := rfl
@[simp] theorem unsilence_pins (s : State) : (unsilence s).pins = s.pins := rfl
@[simp] theorem unsilence_own (s : State) : (unsilence s).own = s.own := rfl

/-! ### startAwakeTimers -/

@[simp] theorem startAwakeTimers_pending (s : State) : (startAwakeTimers s).pending = s.pending := rfl
@[simp] theorem startAwakeTimers_meas (s : State) : (startAwakeTimers s).meas = s.meas := rfl
@[simp] theorem startAwakeTimers_gauge (s : State) : (startAwakeTimers s).gauge = s.gauge := rfl
@[simp] theorem startAwakeTimers_fold (s : State) : (startAwakeTimers s).fold = s.fold := rfl
@[simp] theorem startAwakeTimers_store (s : State) : (startAwakeTimers s).store = s.store := rfl
@[simp] theorem startAwakeTimers_nv (s : State) : (startAwakeTimers s).nv = s.nv := rfl
@[simp] theorem startAwakeTimers_units (s : State) : (startAwakeTimers s).units = s.units := rfl
@[simp] theorem startAwakeTimers_warn (s : State) : (startAwakeTimers s).warn = s.warn := rfl
@[simp] theorem startAwakeTimers_chime (s : State) : (startAwakeTimers s).chime = s.chime := rfl
@[simp] theorem startAwakeTimers_service (s : State) : (startAwakeTimers s).service = s.service := rfl
@[simp] theorem startAwakeTimers_clock (s : State) : (startAwakeTimers s).clock = s.clock := rfl
@[simp] theorem startAwakeTimers_port (s : State) : (startAwakeTimers s).port = s.port := rfl
@[simp] theorem startAwakeTimers_settings (s : State) : (startAwakeTimers s).settings = s.settings := rfl
@[simp] theorem startAwakeTimers_timers (s : State) : (startAwakeTimers s).timers = s.timers := rfl
@[simp] theorem startAwakeTimers_pins (s : State) : (startAwakeTimers s).pins = s.pins := rfl
@[simp] theorem startAwakeTimers_own (s : State) : (startAwakeTimers s).own = s.own := rfl

/-! ### enterAwake -/

@[simp] theorem enterAwake_pending (s : State) : (enterAwake s).pending = s.pending := rfl
@[simp] theorem enterAwake_meas (s : State) : (enterAwake s).meas = s.meas := rfl
@[simp] theorem enterAwake_gauge (s : State) : (enterAwake s).gauge = s.gauge := rfl
@[simp] theorem enterAwake_fold (s : State) : (enterAwake s).fold = s.fold := rfl
@[simp] theorem enterAwake_store (s : State) : (enterAwake s).store = s.store := rfl
@[simp] theorem enterAwake_nv (s : State) : (enterAwake s).nv = s.nv := rfl
@[simp] theorem enterAwake_units (s : State) : (enterAwake s).units = s.units := rfl
@[simp] theorem enterAwake_chime (s : State) : (enterAwake s).chime = s.chime := rfl
@[simp] theorem enterAwake_service (s : State) : (enterAwake s).service = s.service := rfl
@[simp] theorem enterAwake_clock (s : State) : (enterAwake s).clock = s.clock := rfl
@[simp] theorem enterAwake_settings (s : State) : (enterAwake s).settings = s.settings := rfl
@[simp] theorem enterAwake_timers (s : State) : (enterAwake s).timers = s.timers := rfl
@[simp] theorem enterAwake_pins (s : State) : (enterAwake s).pins = s.pins := rfl
@[simp] theorem enterAwake_own (s : State) : (enterAwake s).own = s.own := rfl

/-! ### leaveAwake -/

@[simp] theorem leaveAwake_pending (s : State) : (leaveAwake s).pending = s.pending := by simp [leaveAwake]
@[simp] theorem leaveAwake_meas (s : State) : (leaveAwake s).meas = s.meas := by simp [leaveAwake]
@[simp] theorem leaveAwake_fold (s : State) : (leaveAwake s).fold = s.fold := by simp [leaveAwake]
@[simp] theorem leaveAwake_store (s : State) : (leaveAwake s).store = s.store := by simp [leaveAwake]
@[simp] theorem leaveAwake_nv (s : State) : (leaveAwake s).nv = s.nv := by simp [leaveAwake]
@[simp] theorem leaveAwake_units (s : State) : (leaveAwake s).units = s.units := by simp [leaveAwake]
@[simp] theorem leaveAwake_warn (s : State) : (leaveAwake s).warn = s.warn := by simp [leaveAwake]
@[simp] theorem leaveAwake_chime (s : State) : (leaveAwake s).chime = s.chime := by simp [leaveAwake]
@[simp] theorem leaveAwake_service (s : State) : (leaveAwake s).service = s.service := by simp [leaveAwake]
@[simp] theorem leaveAwake_clock (s : State) : (leaveAwake s).clock = s.clock := by simp [leaveAwake]
@[simp] theorem leaveAwake_settings (s : State) : (leaveAwake s).settings = s.settings := by simp [leaveAwake]
@[simp] theorem leaveAwake_timers (s : State) : (leaveAwake s).timers = s.timers := by simp [leaveAwake]
@[simp] theorem leaveAwake_pins (s : State) : (leaveAwake s).pins = s.pins := by simp [leaveAwake]
@[simp] theorem leaveAwake_own (s : State) : (leaveAwake s).own = s.own := by simp [leaveAwake]

/-! ### setPower -/

@[simp] theorem setPower_pending (s : State) : (setPower s).pending = s.pending := by simp only [setPower]; split_ifs <;> simp
@[simp] theorem setPower_fold (s : State) : (setPower s).fold = s.fold := by simp only [setPower]; split_ifs <;> simp
@[simp] theorem setPower_store (s : State) : (setPower s).store = s.store := by simp only [setPower]; split_ifs <;> simp
@[simp] theorem setPower_nv (s : State) : (setPower s).nv = s.nv := by simp only [setPower]; split_ifs <;> simp
@[simp] theorem setPower_units (s : State) : (setPower s).units = s.units := by simp only [setPower]; split_ifs <;> simp
@[simp] theorem setPower_chime (s : State) : (setPower s).chime = s.chime := by simp only [setPower]; split_ifs <;> simp
@[simp] theorem setPower_service (s : State) : (setPower s).service = s.service := by simp only [setPower]; split_ifs <;> simp
@[simp] theorem setPower_clock (s : State) : (setPower s).clock = s.clock := by simp only [setPower]; split_ifs <;> simp
@[simp] theorem setPower_settings (s : State) : (setPower s).settings = s.settings := by simp only [setPower]; split_ifs <;> simp
@[simp] theorem setPower_timers (s : State) : (setPower s).timers = s.timers := by simp only [setPower]; split_ifs <;> simp
@[simp] theorem setPower_pins (s : State) : (setPower s).pins = s.pins := by simp only [setPower]; split_ifs <;> simp
@[simp] theorem setPower_own (s : State) : (setPower s).own = s.own := by simp only [setPower]; split_ifs <;> simp

/-! ### choosePower -/

@[simp] theorem choosePower_pending (s : State) : (choosePower s).pending = s.pending := by simp only [choosePower]; split <;> simp
@[simp] theorem choosePower_fold (s : State) : (choosePower s).fold = s.fold := by simp only [choosePower]; split <;> simp
@[simp] theorem choosePower_store (s : State) : (choosePower s).store = s.store := by simp only [choosePower]; split <;> simp
@[simp] theorem choosePower_nv (s : State) : (choosePower s).nv = s.nv := by simp only [choosePower]; split <;> simp
@[simp] theorem choosePower_units (s : State) : (choosePower s).units = s.units := by simp only [choosePower]; split <;> simp
@[simp] theorem choosePower_chime (s : State) : (choosePower s).chime = s.chime := by simp only [choosePower]; split <;> simp
@[simp] theorem choosePower_service (s : State) : (choosePower s).service = s.service := by simp only [choosePower]; split <;> simp
@[simp] theorem choosePower_clock (s : State) : (choosePower s).clock = s.clock := by simp only [choosePower]; split <;> simp
@[simp] theorem choosePower_port (s : State) : (choosePower s).port = s.port := by simp only [choosePower]; split <;> simp
@[simp] theorem choosePower_settings (s : State) : (choosePower s).settings = s.settings := by simp only [choosePower]; split <;> simp
@[simp] theorem choosePower_timers (s : State) : (choosePower s).timers = s.timers := by simp only [choosePower]; split <;> simp
@[simp] theorem choosePower_pins (s : State) : (choosePower s).pins = s.pins := by simp only [choosePower]; split <;> simp
@[simp] theorem choosePower_own (s : State) : (choosePower s).own = s.own := by simp only [choosePower]; split <;> simp

/-! ### recordSource -/

@[simp] theorem recordSource_pending (w : WakeSource) (s : State) : (recordSource w s).pending = s.pending := rfl
@[simp] theorem recordSource_meas (w : WakeSource) (s : State) : (recordSource w s).meas = s.meas := rfl
@[simp] theorem recordSource_gauge (w : WakeSource) (s : State) : (recordSource w s).gauge = s.gauge := rfl
@[simp] theorem recordSource_fold (w : WakeSource) (s : State) : (recordSource w s).fold = s.fold := rfl
@[simp] theorem recordSource_store (w : WakeSource) (s : State) : (recordSource w s).store = s.store := rfl
@[simp] theorem recordSource_nv (w : WakeSource) (s : State) : (recordSource w s).nv = s.nv := rfl
@[simp] theorem recordSource_units (w : WakeSource) (s : State) : (recordSource w s).units = s.units := rfl
@[simp] theorem recordSource_warn (w : WakeSource) (s : State) : (recordSource w s).warn = s.warn := rfl
@[simp] theorem recordSource_chime (w : WakeSource) (s : State) : (recordSource w s).chime = s.chime := rfl
@[simp] theorem recordSource_service (w : WakeSource) (s : State) : (recordSource w s).service = s.service := rfl
@[simp] theorem recordSource_clock (w : WakeSource) (s : State) : (recordSource w s).clock = s.clock := rfl
@[simp] theorem recordSource_port (w : WakeSource) (s : State) : (recordSource w s).port = s.port := rfl
@[simp] theorem recordSource_settings (w : WakeSource) (s : State) : (recordSource w s).settings = s.settings := rfl
@[simp] theorem recordSource_timers (w : WakeSource) (s : State) : (recordSource w s).timers = s.timers := rfl
@[simp] theorem recordSource_pins (w : WakeSource) (s : State) : (recordSource w s).pins = s.pins := rfl
@[simp] theorem recordSource_own (w : WakeSource) (s : State) : (recordSource w s).own = s.own := rfl

/-! ### followFiring -/

@[simp] theorem followFiring_pending (w : WakeSource) (s : State) : (followFiring w s).pending = s.pending := by unfold followFiring; split <;> simp
@[simp] theorem followFiring_meas (w : WakeSource) (s : State) : (followFiring w s).meas = s.meas := by unfold followFiring; split <;> simp
@[simp] theorem followFiring_gauge (w : WakeSource) (s : State) : (followFiring w s).gauge = s.gauge := by unfold followFiring; split <;> simp
@[simp] theorem followFiring_fold (w : WakeSource) (s : State) : (followFiring w s).fold = s.fold := by unfold followFiring; split <;> simp
@[simp] theorem followFiring_store (w : WakeSource) (s : State) : (followFiring w s).store = s.store := by unfold followFiring; split <;> simp
@[simp] theorem followFiring_nv (w : WakeSource) (s : State) : (followFiring w s).nv = s.nv := by unfold followFiring; split <;> simp
@[simp] theorem followFiring_units (w : WakeSource) (s : State) : (followFiring w s).units = s.units := by unfold followFiring; split <;> simp
@[simp] theorem followFiring_warn (w : WakeSource) (s : State) : (followFiring w s).warn = s.warn := by unfold followFiring; split <;> simp
@[simp] theorem followFiring_chime (w : WakeSource) (s : State) : (followFiring w s).chime = s.chime := by unfold followFiring; split <;> simp
@[simp] theorem followFiring_service (w : WakeSource) (s : State) : (followFiring w s).service = s.service := by unfold followFiring; split <;> simp
@[simp] theorem followFiring_clock (w : WakeSource) (s : State) : (followFiring w s).clock = s.clock := by unfold followFiring; split <;> simp
@[simp] theorem followFiring_port (w : WakeSource) (s : State) : (followFiring w s).port = s.port := by unfold followFiring; split <;> simp
@[simp] theorem followFiring_settings (w : WakeSource) (s : State) : (followFiring w s).settings = s.settings := by unfold followFiring; split <;> simp
@[simp] theorem followFiring_timers (w : WakeSource) (s : State) : (followFiring w s).timers = s.timers := by unfold followFiring; split <;> simp
@[simp] theorem followFiring_pins (w : WakeSource) (s : State) : (followFiring w s).pins = s.pins := by unfold followFiring; split <;> simp
@[simp] theorem followFiring_own (w : WakeSource) (s : State) : (followFiring w s).own = s.own := by unfold followFiring; split <;> simp

/-! ### fireSource -/

@[simp] theorem fireSource_pending (w : WakeSource) (s : State) : (fireSource w s).pending = s.pending := by unfold fireSource; split <;> simp
@[simp] theorem fireSource_meas (w : WakeSource) (s : State) : (fireSource w s).meas = s.meas := by unfold fireSource; split <;> simp
@[simp] theorem fireSource_gauge (w : WakeSource) (s : State) : (fireSource w s).gauge = s.gauge := by unfold fireSource; split <;> simp
@[simp] theorem fireSource_fold (w : WakeSource) (s : State) : (fireSource w s).fold = s.fold := by unfold fireSource; split <;> simp
@[simp] theorem fireSource_store (w : WakeSource) (s : State) : (fireSource w s).store = s.store := by unfold fireSource; split <;> simp
@[simp] theorem fireSource_nv (w : WakeSource) (s : State) : (fireSource w s).nv = s.nv := by unfold fireSource; split <;> simp
@[simp] theorem fireSource_units (w : WakeSource) (s : State) : (fireSource w s).units = s.units := by unfold fireSource; split <;> simp
@[simp] theorem fireSource_warn (w : WakeSource) (s : State) : (fireSource w s).warn = s.warn := by unfold fireSource; split <;> simp
@[simp] theorem fireSource_chime (w : WakeSource) (s : State) : (fireSource w s).chime = s.chime := by unfold fireSource; split <;> simp
@[simp] theorem fireSource_service (w : WakeSource) (s : State) : (fireSource w s).service = s.service := by unfold fireSource; split <;> simp
@[simp] theorem fireSource_clock (w : WakeSource) (s : State) : (fireSource w s).clock = s.clock := by unfold fireSource; split <;> simp
@[simp] theorem fireSource_port (w : WakeSource) (s : State) : (fireSource w s).port = s.port := by unfold fireSource; split <;> simp
@[simp] theorem fireSource_settings (w : WakeSource) (s : State) : (fireSource w s).settings = s.settings := by unfold fireSource; split <;> simp
@[simp] theorem fireSource_timers (w : WakeSource) (s : State) : (fireSource w s).timers = s.timers := by unfold fireSource; split <;> simp
@[simp] theorem fireSource_pins (w : WakeSource) (s : State) : (fireSource w s).pins = s.pins := by unfold fireSource; split <;> simp
@[simp] theorem fireSource_own (w : WakeSource) (s : State) : (fireSource w s).own = s.own := by unfold fireSource; split <;> simp

/-! ### verifyTrip -/

@[simp] theorem verifyTrip_pending (t : TripNo) (s : State) : (verifyTrip t s).pending = s.pending := by simp only [verifyTrip]; split <;> simp
@[simp] theorem verifyTrip_meas (t : TripNo) (s : State) : (verifyTrip t s).meas = s.meas := by simp only [verifyTrip]; split <;> simp
@[simp] theorem verifyTrip_gauge (t : TripNo) (s : State) : (verifyTrip t s).gauge = s.gauge := by simp only [verifyTrip]; split <;> simp
@[simp] theorem verifyTrip_fold (t : TripNo) (s : State) : (verifyTrip t s).fold = s.fold := by simp only [verifyTrip]; split <;> simp
@[simp] theorem verifyTrip_nv (t : TripNo) (s : State) : (verifyTrip t s).nv = s.nv := by simp only [verifyTrip]; split <;> simp
@[simp] theorem verifyTrip_units (t : TripNo) (s : State) : (verifyTrip t s).units = s.units := by simp only [verifyTrip]; split <;> simp
@[simp] theorem verifyTrip_chime (t : TripNo) (s : State) : (verifyTrip t s).chime = s.chime := by simp only [verifyTrip]; split <;> simp
@[simp] theorem verifyTrip_service (t : TripNo) (s : State) : (verifyTrip t s).service = s.service := by simp only [verifyTrip]; split <;> simp
@[simp] theorem verifyTrip_clock (t : TripNo) (s : State) : (verifyTrip t s).clock = s.clock := by simp only [verifyTrip]; split <;> simp
@[simp] theorem verifyTrip_power (t : TripNo) (s : State) : (verifyTrip t s).power = s.power := by simp only [verifyTrip]; split <;> simp
@[simp] theorem verifyTrip_port (t : TripNo) (s : State) : (verifyTrip t s).port = s.port := by simp only [verifyTrip]; split <;> simp
@[simp] theorem verifyTrip_settings (t : TripNo) (s : State) : (verifyTrip t s).settings = s.settings := by simp only [verifyTrip]; split <;> simp
@[simp] theorem verifyTrip_timers (t : TripNo) (s : State) : (verifyTrip t s).timers = s.timers := by simp only [verifyTrip]; split <;> simp
@[simp] theorem verifyTrip_pins (t : TripNo) (s : State) : (verifyTrip t s).pins = s.pins := by simp only [verifyTrip]; split <;> simp
@[simp] theorem verifyTrip_own (t : TripNo) (s : State) : (verifyTrip t s).own = s.own := by simp only [verifyTrip]; split <;> simp

/-! ### verifyCharter -/

@[simp] theorem verifyCharter_pending (s : State) : (verifyCharter s).pending = s.pending := by simp only [verifyCharter]; split <;> simp
@[simp] theorem verifyCharter_meas (s : State) : (verifyCharter s).meas = s.meas := by simp only [verifyCharter]; split <;> simp
@[simp] theorem verifyCharter_gauge (s : State) : (verifyCharter s).gauge = s.gauge := by simp only [verifyCharter]; split <;> simp
@[simp] theorem verifyCharter_fold (s : State) : (verifyCharter s).fold = s.fold := by simp only [verifyCharter]; split <;> simp
@[simp] theorem verifyCharter_nv (s : State) : (verifyCharter s).nv = s.nv := by simp only [verifyCharter]; split <;> simp
@[simp] theorem verifyCharter_units (s : State) : (verifyCharter s).units = s.units := by simp only [verifyCharter]; split <;> simp
@[simp] theorem verifyCharter_chime (s : State) : (verifyCharter s).chime = s.chime := by simp only [verifyCharter]; split <;> simp
@[simp] theorem verifyCharter_service (s : State) : (verifyCharter s).service = s.service := by simp only [verifyCharter]; split <;> simp
@[simp] theorem verifyCharter_clock (s : State) : (verifyCharter s).clock = s.clock := by simp only [verifyCharter]; split <;> simp
@[simp] theorem verifyCharter_power (s : State) : (verifyCharter s).power = s.power := by simp only [verifyCharter]; split <;> simp
@[simp] theorem verifyCharter_settings (s : State) : (verifyCharter s).settings = s.settings := by simp only [verifyCharter]; split <;> simp
@[simp] theorem verifyCharter_timers (s : State) : (verifyCharter s).timers = s.timers := by simp only [verifyCharter]; split <;> simp
@[simp] theorem verifyCharter_pins (s : State) : (verifyCharter s).pins = s.pins := by simp only [verifyCharter]; split <;> simp
@[simp] theorem verifyCharter_own (s : State) : (verifyCharter s).own = s.own := by simp only [verifyCharter]; split <;> simp

/-! ### reloadOdo -/

@[simp] theorem reloadOdo_pending (s : State) : (reloadOdo s).pending = s.pending := by simp [reloadOdo]
@[simp] theorem reloadOdo_meas (s : State) : (reloadOdo s).meas = s.meas := by simp [reloadOdo]
@[simp] theorem reloadOdo_gauge (s : State) : (reloadOdo s).gauge = s.gauge := by simp [reloadOdo]
@[simp] theorem reloadOdo_fold (s : State) : (reloadOdo s).fold = s.fold := by simp [reloadOdo]
@[simp] theorem reloadOdo_nv (s : State) : (reloadOdo s).nv = s.nv := by simp [reloadOdo]
@[simp] theorem reloadOdo_units (s : State) : (reloadOdo s).units = s.units := by simp [reloadOdo]
@[simp] theorem reloadOdo_chime (s : State) : (reloadOdo s).chime = s.chime := by simp [reloadOdo]
@[simp] theorem reloadOdo_service (s : State) : (reloadOdo s).service = s.service := by simp [reloadOdo]
@[simp] theorem reloadOdo_clock (s : State) : (reloadOdo s).clock = s.clock := by simp [reloadOdo]
@[simp] theorem reloadOdo_power (s : State) : (reloadOdo s).power = s.power := by simp [reloadOdo]
@[simp] theorem reloadOdo_settings (s : State) : (reloadOdo s).settings = s.settings := by simp [reloadOdo]
@[simp] theorem reloadOdo_timers (s : State) : (reloadOdo s).timers = s.timers := by simp [reloadOdo]
@[simp] theorem reloadOdo_pins (s : State) : (reloadOdo s).pins = s.pins := by simp [reloadOdo]
@[simp] theorem reloadOdo_own (s : State) : (reloadOdo s).own = s.own := by simp [reloadOdo]

/-! ### verifyOdo -/

@[simp] theorem verifyOdo_pending (s : State) : (verifyOdo s).pending = s.pending := by unfold verifyOdo; split <;> simp
@[simp] theorem verifyOdo_meas (s : State) : (verifyOdo s).meas = s.meas := by unfold verifyOdo; split <;> simp
@[simp] theorem verifyOdo_gauge (s : State) : (verifyOdo s).gauge = s.gauge := by unfold verifyOdo; split <;> simp
@[simp] theorem verifyOdo_fold (s : State) : (verifyOdo s).fold = s.fold := by unfold verifyOdo; split <;> simp
@[simp] theorem verifyOdo_nv (s : State) : (verifyOdo s).nv = s.nv := by unfold verifyOdo; split <;> simp
@[simp] theorem verifyOdo_units (s : State) : (verifyOdo s).units = s.units := by unfold verifyOdo; split <;> simp
@[simp] theorem verifyOdo_chime (s : State) : (verifyOdo s).chime = s.chime := by unfold verifyOdo; split <;> simp
@[simp] theorem verifyOdo_service (s : State) : (verifyOdo s).service = s.service := by unfold verifyOdo; split <;> simp
@[simp] theorem verifyOdo_clock (s : State) : (verifyOdo s).clock = s.clock := by unfold verifyOdo; split <;> simp
@[simp] theorem verifyOdo_power (s : State) : (verifyOdo s).power = s.power := by unfold verifyOdo; split <;> simp
@[simp] theorem verifyOdo_settings (s : State) : (verifyOdo s).settings = s.settings := by unfold verifyOdo; split <;> simp
@[simp] theorem verifyOdo_timers (s : State) : (verifyOdo s).timers = s.timers := by unfold verifyOdo; split <;> simp
@[simp] theorem verifyOdo_pins (s : State) : (verifyOdo s).pins = s.pins := by unfold verifyOdo; split <;> simp
@[simp] theorem verifyOdo_own (s : State) : (verifyOdo s).own = s.own := by unfold verifyOdo; split <;> simp

/-! ### verifyRecord -/

@[simp] theorem verifyRecord_pending (r : RecordNo) (s : State) : (verifyRecord r s).pending = s.pending := by unfold verifyRecord; split <;> simp
@[simp] theorem verifyRecord_meas (r : RecordNo) (s : State) : (verifyRecord r s).meas = s.meas := by unfold verifyRecord; split <;> simp
@[simp] theorem verifyRecord_gauge (r : RecordNo) (s : State) : (verifyRecord r s).gauge = s.gauge := by unfold verifyRecord; split <;> simp
@[simp] theorem verifyRecord_fold (r : RecordNo) (s : State) : (verifyRecord r s).fold = s.fold := by unfold verifyRecord; split <;> simp
@[simp] theorem verifyRecord_nv (r : RecordNo) (s : State) : (verifyRecord r s).nv = s.nv := by unfold verifyRecord; split <;> simp
@[simp] theorem verifyRecord_units (r : RecordNo) (s : State) : (verifyRecord r s).units = s.units := by unfold verifyRecord; split <;> simp
@[simp] theorem verifyRecord_chime (r : RecordNo) (s : State) : (verifyRecord r s).chime = s.chime := by unfold verifyRecord; split <;> simp
@[simp] theorem verifyRecord_service (r : RecordNo) (s : State) : (verifyRecord r s).service = s.service := by unfold verifyRecord; split <;> simp
@[simp] theorem verifyRecord_clock (r : RecordNo) (s : State) : (verifyRecord r s).clock = s.clock := by unfold verifyRecord; split <;> simp
@[simp] theorem verifyRecord_power (r : RecordNo) (s : State) : (verifyRecord r s).power = s.power := by unfold verifyRecord; split <;> simp
@[simp] theorem verifyRecord_settings (r : RecordNo) (s : State) : (verifyRecord r s).settings = s.settings := by unfold verifyRecord; split <;> simp
@[simp] theorem verifyRecord_timers (r : RecordNo) (s : State) : (verifyRecord r s).timers = s.timers := by unfold verifyRecord; split <;> simp
@[simp] theorem verifyRecord_pins (r : RecordNo) (s : State) : (verifyRecord r s).pins = s.pins := by unfold verifyRecord; split <;> simp
@[simp] theorem verifyRecord_own (r : RecordNo) (s : State) : (verifyRecord r s).own = s.own := by unfold verifyRecord; split <;> simp

/-! ### verifyAll -/

@[simp] theorem verifyAll_pending (s : State) : (verifyAll s).pending = s.pending := by simp [verifyAll]
@[simp] theorem verifyAll_meas (s : State) : (verifyAll s).meas = s.meas := by simp [verifyAll]
@[simp] theorem verifyAll_gauge (s : State) : (verifyAll s).gauge = s.gauge := by simp [verifyAll]
@[simp] theorem verifyAll_fold (s : State) : (verifyAll s).fold = s.fold := by simp [verifyAll]
@[simp] theorem verifyAll_nv (s : State) : (verifyAll s).nv = s.nv := by simp [verifyAll]
@[simp] theorem verifyAll_units (s : State) : (verifyAll s).units = s.units := by simp [verifyAll]
@[simp] theorem verifyAll_chime (s : State) : (verifyAll s).chime = s.chime := by simp [verifyAll]
@[simp] theorem verifyAll_service (s : State) : (verifyAll s).service = s.service := by simp [verifyAll]
@[simp] theorem verifyAll_clock (s : State) : (verifyAll s).clock = s.clock := by simp [verifyAll]
@[simp] theorem verifyAll_power (s : State) : (verifyAll s).power = s.power := by simp [verifyAll]
@[simp] theorem verifyAll_settings (s : State) : (verifyAll s).settings = s.settings := by simp [verifyAll]
@[simp] theorem verifyAll_timers (s : State) : (verifyAll s).timers = s.timers := by simp [verifyAll]
@[simp] theorem verifyAll_pins (s : State) : (verifyAll s).pins = s.pins := by simp [verifyAll]
@[simp] theorem verifyAll_own (s : State) : (verifyAll s).own = s.own := by simp [verifyAll]

/-! ### foldOdo -/

@[simp] theorem foldOdo_pending (metres : Nat) (s : State) : (foldOdo metres s).pending = s.pending := by simp only [foldOdo]; split <;> simp
@[simp] theorem foldOdo_meas (metres : Nat) (s : State) : (foldOdo metres s).meas = s.meas := by simp only [foldOdo]; split <;> simp
@[simp] theorem foldOdo_gauge (metres : Nat) (s : State) : (foldOdo metres s).gauge = s.gauge := by simp only [foldOdo]; split <;> simp
@[simp] theorem foldOdo_fold (metres : Nat) (s : State) : (foldOdo metres s).fold = s.fold := by simp only [foldOdo]; split <;> simp
@[simp] theorem foldOdo_units (metres : Nat) (s : State) : (foldOdo metres s).units = s.units := by simp only [foldOdo]; split <;> simp
@[simp] theorem foldOdo_chime (metres : Nat) (s : State) : (foldOdo metres s).chime = s.chime := by simp only [foldOdo]; split <;> simp
@[simp] theorem foldOdo_service (metres : Nat) (s : State) : (foldOdo metres s).service = s.service := by simp only [foldOdo]; split <;> simp
@[simp] theorem foldOdo_clock (metres : Nat) (s : State) : (foldOdo metres s).clock = s.clock := by simp only [foldOdo]; split <;> simp
@[simp] theorem foldOdo_power (metres : Nat) (s : State) : (foldOdo metres s).power = s.power := by simp only [foldOdo]; split <;> simp
@[simp] theorem foldOdo_settings (metres : Nat) (s : State) : (foldOdo metres s).settings = s.settings := by simp only [foldOdo]; split <;> simp
@[simp] theorem foldOdo_timers (metres : Nat) (s : State) : (foldOdo metres s).timers = s.timers := by simp only [foldOdo]; split <;> simp
@[simp] theorem foldOdo_pins (metres : Nat) (s : State) : (foldOdo metres s).pins = s.pins := by simp only [foldOdo]; split <;> simp
@[simp] theorem foldOdo_own (metres : Nat) (s : State) : (foldOdo metres s).own = s.own := by simp only [foldOdo]; split <;> simp

/-! ### foldTrip -/

@[simp] theorem foldTrip_pending (metres ml run mov : Nat) (t : TripNo) (s : State) : (foldTrip metres ml run mov t s).pending = s.pending := by simp only [foldTrip]; split <;> simp
@[simp] theorem foldTrip_meas (metres ml run mov : Nat) (t : TripNo) (s : State) : (foldTrip metres ml run mov t s).meas = s.meas := by simp only [foldTrip]; split <;> simp
@[simp] theorem foldTrip_gauge (metres ml run mov : Nat) (t : TripNo) (s : State) : (foldTrip metres ml run mov t s).gauge = s.gauge := by simp only [foldTrip]; split <;> simp
@[simp] theorem foldTrip_fold (metres ml run mov : Nat) (t : TripNo) (s : State) : (foldTrip metres ml run mov t s).fold = s.fold := by simp only [foldTrip]; split <;> simp
@[simp] theorem foldTrip_nv (metres ml run mov : Nat) (t : TripNo) (s : State) : (foldTrip metres ml run mov t s).nv = s.nv := by simp only [foldTrip]; split <;> simp
@[simp] theorem foldTrip_units (metres ml run mov : Nat) (t : TripNo) (s : State) : (foldTrip metres ml run mov t s).units = s.units := by simp only [foldTrip]; split <;> simp
@[simp] theorem foldTrip_chime (metres ml run mov : Nat) (t : TripNo) (s : State) : (foldTrip metres ml run mov t s).chime = s.chime := by simp only [foldTrip]; split <;> simp
@[simp] theorem foldTrip_service (metres ml run mov : Nat) (t : TripNo) (s : State) : (foldTrip metres ml run mov t s).service = s.service := by simp only [foldTrip]; split <;> simp
@[simp] theorem foldTrip_clock (metres ml run mov : Nat) (t : TripNo) (s : State) : (foldTrip metres ml run mov t s).clock = s.clock := by simp only [foldTrip]; split <;> simp
@[simp] theorem foldTrip_power (metres ml run mov : Nat) (t : TripNo) (s : State) : (foldTrip metres ml run mov t s).power = s.power := by simp only [foldTrip]; split <;> simp
@[simp] theorem foldTrip_port (metres ml run mov : Nat) (t : TripNo) (s : State) : (foldTrip metres ml run mov t s).port = s.port := by simp only [foldTrip]; split <;> simp
@[simp] theorem foldTrip_settings (metres ml run mov : Nat) (t : TripNo) (s : State) : (foldTrip metres ml run mov t s).settings = s.settings := by simp only [foldTrip]; split <;> simp
@[simp] theorem foldTrip_timers (metres ml run mov : Nat) (t : TripNo) (s : State) : (foldTrip metres ml run mov t s).timers = s.timers := by simp only [foldTrip]; split <;> simp
@[simp] theorem foldTrip_pins (metres ml run mov : Nat) (t : TripNo) (s : State) : (foldTrip metres ml run mov t s).pins = s.pins := by simp only [foldTrip]; split <;> simp
@[simp] theorem foldTrip_own (metres ml run mov : Nat) (t : TripNo) (s : State) : (foldTrip metres ml run mov t s).own = s.own := by simp only [foldTrip]; split <;> simp

/-! ### foldCharter -/

@[simp] theorem foldCharter_pending (metres ml run mov : Nat) (s : State) : (foldCharter metres ml run mov s).pending = s.pending := by simp only [foldCharter]; split_ifs <;> simp
@[simp] theorem foldCharter_meas (metres ml run mov : Nat) (s : State) : (foldCharter metres ml run mov s).meas = s.meas := by simp only [foldCharter]; split_ifs <;> simp
@[simp] theorem foldCharter_gauge (metres ml run mov : Nat) (s : State) : (foldCharter metres ml run mov s).gauge = s.gauge := by simp only [foldCharter]; split_ifs <;> simp
@[simp] theorem foldCharter_fold (metres ml run mov : Nat) (s : State) : (foldCharter metres ml run mov s).fold = s.fold := by simp only [foldCharter]; split_ifs <;> simp
@[simp] theorem foldCharter_nv (metres ml run mov : Nat) (s : State) : (foldCharter metres ml run mov s).nv = s.nv := by simp only [foldCharter]; split_ifs <;> simp
@[simp] theorem foldCharter_units (metres ml run mov : Nat) (s : State) : (foldCharter metres ml run mov s).units = s.units := by simp only [foldCharter]; split_ifs <;> simp
@[simp] theorem foldCharter_chime (metres ml run mov : Nat) (s : State) : (foldCharter metres ml run mov s).chime = s.chime := by simp only [foldCharter]; split_ifs <;> simp
@[simp] theorem foldCharter_service (metres ml run mov : Nat) (s : State) : (foldCharter metres ml run mov s).service = s.service := by simp only [foldCharter]; split_ifs <;> simp
@[simp] theorem foldCharter_clock (metres ml run mov : Nat) (s : State) : (foldCharter metres ml run mov s).clock = s.clock := by simp only [foldCharter]; split_ifs <;> simp
@[simp] theorem foldCharter_power (metres ml run mov : Nat) (s : State) : (foldCharter metres ml run mov s).power = s.power := by simp only [foldCharter]; split_ifs <;> simp
@[simp] theorem foldCharter_settings (metres ml run mov : Nat) (s : State) : (foldCharter metres ml run mov s).settings = s.settings := by simp only [foldCharter]; split_ifs <;> simp
@[simp] theorem foldCharter_timers (metres ml run mov : Nat) (s : State) : (foldCharter metres ml run mov s).timers = s.timers := by simp only [foldCharter]; split_ifs <;> simp
@[simp] theorem foldCharter_pins (metres ml run mov : Nat) (s : State) : (foldCharter metres ml run mov s).pins = s.pins := by simp only [foldCharter]; split_ifs <;> simp
@[simp] theorem foldCharter_own (metres ml run mov : Nat) (s : State) : (foldCharter metres ml run mov s).own = s.own := by simp only [foldCharter]; split_ifs <;> simp

/-! ### foldRecords -/

@[simp] theorem foldRecords_pending (metres ml run mov : Nat) (s : State) : (foldRecords metres ml run mov s).pending = s.pending := by simp [foldRecords]
@[simp] theorem foldRecords_meas (metres ml run mov : Nat) (s : State) : (foldRecords metres ml run mov s).meas = s.meas := by simp [foldRecords]
@[simp] theorem foldRecords_gauge (metres ml run mov : Nat) (s : State) : (foldRecords metres ml run mov s).gauge = s.gauge := by simp [foldRecords]
@[simp] theorem foldRecords_fold (metres ml run mov : Nat) (s : State) : (foldRecords metres ml run mov s).fold = s.fold := by simp [foldRecords]
@[simp] theorem foldRecords_units (metres ml run mov : Nat) (s : State) : (foldRecords metres ml run mov s).units = s.units := by simp [foldRecords]
@[simp] theorem foldRecords_chime (metres ml run mov : Nat) (s : State) : (foldRecords metres ml run mov s).chime = s.chime := by simp [foldRecords]
@[simp] theorem foldRecords_service (metres ml run mov : Nat) (s : State) : (foldRecords metres ml run mov s).service = s.service := by simp [foldRecords]
@[simp] theorem foldRecords_clock (metres ml run mov : Nat) (s : State) : (foldRecords metres ml run mov s).clock = s.clock := by simp [foldRecords]
@[simp] theorem foldRecords_power (metres ml run mov : Nat) (s : State) : (foldRecords metres ml run mov s).power = s.power := by simp [foldRecords]
@[simp] theorem foldRecords_settings (metres ml run mov : Nat) (s : State) : (foldRecords metres ml run mov s).settings = s.settings := by simp [foldRecords]
@[simp] theorem foldRecords_timers (metres ml run mov : Nat) (s : State) : (foldRecords metres ml run mov s).timers = s.timers := by simp [foldRecords]
@[simp] theorem foldRecords_pins (metres ml run mov : Nat) (s : State) : (foldRecords metres ml run mov s).pins = s.pins := by simp [foldRecords]
@[simp] theorem foldRecords_own (metres ml run mov : Nat) (s : State) : (foldRecords metres ml run mov s).own = s.own := by simp [foldRecords]

/-! ### applyMarks -/

@[simp] theorem applyMarks_pending (m : HeldMarks) (s : State) : (applyMarks m s).pending = s.pending := rfl
@[simp] theorem applyMarks_meas (m : HeldMarks) (s : State) : (applyMarks m s).meas = s.meas := rfl
@[simp] theorem applyMarks_gauge (m : HeldMarks) (s : State) : (applyMarks m s).gauge = s.gauge := rfl
@[simp] theorem applyMarks_fold (m : HeldMarks) (s : State) : (applyMarks m s).fold = s.fold := rfl
@[simp] theorem applyMarks_nv (m : HeldMarks) (s : State) : (applyMarks m s).nv = s.nv := rfl
@[simp] theorem applyMarks_units (m : HeldMarks) (s : State) : (applyMarks m s).units = s.units := rfl
@[simp] theorem applyMarks_warn (m : HeldMarks) (s : State) : (applyMarks m s).warn = s.warn := rfl
@[simp] theorem applyMarks_chime (m : HeldMarks) (s : State) : (applyMarks m s).chime = s.chime := rfl
@[simp] theorem applyMarks_service (m : HeldMarks) (s : State) : (applyMarks m s).service = s.service := rfl
@[simp] theorem applyMarks_clock (m : HeldMarks) (s : State) : (applyMarks m s).clock = s.clock := rfl
@[simp] theorem applyMarks_power (m : HeldMarks) (s : State) : (applyMarks m s).power = s.power := rfl
@[simp] theorem applyMarks_port (m : HeldMarks) (s : State) : (applyMarks m s).port = s.port := rfl
@[simp] theorem applyMarks_settings (m : HeldMarks) (s : State) : (applyMarks m s).settings = s.settings := rfl
@[simp] theorem applyMarks_timers (m : HeldMarks) (s : State) : (applyMarks m s).timers = s.timers := rfl
@[simp] theorem applyMarks_pins (m : HeldMarks) (s : State) : (applyMarks m s).pins = s.pins := rfl
@[simp] theorem applyMarks_own (m : HeldMarks) (s : State) : (applyMarks m s).own = s.own := rfl

/-! ### handMarks -/

@[simp] theorem handMarks_pending (m : HeldMarks) (s : State) : (handMarks m s).pending = s.pending := by unfold handMarks; split <;> simp
@[simp] theorem handMarks_meas (m : HeldMarks) (s : State) : (handMarks m s).meas = s.meas := by unfold handMarks; split <;> simp
@[simp] theorem handMarks_gauge (m : HeldMarks) (s : State) : (handMarks m s).gauge = s.gauge := by unfold handMarks; split <;> simp
@[simp] theorem handMarks_fold (m : HeldMarks) (s : State) : (handMarks m s).fold = s.fold := by unfold handMarks; split <;> simp
@[simp] theorem handMarks_nv (m : HeldMarks) (s : State) : (handMarks m s).nv = s.nv := by unfold handMarks; split <;> simp
@[simp] theorem handMarks_units (m : HeldMarks) (s : State) : (handMarks m s).units = s.units := by unfold handMarks; split <;> simp
@[simp] theorem handMarks_warn (m : HeldMarks) (s : State) : (handMarks m s).warn = s.warn := by unfold handMarks; split <;> simp
@[simp] theorem handMarks_chime (m : HeldMarks) (s : State) : (handMarks m s).chime = s.chime := by unfold handMarks; split <;> simp
@[simp] theorem handMarks_service (m : HeldMarks) (s : State) : (handMarks m s).service = s.service := by unfold handMarks; split <;> simp
@[simp] theorem handMarks_clock (m : HeldMarks) (s : State) : (handMarks m s).clock = s.clock := by unfold handMarks; split <;> simp
@[simp] theorem handMarks_power (m : HeldMarks) (s : State) : (handMarks m s).power = s.power := by unfold handMarks; split <;> simp
@[simp] theorem handMarks_port (m : HeldMarks) (s : State) : (handMarks m s).port = s.port := by unfold handMarks; split <;> simp
@[simp] theorem handMarks_settings (m : HeldMarks) (s : State) : (handMarks m s).settings = s.settings := by unfold handMarks; split <;> simp
@[simp] theorem handMarks_timers (m : HeldMarks) (s : State) : (handMarks m s).timers = s.timers := by unfold handMarks; split <;> simp
@[simp] theorem handMarks_pins (m : HeldMarks) (s : State) : (handMarks m s).pins = s.pins := by unfold handMarks; split <;> simp
@[simp] theorem handMarks_own (m : HeldMarks) (s : State) : (handMarks m s).own = s.own := by unfold handMarks; split <;> simp

/-! ### storeItems -/

@[simp] theorem storeItems_pending (old new : Vector Item 8) (s : State) : (storeItems old new s).pending = s.pending := by simp [storeItems]
@[simp] theorem storeItems_meas (old new : Vector Item 8) (s : State) : (storeItems old new s).meas = s.meas := by simp [storeItems]
@[simp] theorem storeItems_gauge (old new : Vector Item 8) (s : State) : (storeItems old new s).gauge = s.gauge := by simp [storeItems]
@[simp] theorem storeItems_fold (old new : Vector Item 8) (s : State) : (storeItems old new s).fold = s.fold := by simp [storeItems]
@[simp] theorem storeItems_store (old new : Vector Item 8) (s : State) : (storeItems old new s).store = s.store := by simp [storeItems]
@[simp] theorem storeItems_nv (old new : Vector Item 8) (s : State) : (storeItems old new s).nv = s.nv := by simp [storeItems]
@[simp] theorem storeItems_units (old new : Vector Item 8) (s : State) : (storeItems old new s).units = s.units := by simp [storeItems]
@[simp] theorem storeItems_warn (old new : Vector Item 8) (s : State) : (storeItems old new s).warn = s.warn := by simp [storeItems]
@[simp] theorem storeItems_chime (old new : Vector Item 8) (s : State) : (storeItems old new s).chime = s.chime := by simp [storeItems]
@[simp] theorem storeItems_clock (old new : Vector Item 8) (s : State) : (storeItems old new s).clock = s.clock := by simp [storeItems]
@[simp] theorem storeItems_power (old new : Vector Item 8) (s : State) : (storeItems old new s).power = s.power := by simp [storeItems]
@[simp] theorem storeItems_settings (old new : Vector Item 8) (s : State) : (storeItems old new s).settings = s.settings := by simp [storeItems]
@[simp] theorem storeItems_timers (old new : Vector Item 8) (s : State) : (storeItems old new s).timers = s.timers := by simp [storeItems]
@[simp] theorem storeItems_pins (old new : Vector Item 8) (s : State) : (storeItems old new s).pins = s.pins := by simp [storeItems]
@[simp] theorem storeItems_own (old new : Vector Item 8) (s : State) : (storeItems old new s).own = s.own := by simp [storeItems]

/-! ### evaluateFrom -/

@[simp] theorem evaluateFrom_pending (old items : Vector Item 8) (s : State) : (evaluateFrom old items s).pending = s.pending := by simp [evaluateFrom]
@[simp] theorem evaluateFrom_meas (old items : Vector Item 8) (s : State) : (evaluateFrom old items s).meas = s.meas := by simp [evaluateFrom]
@[simp] theorem evaluateFrom_gauge (old items : Vector Item 8) (s : State) : (evaluateFrom old items s).gauge = s.gauge := by simp [evaluateFrom]
@[simp] theorem evaluateFrom_fold (old items : Vector Item 8) (s : State) : (evaluateFrom old items s).fold = s.fold := by simp [evaluateFrom]
@[simp] theorem evaluateFrom_store (old items : Vector Item 8) (s : State) : (evaluateFrom old items s).store = s.store := by simp [evaluateFrom]
@[simp] theorem evaluateFrom_nv (old items : Vector Item 8) (s : State) : (evaluateFrom old items s).nv = s.nv := by simp [evaluateFrom]
@[simp] theorem evaluateFrom_units (old items : Vector Item 8) (s : State) : (evaluateFrom old items s).units = s.units := by simp [evaluateFrom]
@[simp] theorem evaluateFrom_chime (old items : Vector Item 8) (s : State) : (evaluateFrom old items s).chime = s.chime := by simp [evaluateFrom]
@[simp] theorem evaluateFrom_clock (old items : Vector Item 8) (s : State) : (evaluateFrom old items s).clock = s.clock := by simp [evaluateFrom]
@[simp] theorem evaluateFrom_power (old items : Vector Item 8) (s : State) : (evaluateFrom old items s).power = s.power := by simp [evaluateFrom]
@[simp] theorem evaluateFrom_settings (old items : Vector Item 8) (s : State) : (evaluateFrom old items s).settings = s.settings := by simp [evaluateFrom]
@[simp] theorem evaluateFrom_timers (old items : Vector Item 8) (s : State) : (evaluateFrom old items s).timers = s.timers := by simp [evaluateFrom]
@[simp] theorem evaluateFrom_pins (old items : Vector Item 8) (s : State) : (evaluateFrom old items s).pins = s.pins := by simp [evaluateFrom]
@[simp] theorem evaluateFrom_own (old items : Vector Item 8) (s : State) : (evaluateFrom old items s).own = s.own := by simp [evaluateFrom]

/-! ### evaluate -/

@[simp] theorem evaluate_pending (s : State) : (evaluate s).pending = s.pending := by simp [evaluate]
@[simp] theorem evaluate_meas (s : State) : (evaluate s).meas = s.meas := by simp [evaluate]
@[simp] theorem evaluate_gauge (s : State) : (evaluate s).gauge = s.gauge := by simp [evaluate]
@[simp] theorem evaluate_fold (s : State) : (evaluate s).fold = s.fold := by simp [evaluate]
@[simp] theorem evaluate_store (s : State) : (evaluate s).store = s.store := by simp [evaluate]
@[simp] theorem evaluate_nv (s : State) : (evaluate s).nv = s.nv := by simp [evaluate]
@[simp] theorem evaluate_units (s : State) : (evaluate s).units = s.units := by simp [evaluate]
@[simp] theorem evaluate_chime (s : State) : (evaluate s).chime = s.chime := by simp [evaluate]
@[simp] theorem evaluate_clock (s : State) : (evaluate s).clock = s.clock := by simp [evaluate]
@[simp] theorem evaluate_power (s : State) : (evaluate s).power = s.power := by simp [evaluate]
@[simp] theorem evaluate_settings (s : State) : (evaluate s).settings = s.settings := by simp [evaluate]
@[simp] theorem evaluate_timers (s : State) : (evaluate s).timers = s.timers := by simp [evaluate]
@[simp] theorem evaluate_pins (s : State) : (evaluate s).pins = s.pins := by simp [evaluate]
@[simp] theorem evaluate_own (s : State) : (evaluate s).own = s.own := by simp [evaluate]

/-! ### deliverItems -/

@[simp] theorem deliverItems_pending (metres idle engine : Nat) (cold : Bool) (s : State) : (deliverItems metres idle engine cold s).pending = s.pending := by simp [deliverItems]
@[simp] theorem deliverItems_meas (metres idle engine : Nat) (cold : Bool) (s : State) : (deliverItems metres idle engine cold s).meas = s.meas := by simp [deliverItems]
@[simp] theorem deliverItems_gauge (metres idle engine : Nat) (cold : Bool) (s : State) : (deliverItems metres idle engine cold s).gauge = s.gauge := by simp [deliverItems]
@[simp] theorem deliverItems_fold (metres idle engine : Nat) (cold : Bool) (s : State) : (deliverItems metres idle engine cold s).fold = s.fold := by simp [deliverItems]
@[simp] theorem deliverItems_store (metres idle engine : Nat) (cold : Bool) (s : State) : (deliverItems metres idle engine cold s).store = s.store := by simp [deliverItems]
@[simp] theorem deliverItems_nv (metres idle engine : Nat) (cold : Bool) (s : State) : (deliverItems metres idle engine cold s).nv = s.nv := by simp [deliverItems]
@[simp] theorem deliverItems_units (metres idle engine : Nat) (cold : Bool) (s : State) : (deliverItems metres idle engine cold s).units = s.units := by simp [deliverItems]
@[simp] theorem deliverItems_chime (metres idle engine : Nat) (cold : Bool) (s : State) : (deliverItems metres idle engine cold s).chime = s.chime := by simp [deliverItems]
@[simp] theorem deliverItems_clock (metres idle engine : Nat) (cold : Bool) (s : State) : (deliverItems metres idle engine cold s).clock = s.clock := by simp [deliverItems]
@[simp] theorem deliverItems_power (metres idle engine : Nat) (cold : Bool) (s : State) : (deliverItems metres idle engine cold s).power = s.power := by simp [deliverItems]
@[simp] theorem deliverItems_settings (metres idle engine : Nat) (cold : Bool) (s : State) : (deliverItems metres idle engine cold s).settings = s.settings := by simp [deliverItems]
@[simp] theorem deliverItems_timers (metres idle engine : Nat) (cold : Bool) (s : State) : (deliverItems metres idle engine cold s).timers = s.timers := by simp [deliverItems]
@[simp] theorem deliverItems_pins (metres idle engine : Nat) (cold : Bool) (s : State) : (deliverItems metres idle engine cold s).pins = s.pins := by simp [deliverItems]
@[simp] theorem deliverItems_own (metres idle engine : Nat) (cold : Bool) (s : State) : (deliverItems metres idle engine cold s).own = s.own := by simp [deliverItems]

/-! ### firstSet -/

@[simp] theorem firstSet_pending (s : State) : (firstSet s).pending = s.pending := by simp [firstSet]
@[simp] theorem firstSet_meas (s : State) : (firstSet s).meas = s.meas := by simp [firstSet]
@[simp] theorem firstSet_gauge (s : State) : (firstSet s).gauge = s.gauge := by simp [firstSet]
@[simp] theorem firstSet_fold (s : State) : (firstSet s).fold = s.fold := by simp [firstSet]
@[simp] theorem firstSet_store (s : State) : (firstSet s).store = s.store := by simp [firstSet]
@[simp] theorem firstSet_nv (s : State) : (firstSet s).nv = s.nv := by simp [firstSet]
@[simp] theorem firstSet_units (s : State) : (firstSet s).units = s.units := by simp [firstSet]
@[simp] theorem firstSet_chime (s : State) : (firstSet s).chime = s.chime := by simp [firstSet]
@[simp] theorem firstSet_clock (s : State) : (firstSet s).clock = s.clock := by simp [firstSet]
@[simp] theorem firstSet_power (s : State) : (firstSet s).power = s.power := by simp [firstSet]
@[simp] theorem firstSet_settings (s : State) : (firstSet s).settings = s.settings := by simp [firstSet]
@[simp] theorem firstSet_timers (s : State) : (firstSet s).timers = s.timers := by simp [firstSet]
@[simp] theorem firstSet_pins (s : State) : (firstSet s).pins = s.pins := by simp [firstSet]
@[simp] theorem firstSet_own (s : State) : (firstSet s).own = s.own := by simp [firstSet]

/-! ### performFold -/

@[simp] theorem performFold_pending (s : State) : (performFold s).pending = s.pending := by simp [performFold]
@[simp] theorem performFold_meas (s : State) : (performFold s).meas = s.meas := by simp [performFold]
@[simp] theorem performFold_gauge (s : State) : (performFold s).gauge = s.gauge := by simp [performFold]
@[simp] theorem performFold_units (s : State) : (performFold s).units = s.units := by simp [performFold]
@[simp] theorem performFold_chime (s : State) : (performFold s).chime = s.chime := by simp [performFold]
@[simp] theorem performFold_clock (s : State) : (performFold s).clock = s.clock := by simp [performFold]
@[simp] theorem performFold_power (s : State) : (performFold s).power = s.power := by simp [performFold]
@[simp] theorem performFold_settings (s : State) : (performFold s).settings = s.settings := by simp [performFold]
@[simp] theorem performFold_timers (s : State) : (performFold s).timers = s.timers := by simp [performFold]
@[simp] theorem performFold_pins (s : State) : (performFold s).pins = s.pins := by simp [performFold]
@[simp] theorem performFold_own (s : State) : (performFold s).own = s.own := by simp [performFold]

/-! ### clampTank -/

@[simp] theorem clampTank_pending (s : State) : (clampTank s).pending = s.pending := by unfold clampTank; split <;> simp
@[simp] theorem clampTank_meas (s : State) : (clampTank s).meas = s.meas := by unfold clampTank; split <;> simp
@[simp] theorem clampTank_gauge (s : State) : (clampTank s).gauge = s.gauge := by unfold clampTank; split <;> simp
@[simp] theorem clampTank_store (s : State) : (clampTank s).store = s.store := by unfold clampTank; split <;> simp
@[simp] theorem clampTank_nv (s : State) : (clampTank s).nv = s.nv := by unfold clampTank; split <;> simp
@[simp] theorem clampTank_units (s : State) : (clampTank s).units = s.units := by unfold clampTank; split <;> simp
@[simp] theorem clampTank_warn (s : State) : (clampTank s).warn = s.warn := by unfold clampTank; split <;> simp
@[simp] theorem clampTank_chime (s : State) : (clampTank s).chime = s.chime := by unfold clampTank; split <;> simp
@[simp] theorem clampTank_service (s : State) : (clampTank s).service = s.service := by unfold clampTank; split <;> simp
@[simp] theorem clampTank_clock (s : State) : (clampTank s).clock = s.clock := by unfold clampTank; split <;> simp
@[simp] theorem clampTank_power (s : State) : (clampTank s).power = s.power := by unfold clampTank; split <;> simp
@[simp] theorem clampTank_port (s : State) : (clampTank s).port = s.port := by unfold clampTank; split <;> simp
@[simp] theorem clampTank_settings (s : State) : (clampTank s).settings = s.settings := by unfold clampTank; split <;> simp
@[simp] theorem clampTank_timers (s : State) : (clampTank s).timers = s.timers := by unfold clampTank; split <;> simp
@[simp] theorem clampTank_pins (s : State) : (clampTank s).pins = s.pins := by unfold clampTank; split <;> simp
@[simp] theorem clampTank_own (s : State) : (clampTank s).own = s.own := by unfold clampTank; split <;> simp

/-! ### fastWindowEnd -/

@[simp] theorem fastWindowEnd_pending (s : State) : (fastWindowEnd s).pending = s.pending := by simp only [fastWindowEnd]; split_ifs <;> simp
@[simp] theorem fastWindowEnd_meas (s : State) : (fastWindowEnd s).meas = s.meas := by simp only [fastWindowEnd]; split_ifs <;> simp
@[simp] theorem fastWindowEnd_gauge (s : State) : (fastWindowEnd s).gauge = s.gauge := by simp only [fastWindowEnd]; split_ifs <;> simp
@[simp] theorem fastWindowEnd_store (s : State) : (fastWindowEnd s).store = s.store := by simp only [fastWindowEnd]; split_ifs <;> simp
@[simp] theorem fastWindowEnd_nv (s : State) : (fastWindowEnd s).nv = s.nv := by simp only [fastWindowEnd]; split_ifs <;> simp
@[simp] theorem fastWindowEnd_units (s : State) : (fastWindowEnd s).units = s.units := by simp only [fastWindowEnd]; split_ifs <;> simp
@[simp] theorem fastWindowEnd_warn (s : State) : (fastWindowEnd s).warn = s.warn := by simp only [fastWindowEnd]; split_ifs <;> simp
@[simp] theorem fastWindowEnd_chime (s : State) : (fastWindowEnd s).chime = s.chime := by simp only [fastWindowEnd]; split_ifs <;> simp
@[simp] theorem fastWindowEnd_service (s : State) : (fastWindowEnd s).service = s.service := by simp only [fastWindowEnd]; split_ifs <;> simp
@[simp] theorem fastWindowEnd_clock (s : State) : (fastWindowEnd s).clock = s.clock := by simp only [fastWindowEnd]; split_ifs <;> simp
@[simp] theorem fastWindowEnd_power (s : State) : (fastWindowEnd s).power = s.power := by simp only [fastWindowEnd]; split_ifs <;> simp
@[simp] theorem fastWindowEnd_settings (s : State) : (fastWindowEnd s).settings = s.settings := by simp only [fastWindowEnd]; split_ifs <;> simp
@[simp] theorem fastWindowEnd_timers (s : State) : (fastWindowEnd s).timers = s.timers := by simp only [fastWindowEnd]; split_ifs <;> simp
@[simp] theorem fastWindowEnd_pins (s : State) : (fastWindowEnd s).pins = s.pins := by simp only [fastWindowEnd]; split_ifs <;> simp
@[simp] theorem fastWindowEnd_own (s : State) : (fastWindowEnd s).own = s.own := by simp only [fastWindowEnd]; split_ifs <;> simp

/-! ### commandFold -/

@[simp] theorem commandFold_pending (s : State) : (commandFold s).pending = s.pending := by unfold commandFold; split <;> simp
@[simp] theorem commandFold_meas (s : State) : (commandFold s).meas = s.meas := by unfold commandFold; split <;> simp
@[simp] theorem commandFold_gauge (s : State) : (commandFold s).gauge = s.gauge := by unfold commandFold; split <;> simp
@[simp] theorem commandFold_units (s : State) : (commandFold s).units = s.units := by unfold commandFold; split <;> simp
@[simp] theorem commandFold_chime (s : State) : (commandFold s).chime = s.chime := by unfold commandFold; split <;> simp
@[simp] theorem commandFold_clock (s : State) : (commandFold s).clock = s.clock := by unfold commandFold; split <;> simp
@[simp] theorem commandFold_power (s : State) : (commandFold s).power = s.power := by unfold commandFold; split <;> simp
@[simp] theorem commandFold_settings (s : State) : (commandFold s).settings = s.settings := by unfold commandFold; split <;> simp
@[simp] theorem commandFold_timers (s : State) : (commandFold s).timers = s.timers := by unfold commandFold; split <;> simp
@[simp] theorem commandFold_pins (s : State) : (commandFold s).pins = s.pins := by unfold commandFold; split <;> simp
@[simp] theorem commandFold_own (s : State) : (commandFold s).own = s.own := by unfold commandFold; split <;> simp

/-! ### countSince -/

@[simp] theorem countSince_pending (s : State) : (countSince s).pending = s.pending := rfl
@[simp] theorem countSince_meas (s : State) : (countSince s).meas = s.meas := rfl
@[simp] theorem countSince_gauge (s : State) : (countSince s).gauge = s.gauge := rfl
@[simp] theorem countSince_fold (s : State) : (countSince s).fold = s.fold := rfl
@[simp] theorem countSince_nv (s : State) : (countSince s).nv = s.nv := rfl
@[simp] theorem countSince_units (s : State) : (countSince s).units = s.units := rfl
@[simp] theorem countSince_warn (s : State) : (countSince s).warn = s.warn := rfl
@[simp] theorem countSince_chime (s : State) : (countSince s).chime = s.chime := rfl
@[simp] theorem countSince_service (s : State) : (countSince s).service = s.service := rfl
@[simp] theorem countSince_clock (s : State) : (countSince s).clock = s.clock := rfl
@[simp] theorem countSince_power (s : State) : (countSince s).power = s.power := rfl
@[simp] theorem countSince_port (s : State) : (countSince s).port = s.port := rfl
@[simp] theorem countSince_settings (s : State) : (countSince s).settings = s.settings := rfl
@[simp] theorem countSince_timers (s : State) : (countSince s).timers = s.timers := rfl
@[simp] theorem countSince_pins (s : State) : (countSince s).pins = s.pins := rfl
@[simp] theorem countSince_own (s : State) : (countSince s).own = s.own := rfl

/-! ### raiseAtStart -/

@[simp] theorem raiseAtStart_pending (b : Bool) (w : Fin 24) (add : Bool) (d : BitVec 8) (s : State) : (raiseAtStart b w add d s).pending = s.pending := by unfold raiseAtStart; split <;> simp
@[simp] theorem raiseAtStart_meas (b : Bool) (w : Fin 24) (add : Bool) (d : BitVec 8) (s : State) : (raiseAtStart b w add d s).meas = s.meas := by unfold raiseAtStart; split <;> simp
@[simp] theorem raiseAtStart_gauge (b : Bool) (w : Fin 24) (add : Bool) (d : BitVec 8) (s : State) : (raiseAtStart b w add d s).gauge = s.gauge := by unfold raiseAtStart; split <;> simp
@[simp] theorem raiseAtStart_fold (b : Bool) (w : Fin 24) (add : Bool) (d : BitVec 8) (s : State) : (raiseAtStart b w add d s).fold = s.fold := by unfold raiseAtStart; split <;> simp
@[simp] theorem raiseAtStart_store (b : Bool) (w : Fin 24) (add : Bool) (d : BitVec 8) (s : State) : (raiseAtStart b w add d s).store = s.store := by unfold raiseAtStart; split <;> simp
@[simp] theorem raiseAtStart_nv (b : Bool) (w : Fin 24) (add : Bool) (d : BitVec 8) (s : State) : (raiseAtStart b w add d s).nv = s.nv := by unfold raiseAtStart; split <;> simp
@[simp] theorem raiseAtStart_units (b : Bool) (w : Fin 24) (add : Bool) (d : BitVec 8) (s : State) : (raiseAtStart b w add d s).units = s.units := by unfold raiseAtStart; split <;> simp
@[simp] theorem raiseAtStart_service (b : Bool) (w : Fin 24) (add : Bool) (d : BitVec 8) (s : State) : (raiseAtStart b w add d s).service = s.service := by unfold raiseAtStart; split <;> simp
@[simp] theorem raiseAtStart_clock (b : Bool) (w : Fin 24) (add : Bool) (d : BitVec 8) (s : State) : (raiseAtStart b w add d s).clock = s.clock := by unfold raiseAtStart; split <;> simp
@[simp] theorem raiseAtStart_power (b : Bool) (w : Fin 24) (add : Bool) (d : BitVec 8) (s : State) : (raiseAtStart b w add d s).power = s.power := by unfold raiseAtStart; split <;> simp
@[simp] theorem raiseAtStart_port (b : Bool) (w : Fin 24) (add : Bool) (d : BitVec 8) (s : State) : (raiseAtStart b w add d s).port = s.port := by unfold raiseAtStart; split <;> simp
@[simp] theorem raiseAtStart_settings (b : Bool) (w : Fin 24) (add : Bool) (d : BitVec 8) (s : State) : (raiseAtStart b w add d s).settings = s.settings := by unfold raiseAtStart; split <;> simp
@[simp] theorem raiseAtStart_timers (b : Bool) (w : Fin 24) (add : Bool) (d : BitVec 8) (s : State) : (raiseAtStart b w add d s).timers = s.timers := by unfold raiseAtStart; split <;> simp
@[simp] theorem raiseAtStart_pins (b : Bool) (w : Fin 24) (add : Bool) (d : BitVec 8) (s : State) : (raiseAtStart b w add d s).pins = s.pins := by unfold raiseAtStart; split <;> simp
@[simp] theorem raiseAtStart_own (b : Bool) (w : Fin 24) (add : Bool) (d : BitVec 8) (s : State) : (raiseAtStart b w add d s).own = s.own := by unfold raiseAtStart; split <;> simp

/-! ### startItems -/

@[simp] theorem startItems_pending (s : State) : (startItems s).pending = s.pending := by simp [startItems]
@[simp] theorem startItems_meas (s : State) : (startItems s).meas = s.meas := by simp [startItems]
@[simp] theorem startItems_gauge (s : State) : (startItems s).gauge = s.gauge := by simp [startItems]
@[simp] theorem startItems_fold (s : State) : (startItems s).fold = s.fold := by simp [startItems]
@[simp] theorem startItems_store (s : State) : (startItems s).store = s.store := by simp [startItems]
@[simp] theorem startItems_nv (s : State) : (startItems s).nv = s.nv := by simp [startItems]
@[simp] theorem startItems_units (s : State) : (startItems s).units = s.units := by simp [startItems]
@[simp] theorem startItems_clock (s : State) : (startItems s).clock = s.clock := by simp [startItems]
@[simp] theorem startItems_power (s : State) : (startItems s).power = s.power := by simp [startItems]
@[simp] theorem startItems_settings (s : State) : (startItems s).settings = s.settings := by simp [startItems]
@[simp] theorem startItems_timers (s : State) : (startItems s).timers = s.timers := by simp [startItems]
@[simp] theorem startItems_pins (s : State) : (startItems s).pins = s.pins := by simp [startItems]
@[simp] theorem startItems_own (s : State) : (startItems s).own = s.own := by simp [startItems]

end Sys2Proof.Machine
end

