-- ==== Sys2Proof/Laws/Settle.lean ====
section
/-! SUPPORT. What settling an event leaves as it was inside the blocks that it does change: the records, the timers of the
power controller, the slots and the service line, the counts of the warning unit, the quiet state, and the gauges when no
park entry is due. -/

namespace Sys2Proof.Machine

/-! ### The record store -/

theorem arbitrate_store (s : State) :
    (arbitrate s).store = { s.store with grant := (arbitrate s).store.grant, order := (arbitrate s).store.order } := by
  unfold arbitrate
  (repeat' split) <;> rfl

theorem settleFrom_store_eq (old : List Entry) (s : State) :
    (settleFrom old s).store = (arbitrate (settleChimes s)).store := by
  simp [settleFrom]

theorem settle_store (a s : State) :
    (settle a s).store = { s.store with grant := (settle a s).store.grant, order := (settle a s).store.order } := by
  unfold settle
  rw [settleFrom_store_eq, arbitrate_store]
  simp

@[simp] theorem settle_store_odo (a s : State) : (settle a s).store.odo = s.store.odo := by rw [settle_store]
@[simp] theorem settle_store_a (a s : State) : (settle a s).store.a = s.store.a := by rw [settle_store]
@[simp] theorem settle_store_b (a s : State) : (settle a s).store.b = s.store.b := by rw [settle_store]
@[simp] theorem settle_store_p (a s : State) : (settle a s).store.p = s.store.p := by rw [settle_store]
@[simp] theorem settle_store_charter (a s : State) : (settle a s).store.charter = s.store.charter := by rw [settle_store]
@[simp] theorem settle_store_held (a s : State) : (settle a s).store.held = s.store.held := by rw [settle_store]
@[simp] theorem settle_store_logPos (a s : State) : (settle a s).store.logPos = s.store.logPos := by rw [settle_store]

/-- Settling changes no record, held mark or log position. -/
theorem settle_sameRecords (a s : State) : SameRecords s (settle a s) := by simp [SameRecords]

/-! ### The power controller -/

@[simp] theorem returnEnded_alive (s : State) : alive (returnEnded s) = alive s := by simp [alive]

theorem settlePark_power (s : State) :
    (settlePark s).power = { s.power with park := (settlePark s).power.park } := by
  unfold settlePark beginPark
  (repeat' split) <;> simp

theorem settleFrom_power_eq (old : List Entry) (s : State) :
    (settleFrom old s).power = (settlePark (arbitrate (settleChimes s))).power := by
  simp [settleFrom]

theorem settle_power (a s : State) : (settle a s).power = { s.power with park := (settle a s).power.park } := by
  unfold settle
  rw [settleFrom_power_eq, settlePark_power]
  simp

@[simp] theorem settle_power_state (a s : State) : (settle a s).power.state = s.power.state := by rw [settle_power]
@[simp] theorem settle_power_delay (a s : State) : (settle a s).power.delay = s.power.delay := by rw [settle_power]
@[simp] theorem settle_power_limit (a s : State) : (settle a s).power.limit = s.power.limit := by rw [settle_power]
@[simp] theorem settle_power_waking (a s : State) : (settle a s).power.waking = s.power.waking := by rw [settle_power]
@[simp] theorem settle_power_supplied (a s : State) : (settle a s).power.supplied = s.power.supplied := by rw [settle_power]
@[simp] theorem settle_power_armed (a s : State) : (settle a s).power.armed = s.power.armed := by rw [settle_power]
@[simp] theorem settle_power_reference (a s : State) : (settle a s).power.reference = s.power.reference := by
  rw [settle_power]
@[simp] theorem settle_power_lastWake (a s : State) : (settle a s).power.lastWake = s.power.lastWake := by
  rw [settle_power]
@[simp] theorem settle_power_causeFront (a s : State) : (settle a s).power.causeFront = s.power.causeFront := by
  rw [settle_power]
@[simp] theorem settle_power_causeRear (a s : State) : (settle a s).power.causeRear = s.power.causeRear := by
  rw [settle_power]
@[simp] theorem settle_alive (a s : State) : alive (settle a s) = alive s := by simp [alive]
@[simp] theorem settle_clocked (a s : State) : clocked (settle a s) = clocked s := by simp [clocked]

/-- With no park entry due, settling leaves the power controller as it was. -/
theorem settlePark_notDue (s : State) (h : ParkNotDue s) : settlePark s = s := by
  unfold settlePark
  rcases h with h | h <;> simp_all [inAwake]

theorem settle_power_notDue (a s : State) (h : ParkNotDue s) : (settle a s).power = s.power := by
  unfold settle
  rw [settleFrom_power_eq, settlePark_notDue _ (by simpa [ParkNotDue] using h)]
  simp

/-! ### The gauges -/

theorem settleFrom_gauge_eq (old : List Entry) (s : State) :
    (settleFrom old s).gauge =
      { (settlePark (arbitrate (settleChimes s))).gauge with lamps := (settleFrom old s).gauge.lamps } := by
  simp [settleFrom, workLamps]

/-- With no park entry due, settling changes the lamp states at most. -/
theorem settle_gauge_notDue (a s : State) (h : ParkNotDue s) :
    (settle a s).gauge = { s.gauge with lamps := (settle a s).gauge.lamps } := by
  unfold settle
  rw [settleFrom_gauge_eq, settlePark_notDue _ (by simpa [ParkNotDue] using h)]
  simp

/-! ### Ports -/

/-- A notice changes the notice sets at most. -/
theorem notify_port (l : Link) (n : Notice) (s : State) :
    (notify l n s).port = { s.port with
      front := { s.port.front with notices := (notify l n s).port.front.notices }
      rear := { s.port.rear with notices := (notify l n s).port.rear.notices } } := by
  cases l <;> rfl

theorem countViews_port (old : List Entry) (s : State) :
    (countViews old s).port = { s.port with
      front := { s.port.front with notices := (countViews old s).port.front.notices }
      rear := { s.port.rear with notices := (countViews old s).port.rear.notices } } := by
  simp only [countViews]
  split_ifs <;> rfl

theorem settle_port (a s : State) :
    (settle a s).port = { s.port with
      front := { s.port.front with notices := (settle a s).port.front.notices }
      rear := { s.port.rear with notices := (settle a s).port.rear.notices } } := by
  unfold settle settleFrom
  rw [countViews_port]
  simp

@[simp] theorem settle_front_slot (a s : State) : (settle a s).port.front.slot = s.port.front.slot := by rw [settle_port]
@[simp] theorem settle_rear_slot (a s : State) : (settle a s).port.rear.slot = s.port.rear.slot := by rw [settle_port]
@[simp] theorem settle_front_select (a s : State) : (settle a s).port.front.select = s.port.front.select := by
  rw [settle_port]
@[simp] theorem settle_rear_select (a s : State) : (settle a s).port.rear.select = s.port.rear.select := by
  rw [settle_port]
@[simp] theorem settle_front_silent (a s : State) : (settle a s).port.front.silent = s.port.front.silent := by
  rw [settle_port]
@[simp] theorem settle_rear_silent (a s : State) : (settle a s).port.rear.silent = s.port.rear.silent := by
  rw [settle_port]
@[simp] theorem settle_front_silence (a s : State) : (settle a s).port.front.silence = s.port.front.silence := by
  rw [settle_port]
@[simp] theorem settle_rear_silence (a s : State) : (settle a s).port.rear.silence = s.port.rear.silence := by
  rw [settle_port]
@[simp] theorem settle_service_line (a s : State) : (settle a s).port.service = s.port.service := by rw [settle_port]

@[simp] theorem notify_front_slot (l : Link) (n : Notice) (s : State) :
    (notify l n s).port.front.slot = s.port.front.slot := by rw [notify_port]
@[simp] theorem notify_rear_slot (l : Link) (n : Notice) (s : State) :
    (notify l n s).port.rear.slot = s.port.rear.slot := by rw [notify_port]
@[simp] theorem notify_service_line (l : Link) (n : Notice) (s : State) :
    (notify l n s).port.service = s.port.service := by rw [notify_port]

/-- Settling delivers no reply and takes none away. -/
theorem answered_settle (p : Port) (r : Reply) (a s t : State) : Answered p r s (settle a t) ↔ Answered p r s t := by
  cases p <;> simp [Answered]

/-! ### Warning unit and chime unit -/

theorem settleChimes_warn (s : State) :
    (settleChimes s).warn = { s.warn with list := (settleChimes s).warn.list } := by
  have take (sp : Speaker) (c : Candidate) (s : State) :
      (takeCandidate sp c s).warn = { s.warn with list := (takeCandidate sp c s).warn.list } := by
    cases c <;> rfl
  have choice (sp : Speaker) (s : State) :
      (chooseIfIdle sp s).warn = { s.warn with list := (chooseIfIdle sp s).warn.list } := by
    unfold chooseIfIdle choose
    (repeat' split) <;> first | rfl | exact take _ _ _
  have quiet (s : State) : (settleQuiet s).warn = { s.warn with list := (settleQuiet s).warn.list } := by
    unfold settleQuiet
    split <;> rfl
  simp only [settleChimes, chooseBoth]
  split_ifs
  · rw [choice, choice, quiet]
  · exact quiet s

theorem countViews_warn (old : List Entry) (s : State) :
    (countViews old s).warn = { s.warn with
      seqFront := (countViews old s).warn.seqFront
      seqRear := (countViews old s).warn.seqRear
      seqService := (countViews old s).warn.seqService } := by
  simp only [countViews]
  split_ifs <;> rfl

theorem settle_warn (a s : State) :
    (settle a s).warn = { s.warn with
      list := (settle a s).warn.list
      seqFront := (settle a s).warn.seqFront
      seqRear := (settle a s).warn.seqRear
      seqService := (settle a s).warn.seqService } := by
  unfold settle settleFrom
  rw [countViews_warn]
  simp only [workLamps_warn, startWrite_warn, settlePark_warn, arbitrate_warn]
  rw [settleChimes_warn]

@[simp] theorem settle_warn_qualify (a s : State) : (settle a s).warn.qualify = s.warn.qualify := by rw [settle_warn]
@[simp] theorem settle_warn_release (a s : State) : (settle a s).warn.release = s.warn.release := by rw [settle_warn]
@[simp] theorem settle_warn_engineRun (a s : State) : (settle a s).warn.engineRun = s.warn.engineRun := by
  rw [settle_warn]
@[simp] theorem settle_warn_runCount (a s : State) : (settle a s).warn.runCount = s.warn.runCount := by rw [settle_warn]
@[simp] theorem settle_warn_limit (a s : State) : (settle a s).warn.limit = s.warn.limit := by rw [settle_warn]
@[simp] theorem settle_warn_limitCheck (a s : State) : (settle a s).warn.limitCheck = s.warn.limitCheck := by
  rw [settle_warn]

end Sys2Proof.Machine
end

