-- ==== Sys2Proof/Laws/Lists.lean ====
section
/-! SUPPORT. What the operations on the active list and the speaker queues keep: the order of the list with one entry a
definition, and the lengths of the queues. -/

namespace Sys2Proof.Machine

/-! ### The order of the active list (R105, R107) -/

/-- The order of a list rests on its definitions alone. -/
theorem listOrdered_of_defs {l m : List Entry} (h : m.map Entry.w = l.map Entry.w) (hl : ListOrdered l) : ListOrdered m := by
  refine ⟨by rw [h]; exact hl.1, ?_⟩
  have key : ∀ k : List Entry, (k.Pairwise fun a b => (warnDef b.w).cls ≤ (warnDef a.w).cls)
      ↔ (k.map Entry.w).Pairwise fun a b => (warnDef b).cls ≤ (warnDef a).cls :=
    fun k => by rw [List.pairwise_map]
  rw [key, h, ← key]
  exact hl.2

theorem listOrdered_nil : ListOrdered [] := ⟨List.nodup_nil, List.Pairwise.nil⟩

/-- A part of an ordered list is ordered. -/
theorem listOrdered_sublist {l m : List Entry} (h : m.Sublist l) (hl : ListOrdered l) : ListOrdered m :=
  ⟨(h.map Entry.w).nodup hl.1, hl.2.sublist h⟩

theorem dropEntry_ordered (w : Fin 24) {l : List Entry} (hl : ListOrdered l) : ListOrdered (dropEntry w l) :=
  listOrdered_sublist List.filter_sublist hl

@[simp] theorem mapEntry_defs (w : Fin 24) (f : Entry → Entry) (hf : ∀ e, (f e).w = e.w) (l : List Entry) :
    (mapEntry w f l).map Entry.w = l.map Entry.w := by
  simp only [mapEntry, List.map_map]
  refine List.map_congr_left fun e _ => ?_
  simp only [Function.comp]
  split <;> simp [hf]

theorem mapEntry_ordered (w : Fin 24) (f : Entry → Entry) (hf : ∀ e, (f e).w = e.w) {l : List Entry} (hl : ListOrdered l) :
    ListOrdered (mapEntry w f l) := listOrdered_of_defs (mapEntry_defs w f hf l) hl

theorem mem_insertEntry (e x : Entry) (l : List Entry) : x ∈ insertEntry e l ↔ x = e ∨ x ∈ l := by
  induction l with
  | nil => simp [insertEntry]
  | cons y ys ih =>
    unfold insertEntry
    split
    · simp only [List.mem_cons, ih]; tauto
    · simp

/-- An insertion stands between the entries of its class or above and those of a lower class. -/
theorem insertEntry_split (e : Entry) {l : List Entry} (hl : ListOrdered l) :
    ∃ l₁ l₂, l = l₁ ++ l₂ ∧ insertEntry e l = l₁ ++ e :: l₂ ∧ (∀ x ∈ l₁, (warnDef e.w).cls ≤ (warnDef x.w).cls)
      ∧ ∀ x ∈ l₂, (warnDef x.w).cls < (warnDef e.w).cls := by
  induction l with
  | nil => exact ⟨[], [], rfl, rfl, by simp, by simp⟩
  | cons y ys ih =>
    have hy : ListOrdered ys := listOrdered_sublist (List.sublist_cons_self y ys) hl
    unfold insertEntry
    split
    · rename_i h
      obtain ⟨l₁, l₂, h1, h2, h3, h4⟩ := ih hy
      refine ⟨y :: l₁, l₂, by simp [h1], by simp [h2], ?_, h4⟩
      intro x hx
      rcases List.mem_cons.1 hx with rfl | hx
      · exact h
      · exact h3 x hx
    · rename_i h
      refine ⟨[], y :: ys, rfl, rfl, by simp, ?_⟩
      intro x hx
      rcases List.mem_cons.1 hx with rfl | hx
      · omega
      · have := (List.pairwise_cons.1 hl.2).1 x hx
        omega

/-- An insertion of a definition that has no entry keeps the order. -/
theorem insertEntry_ordered (e : Entry) {l : List Entry} (hl : ListOrdered l) (h : ∀ x ∈ l, x.w ≠ e.w) :
    ListOrdered (insertEntry e l) := by
  obtain ⟨l₁, l₂, h1, h2, h3, h4⟩ := insertEntry_split e hl
  rw [h2]
  subst h1
  obtain ⟨hn, hp⟩ := hl
  rw [List.map_append] at hn
  refine ⟨?_, ?_⟩
  · rw [List.map_append, List.map_cons]
    refine List.nodup_middle.2 (List.nodup_cons.2 ⟨?_, hn⟩)
    intro hm
    rw [← List.map_append] at hm
    obtain ⟨x, hx, hw⟩ := List.mem_map.1 hm
    exact h x hx hw
  · obtain ⟨p1, p2, p3⟩ := List.pairwise_append.1 hp
    refine List.pairwise_append.2 ⟨p1, List.pairwise_cons.2 ⟨fun x hx => (h4 x hx).le, p2⟩, ?_⟩
    intro a ha b hb
    rcases List.mem_cons.1 hb with rfl | hb
    · exact h3 a ha
    · exact p3 a ha b hb

theorem findEntry_none {w : Fin 24} {l : List Entry} : findEntry w l = none ↔ ∀ x ∈ l, x.w ≠ w := by
  simp [findEntry, List.find?_eq_none]

theorem findEntry_some {w : Fin 24} {l : List Entry} {e : Entry} (h : findEntry w l = some e) : e ∈ l ∧ e.w = w :=
  ⟨List.mem_of_find?_eq_some h, by simpa using List.find?_some h⟩

theorem mem_dropEntry {w : Fin 24} {l : List Entry} {x : Entry} : x ∈ dropEntry w l ↔ x ∈ l ∧ x.w ≠ w := by
  simp [dropEntry]

/-- R107: a raise keeps the order. -/
theorem raiseList_ordered (w : Fin 24) (add : Bool) (d : BitVec 8) (stamp : Nat) {l : List Entry} (hl : ListOrdered l) :
    ListOrdered (raiseList w add d stamp l) := by
  unfold raiseList
  split
  · rename_i h
    exact insertEntry_ordered _ hl (findEntry_none.1 h)
  · split
    · exact insertEntry_ordered _ (dropEntry_ordered w hl) fun x hx => (mem_dropEntry.1 hx).2
    · exact mapEntry_ordered w (fun x => x.updateDetail add d) (fun _ => rfl) hl

/-- R108: a release keeps the order. -/
theorem releaseList_ordered (w : Fin 24) {l : List Entry} (hl : ListOrdered l) : ListOrdered (releaseList w l) := by
  unfold releaseList
  split
  · exact hl
  · split_ifs
    · exact hl
    · exact mapEntry_ordered w Entry.clear (fun _ => rfl) hl
    · exact dropEntry_ordered w hl

theorem raise_ordered (w : Fin 24) (add : Bool) (d : BitVec 8) (s : State) (h : ListOrdered s.warn.list) :
    ListOrdered (raise w add d s).warn.list := raiseList_ordered w add d _ h

theorem release_ordered (w : Fin 24) (s : State) (h : ListOrdered s.warn.list) : ListOrdered (release w s).warn.list :=
  releaseList_ordered w h

theorem dropMember_ordered (w : Fin 24) (d : BitVec 8) (s : State) (h : ListOrdered s.warn.list) :
    ListOrdered (dropMember w d s).warn.list := by
  unfold dropMember
  split
  · exact h
  · dsimp only
    split_ifs
    · exact release_ordered w s h
    · exact mapEntry_ordered w (fun x => { x with detail := some _ }) (fun _ => rfl) h

theorem handItemSets_ordered (a b : BitVec 8) (s : State) (h : ListOrdered s.warn.list) :
    ListOrdered (handItemSets a b s).warn.list := by
  have first : ListOrdered (if a = 0 then release 13 s else raise 13 false a s).warn.list := by
    split_ifs
    · exact release_ordered _ _ h
    · exact raise_ordered _ _ _ _ h
  unfold handItemSets
  dsimp only
  split_ifs at first ⊢
  · exact release_ordered _ _ first
  · exact release_ordered _ _ first
  · exact raise_ordered _ _ _ _ first
  · exact raise_ordered _ _ _ _ first

/-- A change of each entry that keeps its definition keeps the order. -/
theorem map_ordered (f : Entry → Entry) (hf : ∀ e, (f e).w = e.w) {l : List Entry} (hl : ListOrdered l) :
    ListOrdered (l.map f) :=
  listOrdered_of_defs (by rw [List.map_map]; exact List.map_congr_left fun e _ => hf e) hl

theorem remind_ordered (s : State) (h : ListOrdered s.warn.list) : ListOrdered (remind s).warn.list :=
  map_ordered _ (fun e => by split <;> rfl) h

@[simp] theorem setChime_w (e : Entry) (sp : Speaker) (m : Option ChimeMark) : (e.setChime sp m).w = e.w := by
  cases sp <;> rfl

@[simp] theorem setChime_defs (w : Fin 24) (sp : Speaker) (m : ChimeMark) (s : State) :
    (setChime w sp m s).warn.list.map Entry.w = s.warn.list.map Entry.w :=
  mapEntry_defs w _ (fun e => setChime_w e sp _) _

@[simp] theorem quieted_w (e : Entry) : e.quieted.w = e.w := by
  unfold Entry.quieted
  split_ifs <;> simp

@[simp] theorem settleQuiet_defs (s : State) : (settleQuiet s).warn.list.map Entry.w = s.warn.list.map Entry.w := by
  unfold settleQuiet
  split_ifs
  · rfl
  · show (s.warn.list.map Entry.quieted).map Entry.w = _
    rw [List.map_map]
    exact List.map_congr_left fun e _ => quieted_w e

@[simp] theorem takeCandidate_defs (sp : Speaker) (c : Candidate) (s : State) :
    (takeCandidate sp c s).warn.list.map Entry.w = s.warn.list.map Entry.w := by
  cases c
  · exact setChime_defs _ _ _ s
  · rfl

@[simp] theorem choose_defs (sp : Speaker) (s : State) :
    (choose sp s).warn.list.map Entry.w = s.warn.list.map Entry.w := by
  unfold choose
  split
  · rfl
  · exact takeCandidate_defs _ _ s

@[simp] theorem chooseIfIdle_defs (sp : Speaker) (s : State) :
    (chooseIfIdle sp s).warn.list.map Entry.w = s.warn.list.map Entry.w := by
  unfold chooseIfIdle
  split
  · exact choose_defs sp s
  · rfl

@[simp] theorem chooseBoth_defs (s : State) : (chooseBoth s).warn.list.map Entry.w = s.warn.list.map Entry.w := by
  simp [chooseBoth]

@[simp] theorem settleChimes_defs (s : State) : (settleChimes s).warn.list.map Entry.w = s.warn.list.map Entry.w := by
  unfold settleChimes
  dsimp only
  split_ifs <;> simp

/-- Settling an event keeps the order of the list. -/
theorem settle_ordered (a s : State) (h : ListOrdered s.warn.list) : ListOrdered (settle a s).warn.list := by
  refine listOrdered_of_defs ?_ h
  have h1 : (settle a s).warn.list = (settleChimes s).warn.list := by
    unfold settle settleFrom
    rw [countViews_warn]
    simp
  rw [h1]
  exact settleChimes_defs s

/-! ### The speaker queues (R126) -/

@[simp] theorem insertQueue_length (e : QueueEntry) (q : List QueueEntry) : (insertQueue e q).length = q.length + 1 := by
  induction q with
  | nil => rfl
  | cons x xs ih =>
    unfold insertQueue
    split_ifs <;> simp [ih]

@[simp] theorem unmark_length (q : List QueueEntry) : (unmark q).length = q.length := by simp [unmark]

/-- A new play of a speaker leaves every queue. -/
@[simp] theorem setSpeaker_play_queue (c : ChimeUnit) (sp o : Speaker) (q : Option Play) :
    ((c.setSpeaker sp ⟨q, (c.speaker sp).queue⟩).speaker o).queue = (c.speaker o).queue := by
  cases sp <;> cases o <;> rfl

@[simp] theorem withPlay_queue (sp o : Speaker) (q : Option Play) (s : State) :
    ((s.withPlay sp q).chime.speaker o).queue = (s.chime.speaker o).queue := by cases sp <;> cases o <;> rfl

@[simp] theorem withQueue_queue (sp o : Speaker) (q : List QueueEntry) (s : State) :
    ((s.withQueue sp q).chime.speaker o).queue = if o = sp then q else (s.chime.speaker o).queue := by
  cases sp <;> cases o <;> rfl

/-- A choice changes no more of a queue than a PLAYING mark. -/
@[simp] theorem takeCandidate_queue (sp o : Speaker) (c : Candidate) (s : State) :
    ((takeCandidate sp c s).chime.speaker o).queue.length = (s.chime.speaker o).queue.length := by
  cases c
  · simp [takeCandidate]
  · simp only [takeCandidate, withPlay_queue, withQueue_queue]
    split_ifs with h
    · subst h; simp
    · rfl

@[simp] theorem choose_queue (sp o : Speaker) (s : State) :
    ((choose sp s).chime.speaker o).queue.length = (s.chime.speaker o).queue.length := by
  unfold choose
  split <;> simp

@[simp] theorem chooseIfIdle_queue (sp o : Speaker) (s : State) :
    ((chooseIfIdle sp s).chime.speaker o).queue.length = (s.chime.speaker o).queue.length := by
  unfold chooseIfIdle
  split <;> simp

@[simp] theorem chooseBoth_queue (o : Speaker) (s : State) :
    ((chooseBoth s).chime.speaker o).queue.length = (s.chime.speaker o).queue.length := by simp [chooseBoth]

@[simp] theorem settleChimes_queue (o : Speaker) (s : State) :
    ((settleChimes s).chime.speaker o).queue.length = (s.chime.speaker o).queue.length := by
  unfold settleChimes
  dsimp only
  split_ifs <;> simp

/-- Settling an event keeps the length of each queue. -/
theorem settle_queue (a s : State) (o : Speaker) :
    ((settle a s).chime.speaker o).queue.length = (s.chime.speaker o).queue.length := by
  have h : (settle a s).chime = (settleChimes s).chime := by simp [settle, settleFrom]
  rw [h, settleChimes_queue]

theorem giveBack_queue (sp o : Speaker) (q : Play) (s : State) :
    ((giveBack sp q s).chime.speaker o).queue.length = (s.chime.speaker o).queue.length := by
  unfold giveBack
  split
  · rfl
  · simp only [withQueue_queue]
    split_ifs with h
    · subst h; simp
    · rfl

theorem queuePassEnd_queue (sp o : Speaker) (s : State) :
    ((queuePassEnd sp s).chime.speaker o).queue.length ≤ (s.chime.speaker o).queue.length := by
  unfold queuePassEnd
  dsimp only
  split
  · exact le_rfl
  · have key : ((s.withQueue sp ((s.chime.speaker sp).queue.filter fun x => !x.playing)).chime.speaker o).queue.length
        ≤ (s.chime.speaker o).queue.length := by
      simp only [withQueue_queue]
      split_ifs with h
      · subst h; exact List.length_filter_le _ _
      · exact le_rfl
    split_ifs
    · exact key
    · refine le_trans (le_of_eq ?_) key
      simp

theorem passEnd_queue (sp o : Speaker) (q : Play) (s : State) :
    ((passEnd sp q s).chime.speaker o).queue.length ≤ (s.chime.speaker o).queue.length := by
  unfold passEnd
  split
  · split
    · exact le_rfl
    · exact le_rfl
  · exact queuePassEnd_queue sp o s

/-- A note boundary makes no queue longer. -/
theorem boundary_queue (sp o : Speaker) (q : Play) (s : State) :
    ((boundary sp q s).chime.speaker o).queue.length ≤ (s.chime.speaker o).queue.length := by
  unfold boundary
  split_ifs
  · simp only [choose_queue]
    unfold quietAtBoundary
    split_ifs
    · cases sp <;> cases o <;> exact le_rfl
    · simp
  · simp only [choose_queue, settleQuiet_chime, withPlay_queue]
    exact passEnd_queue sp o q s
  · split
    · simp
    · split_ifs
      · simp [giveBack_queue]
      · simp

theorem suspendSpeaker_queue (sp o : Speaker) (s : State) :
    ((suspendSpeaker sp s).chime.speaker o).queue.length = (s.chime.speaker o).queue.length := by
  unfold suspendSpeaker
  split
  · rfl
  · simp only [withPlay_queue]
    split_ifs
    · exact giveBack_queue _ _ _ _
    · rfl

end Sys2Proof.Machine
end

