-- ==== Sys2Proof/Laws/PerInstr.lean ====
section
/-! SUPPORT. The family Requests: every command that a port may ask for is the command of a request that the port's slot can
hold (R171, R172), so a link and the service line can ask for every one of them. -/

namespace Sys2Proof.Laws.Requests

open Sys2Proof Sys2Proof.Machine

/-- A well-formed console command of a port is the command of a request of that port. -/
def Statement (i : Instr) : Prop := i.wellFormed = true → ∀ p, i.port = some p → ∃ r : Request, r.command p = i

theorem coldStart (i : StartInputs) : Statement (.coldStart i) := fun _ _ h => nomatch h

theorem restart (i : StartInputs) : Statement (.restart i) := fun _ _ h => nomatch h

theorem roadPulseEdge : Statement (.roadPulseEdge) := fun _ _ h => nomatch h

theorem roadAgeStale : Statement (.roadAgeStale) := fun _ _ h => nomatch h

theorem speedSampleExpiry : Statement (.speedSampleExpiry) := fun _ _ h => nomatch h

theorem enginePulseEdge : Statement (.enginePulseEdge) := fun _ _ h => nomatch h

theorem engineAgeStale : Statement (.engineAgeStale) := fun _ _ h => nomatch h

theorem rpmSampleExpiry : Statement (.rpmSampleExpiry) := fun _ _ h => nomatch h

theorem openTick : Statement (.openTick) := fun _ _ h => nomatch h

theorem analogScanExpiry (samples : Vector Byte 6) : Statement (.analogScanExpiry samples) := fun _ _ h => nomatch h

theorem switchScanExpiry (lines : BitVec 16) : Statement (.switchScanExpiry lines) := fun _ _ h => nomatch h

theorem readInputs (p : Port) (page : Byte) : Statement (.readInputs p page) := by
  intro _ q h; cases h; exact ⟨.readInputs page, rfl⟩

theorem gaugeStepExpiry : Statement (.gaugeStepExpiry) := fun _ _ h => nomatch h

theorem manualSilenceRelease : Statement (.manualSilenceRelease) := fun _ _ h => nomatch h

theorem pwmFrameStart : Statement (.pwmFrameStart) := fun _ _ h => nomatch h

theorem gaugeSet (p : Port) (gauge : Byte) (angle : BitVec 16) : Statement (.gaugeSet p gauge angle) := by
  intro _ q h; cases h; exact ⟨.gaugeSet gauge angle, rfl⟩

theorem gaugeRelease (p : Port) (gauge : Byte) : Statement (.gaugeRelease p gauge) := by
  intro _ q h; cases h; exact ⟨.gaugeRelease gauge, rfl⟩

theorem readGauges (p : Port) (page : Byte) : Statement (.readGauges p page) := by
  intro _ q h; cases h; exact ⟨.readGauges page, rfl⟩

theorem flasherPhaseChange : Statement (.flasherPhaseChange) := fun _ _ h => nomatch h

theorem bulbCheckEnd : Statement (.bulbCheckEnd) := fun _ _ h => nomatch h

theorem lampTestEnd (lamp : Fin 8) : Statement (.lampTestEnd lamp) := fun _ _ h => nomatch h

theorem foldExpiry : Statement (.foldExpiry) := fun _ _ h => nomatch h

theorem fold : Statement (.fold) := fun _ _ h => nomatch h

theorem modelExpiry : Statement (.modelExpiry) := fun _ _ h => nomatch h

theorem transferHoldEnd : Statement (.transferHoldEnd) := fun _ _ h => nomatch h

theorem readFold (p : Port) (page : Byte) : Statement (.readFold p page) := by
  intro _ q h; cases h; exact ⟨.readFold page, rfl⟩

theorem writeSettingKrKf (p : Port) (c : CalConstant) (value : BitVec 16) : Statement (.writeSettingKrKf p c value) := by
  intro _ q h; cases h; exact ⟨.writeKrKf c value, rfl⟩

theorem readRecord (p : Port) (record page : Byte) : Statement (.readRecord p record page) := by
  intro _ q h; cases h; exact ⟨.readRecord record page, rfl⟩

theorem clearRecord (p : Port) (record : Byte) : Statement (.clearRecord p record) := by
  intro _ q h; cases h; exact ⟨.clearRecord record, rfl⟩

theorem charterOpen (p : Port) : Statement (.charterOpen p) := by
  intro _ q h; cases h; exact ⟨.charterOpen, rfl⟩

theorem charterClose (p : Port) : Statement (.charterClose p) := by
  intro _ q h; cases h; exact ⟨.charterClose, rfl⟩

theorem charterAck (p : Port) : Statement (.charterAck p) := by
  intro _ q h; cases h; exact ⟨.charterAck, rfl⟩

theorem charterRelease (p : Port) : Statement (.charterRelease p) := by
  intro _ q h; cases h; exact ⟨.charterRelease, rfl⟩

theorem odoPreset (p : Port) (value : BitVec 24) : Statement (.odoPreset p value) := by
  intro _ q h; cases h; exact ⟨.odoPreset value, rfl⟩

theorem recordMarkApply : Statement (.recordMarkApply) := fun _ _ h => nomatch h

theorem slotWriteComplete : Statement (.slotWriteComplete) := fun _ _ h => nomatch h

theorem readDerived (p : Port) (record : Byte) : Statement (.readDerived p record) := by
  intro _ q h; cases h; exact ⟨.readDerived record, rfl⟩

theorem readLive (p : Port) : Statement (.readLive p) := by
  intro _ q h; cases h; exact ⟨.readLive, rfl⟩

theorem setUnits (p : Port) (choice : Byte) : Statement (.setUnits p choice) := by
  intro _ q h; cases h; exact ⟨.setUnits choice, rfl⟩

theorem warningExpiry : Statement (.warningExpiry) := fun _ _ h => nomatch h

theorem readWarnings (p : Port) (start : Byte) : Statement (.readWarnings p start) := by
  intro _ q h; cases h; exact ⟨.readWarnings start, rfl⟩

theorem ackWarning (p : Port) (id : Byte) : Statement (.ackWarning p id) := by
  intro _ q h; cases h; exact ⟨.ackWarning id, rfl⟩

theorem rearCall (p : Port) : Statement (.rearCall p) := by
  intro _ q h; cases h; exact ⟨.rearCall, rfl⟩

theorem setOverspeed (p : Port) (limit : BitVec 16) : Statement (.setOverspeed p limit) := by
  intro _ q h; cases h; exact ⟨.setOverspeed limit, rfl⟩

theorem warningTest (p : Port) (id : Byte) : Statement (.warningTest p id) := by
  intro _ q h; cases h; exact ⟨.warningTest id, rfl⟩

theorem noteBoundary (sp : Speaker) : Statement (.noteBoundary sp) := fun _ _ h => nomatch h

theorem repeatTimerExpiry (w : Fin 24) (sp : Speaker) : Statement (.repeatTimerExpiry w sp) := fun _ _ h => nomatch h

theorem playChime (p : Port) (pattern speakers cls : Byte) : Statement (.playChime p pattern speakers cls) := by
  intro _ q h; cases h; exact ⟨.playChime pattern speakers cls, rfl⟩

theorem cancelChimes (p : Port) : Statement (.cancelChimes p) := by
  intro _ q h; cases h; exact ⟨.cancelChimes, rfl⟩

theorem rearQuiet (p : Port) (arg : Byte) : Statement (.rearQuiet p arg) := by
  intro _ q h; cases h; exact ⟨.rearQuiet arg, rfl⟩

theorem readChimes (p : Port) (page : Byte) : Statement (.readChimes p page) := by
  intro _ q h; cases h; exact ⟨.readChimes page, rfl⟩

theorem readService (p : Port) (item page : Byte) : Statement (.readService p item page) := by
  intro _ q h; cases h; exact ⟨.readService item page, rfl⟩

theorem resetService (p : Port) (item : Byte) : Statement (.resetService p item) := by
  intro _ q h; cases h; exact ⟨.resetService item, rfl⟩

theorem writeServiceItem (p : Port) (item : Byte) (d : ItemArgs) : Statement (.writeServiceItem p item d) := by
  intro _ q h; cases h; exact ⟨.writeServiceItem item d, rfl⟩

theorem secondEnd : Statement (.secondEnd) := fun _ _ h => nomatch h

theorem setClock (p : Port) (seconds : BitVec 32) : Statement (.setClock p seconds) := by
  intro _ q h; cases h; exact ⟨.setClock seconds, rfl⟩

theorem trimClock (p : Port) (seconds : BitVec 8) : Statement (.trimClock p seconds) := by
  intro _ q h; cases h; exact ⟨.trimClock seconds, rfl⟩

theorem readClock (p : Port) : Statement (.readClock p) := by
  intro _ q h; cases h; exact ⟨.readClock, rfl⟩

theorem setAlarm (p : Port) (seconds : BitVec 32) : Statement (.setAlarm p seconds) := by
  intro _ q h; cases h; exact ⟨.setAlarm seconds, rfl⟩

theorem clearAlarm (p : Port) : Statement (.clearAlarm p) := by
  intro _ q h; cases h; exact ⟨.clearAlarm, rfl⟩

theorem subMissing : Statement (.subMissing) := fun _ _ h => nomatch h

theorem subBack : Statement (.subBack) := fun _ _ h => nomatch h

theorem calibrationExpiry : Statement (.calibrationExpiry) := fun _ _ h => nomatch h

theorem calibrationComplete (count : Nat) : Statement (.calibrationComplete count) := fun _ _ h => nomatch h

theorem mainClockFaultStart : Statement (.mainClockFaultStart) := fun _ _ h => nomatch h

theorem mainClockFaultEnd : Statement (.mainClockFaultEnd) := fun _ _ h => nomatch h

theorem parkDelayExpiry : Statement (.parkDelayExpiry) := fun _ _ h => nomatch h

theorem awakeLimitExpiry : Statement (.awakeLimitExpiry) := fun _ _ h => nomatch h

theorem parkedEntry (raw : BitVec 16) : Statement (.parkedEntry raw) := fun _ _ h => nomatch h

theorem keepAwake (p : Port) (seconds : BitVec 16) : Statement (.keepAwake p seconds) := by
  intro _ q h; cases h; exact ⟨.keepAwake seconds, rfl⟩

theorem wakeSourceFires (src : WakeSource) : Statement (.wakeSourceFires src) := fun _ _ h => nomatch h

theorem wakeSequence (i : StartInputs) : Statement (.wakeSequence i) := fun _ _ h => nomatch h

theorem readWakeCauses (p : Port) : Statement (.readWakeCauses p) := by
  intro _ q h; cases h; exact ⟨.readWakeCauses, rfl⟩

theorem linkSelect (l : Link) : Statement (.linkSelect l) := fun _ _ h => nomatch h

theorem linkTransactionEnd (l : Link) (incoming : List Byte) : Statement (.linkTransactionEnd l incoming) := fun _ _ h => nomatch h

theorem silenceTimerExpiry (l : Link) : Statement (.silenceTimerExpiry l) := fun _ _ h => nomatch h

theorem serviceStartBit : Statement (.serviceStartBit) := fun _ _ h => nomatch h

theorem serviceFrameEnd : Statement (.serviceFrameEnd) := fun _ _ h => nomatch h

theorem serviceQuietExpiry : Statement (.serviceQuietExpiry) := fun _ _ h => nomatch h

theorem serviceTransmitStart : Statement (.serviceTransmitStart) := fun _ _ h => nomatch h

theorem serviceFrameSent : Statement (.serviceFrameSent) := fun _ _ h => nomatch h

theorem readNotices (p : Port) : Statement (.readNotices p) := by
  intro _ q h; cases h; exact ⟨.readNotices, rfl⟩

theorem readStatus (p : Port) : Statement (.readStatus p) := by
  intro _ q h; cases h; exact ⟨.readStatus, rfl⟩

theorem readSetting (p : Port) (item page : Byte) : Statement (.readSetting p item page) := by
  intro _ q h; cases h; exact ⟨.readSetting item page, rfl⟩

theorem writeSetting (p : Port) (item part : Byte) (value : List Byte) : Statement (.writeSetting p item part value) := by
  intro _ q h; cases h; exact ⟨.writeSetting item part value, rfl⟩

theorem commitSettings (p : Port) : Statement (.commitSettings p) := by
  intro _ q h; cases h; exact ⟨.commitSettings, rfl⟩

theorem commitComplete (agrees : Bool) : Statement (.commitComplete agrees) := fun _ _ h => nomatch h

theorem wakeLineEdge (line : Fin 16) : Statement (.wakeLineEdge line) := fun _ _ h => nomatch h

theorem serviceByteReceived (b : Byte) (good : Bool) : Statement (.serviceByteReceived b good) := fun _ _ h => nomatch h

theorem supplyLoss : Statement (.supplyLoss) := fun _ _ h => nomatch h

end Sys2Proof.Laws.Requests
end

