-- ==== Sys2Proof/Laws/Ports.lean ====
section
/-! SUPPORT. What answering a command does: delivery of a reply, a command answered at once, and a command under the grant
of the record store. -/

namespace Sys2Proof.Machine

/-! ### Delivery (R172) -/

/-- A delivered reply stands in the link's slot. -/
theorem deliver_link (l : Link) (r : Reply) (s : State) :
    deliver l.port r s = s.setLink l { s.link l with slot := .done r } := by cases l <;> rfl

/-- A delivery answers the port. -/
theorem answered_deliver (p : Port) (r : Reply) (s t : State) (h : t.port.service.output = s.port.service.output) :
    Answered p r s (deliver p r t) := by
  cases p
  · rfl
  · rfl
  · simp only [Answered, deliver, serviceReply, h]
    split_ifs <;> simp_all

/-- A delivery leaves its port with no request awaiting execution, and the other ports as they were. -/
theorem waitingRequest_deliver (p q : Port) (r : Reply) (s : State) :
    waitingRequest (deliver p r s) q = if q = p then none else waitingRequest s q := by
  cases p <;> cases q <;> simp [deliver, waitingRequest, serviceReply] <;> split_ifs <;> rfl

theorem waitingRequest_hold (p q : Port) (r : Request) (s : State) :
    waitingRequest (holdRequest p r s) q = if q = p then some r else waitingRequest s q := by
  cases p <;> cases q <;> simp [holdRequest, waitingRequest]

@[simp] theorem deliver_output (p : Port) (r : Reply) (s : State) :
    (deliver p r s).port.service.output =
      if p = .service ∧ s.port.service.output.length < 4 then s.port.service.output ++ [r] else s.port.service.output := by
  cases p <;> simp [deliver, serviceReply]
  split_ifs <;> rfl

@[simp] theorem hold_output (p : Port) (r : Request) (s : State) :
    (holdRequest p r s).port.service.output = s.port.service.output := by cases p <;> rfl

/-! ### Commands answered at once (R172) -/

/-- A command whose port is free is answered by its owner. -/
theorem answerAtOnce_free (p : Port) (f : State → Answer) (s : State) (h : PortFree p s) :
    answerAtOnce p f s = deliver p (f s).2 (f s).1 := by
  unfold answerAtOnce
  simp [h.1, h.2]

/-- In PARKED, or without supply, nothing is answered. -/
theorem answerAtOnce_dead (p : Port) (f : State → Answer) (s : State) (h : alive s = false) : answerAtOnce p f s = s := by
  simp [answerAtOnce, h]

/-! ### Commands under the grant (R62, R63) -/

/-- The state in which a port that was the only one to wait does its work. -/
def granted (p : Port) (r : Request) (s : State) : State :=
  let t := holdRequest p r s
  { t with store := { t.store with
      grant := some (newGrant p s), order := t.store.order.filter (· != p) ++ [p] } }

@[simp] theorem alive_hold (p : Port) (r : Request) (s : State) : alive (holdRequest p r s) = alive s := by simp [alive]

theorem find_waiting (p : Port) (r : Request) (s : State) (h : ∀ q, waitingRequest s q = none) (order : List Port)
    (hp : p ∈ order) : order.find? (portWaits (holdRequest p r s)) = some p := by
  induction order with
  | nil => cases hp
  | cons q qs ih =>
    by_cases hq : q = p
    · subst hq
      simp [portWaits, waitingRequest_hold]
    · have hne : portWaits (holdRequest p r s) q = false := by simp [portWaits, waitingRequest_hold, hq, h]
      rw [List.find?_cons_of_neg (by simp [hne])]
      exact ih (by simpa [Ne.symm hq] using hp)

/-- R62: a request that comes while the store is free and nothing waits is granted at once. -/
theorem arbitrate_hold (p : Port) (r : Request) (s : State) (h : StoreFree p s) :
    arbitrate (holdRequest p r s) = granted p r s := by
  obtain ⟨ha, hw, hg, hf, hm, ho⟩ := h
  have hm' : marksHeld (holdRequest p r s) = false := by simpa [marksHeld] using hm
  unfold arbitrate
  simp only [alive_hold, ha, holdRequest_store, hg, holdRequest_fold, hf, hm', find_waiting p r s hw _ ho]
  simp [granted, newGrant, rearSilentStands]

/-- A command under the grant whose port is free for it, and which its arrival checks let by, does its work at once. -/
theorem underGrant_free (p : Port) (r : Request) (early : State → Option Status) (work : Bool → State → Answer) (s : State)
    (h : StoreFree p s) (he : early s = none) :
    underGrant p r early work s = runGranted p s.clock.mainFault work (granted p r s) := by
  unfold underGrant
  simp only [h.1, if_true, h.2.1 p, he, arbitrate_hold p r s h]
  simp [granted, newGrant, rearSilentStands]

/-- A command under the grant that its arrival checks refuse is answered with no record. -/
theorem underGrant_refused (p : Port) (r : Request) (early : State → Option Status) (work : Bool → State → Answer)
    (s : State) (h : PortFree p s) (st : Status) (he : early s = some st) :
    underGrant p r early work s = deliver p (.bare st) s := by
  unfold underGrant
  simp [h.1, h.2, he]

/-- The grant found the counts as they stand, and no fold expiry has come since. -/
theorem granted_grant (p : Port) (r : Request) (s : State) : (granted p r s).store.grant = some (newGrant p s) := rfl

@[simp] theorem granted_fold (p : Port) (r : Request) (s : State) : (granted p r s).fold = s.fold := by simp [granted]
@[simp] theorem granted_clock (p : Port) (r : Request) (s : State) : (granted p r s).clock = s.clock := by simp [granted]
@[simp] theorem granted_settings (p : Port) (r : Request) (s : State) : (granted p r s).settings = s.settings := by
  simp [granted]
@[simp] theorem granted_meas (p : Port) (r : Request) (s : State) : (granted p r s).meas = s.meas := by simp [granted]
@[simp] theorem granted_gauge (p : Port) (r : Request) (s : State) : (granted p r s).gauge = s.gauge := by simp [granted]
@[simp] theorem granted_nv (p : Port) (r : Request) (s : State) : (granted p r s).nv = s.nv := by simp [granted]
@[simp] theorem granted_units (p : Port) (r : Request) (s : State) : (granted p r s).units = s.units := by simp [granted]
@[simp] theorem granted_warn (p : Port) (r : Request) (s : State) : (granted p r s).warn = s.warn := by simp [granted]
@[simp] theorem granted_chime (p : Port) (r : Request) (s : State) : (granted p r s).chime = s.chime := by simp [granted]
@[simp] theorem granted_service (p : Port) (r : Request) (s : State) : (granted p r s).service = s.service := by
  simp [granted]
@[simp] theorem granted_power (p : Port) (r : Request) (s : State) : (granted p r s).power = s.power := by simp [granted]
@[simp] theorem granted_output (p : Port) (r : Request) (s : State) :
    (granted p r s).port.service.output = s.port.service.output := by simp [granted]
@[simp] theorem granted_odo (p : Port) (r : Request) (s : State) : (granted p r s).store.odo = s.store.odo := by
  simp [granted]
@[simp] theorem granted_a (p : Port) (r : Request) (s : State) : (granted p r s).store.a = s.store.a := by simp [granted]
@[simp] theorem granted_b (p : Port) (r : Request) (s : State) : (granted p r s).store.b = s.store.b := by simp [granted]
@[simp] theorem granted_p (p : Port) (r : Request) (s : State) : (granted p r s).store.p = s.store.p := by simp [granted]
@[simp] theorem granted_charter (p : Port) (r : Request) (s : State) : (granted p r s).store.charter = s.store.charter := by
  simp [granted]
@[simp] theorem granted_held (p : Port) (r : Request) (s : State) : (granted p r s).store.held = s.store.held := by
  simp [granted]
@[simp] theorem granted_logPos (p : Port) (r : Request) (s : State) : (granted p r s).store.logPos = s.store.logPos := by
  simp [granted]

end Sys2Proof.Machine
end

