-- ==== Sys2Proof/Laws/Records.lean ====
section
/-! SUPPORT. What a fold and a verification do when the records carry the check words of what they hold, and what a record
command then leaves. -/

namespace Sys2Proof.Machine

/-! ### Verification (R61) -/

theorem verifyTrip_sealed (k : TripNo) (s : State)
    (h : (s.store.trip k).check = tripCheck k.toNat (s.store.trip k).body) : verifyTrip k s = s := by
  unfold verifyTrip
  simp [h]

theorem verifyCharter_sealed (s : State) (h : s.store.charter.check = charterCheck s.store.charter) :
    verifyCharter s = s := by
  unfold verifyCharter
  simp [h]

theorem verifyOdo_sealed (s : State) (h : s.store.odo.check = odoCheck s.store.odo) : verifyOdo s = s := by
  unfold verifyOdo
  simp [h]

theorem trip_sealed (r : RecordStore) (h : RecordsSealed r) (k : TripNo) :
    (r.trip k).check = tripCheck k.toNat (r.trip k).body := by
  cases k
  · exact h.2.1
  · exact h.2.2.1
  · exact h.2.2.2.1

/-- R61: over sealed records a verification changes nothing. -/
theorem verifyRecord_sealed (r : RecordNo) (s : State) (h : RecordsSealed s.store) : verifyRecord r s = s := by
  cases r
  · exact verifyOdo_sealed s h.1
  · exact verifyTrip_sealed .a s (trip_sealed _ h .a)
  · exact verifyTrip_sealed .b s (trip_sealed _ h .b)
  · exact verifyTrip_sealed .p s (trip_sealed _ h .p)
  · exact verifyCharter_sealed s h.2.2.2.2

/-! ### The store -/

@[simp] theorem trip_setTrip_same (r : RecordStore) (k : TripNo) (x : Trip) : (r.setTrip k x).trip k = x := by
  cases k <;> rfl

theorem trip_setTrip_other (r : RecordStore) (k o : TripNo) (x : Trip) (h : o ≠ k) : (r.setTrip k x).trip o = r.trip o := by
  cases k <;> cases o <;> first | rfl | exact absurd rfl h

@[simp] theorem setTrip_odo (r : RecordStore) (k : TripNo) (x : Trip) : (r.setTrip k x).odo = r.odo := by cases k <;> rfl
@[simp] theorem setTrip_charter (r : RecordStore) (k : TripNo) (x : Trip) : (r.setTrip k x).charter = r.charter := by
  cases k <;> rfl
@[simp] theorem setTrip_grant (r : RecordStore) (k : TripNo) (x : Trip) : (r.setTrip k x).grant = r.grant := by
  cases k <;> rfl
@[simp] theorem setTrip_order (r : RecordStore) (k : TripNo) (x : Trip) : (r.setTrip k x).order = r.order := by
  cases k <;> rfl
@[simp] theorem setTrip_held (r : RecordStore) (k : TripNo) (x : Trip) : (r.setTrip k x).held = r.held := by cases k <;> rfl
@[simp] theorem setTrip_logPos (r : RecordStore) (k : TripNo) (x : Trip) : (r.setTrip k x).logPos = r.logPos := by
  cases k <;> rfl

/-- A trip with a fold taken: a DAMAGED one is left. -/
def takeTrip (no metres ml run mov : Nat) (x : Trip) : Trip :=
  if x.body.damaged then x else TripBody.seal no (x.body.take metres ml run mov)

/-- ODO with a fold's metres taken. -/
def takeOdo (metres : Nat) (o : Odo) : Odo :=
  let new := (o.distance + metres) % odoModulus
  Odo.seal { o with distance := new, allowanceOpen := o.allowanceOpen && decide (new < 100000) }

/-- The charter with a fold taken: one that is not RUNNING, or DAMAGED, is left. -/
def takeCharter (metres ml run mov : Nat) (c : Charter) : Charter :=
  if c.phase = .running ∧ c.body.damaged = false then Charter.seal { c with body := c.body.take metres ml run mov } else c

/-- R65: a fold's addition to one trip. -/
theorem foldTrip_sealed (metres ml run mov : Nat) (k : TripNo) (s : State)
    (h : (s.store.trip k).check = tripCheck k.toNat (s.store.trip k).body) :
    (foldTrip metres ml run mov k s).store = s.store.setTrip k (takeTrip k.toNat metres ml run mov (s.store.trip k)) := by
  unfold foldTrip
  simp only [verifyTrip_sealed k s h, takeTrip]
  split_ifs
  · cases k <;> rfl
  · rfl

/-- R65: a fold's addition to the charter. -/
theorem foldCharter_sealed (metres ml run mov : Nat) (s : State) (h : s.store.charter.check = charterCheck s.store.charter) :
    (foldCharter metres ml run mov s).store =
      { s.store with charter := takeCharter metres ml run mov s.store.charter } := by
  unfold foldCharter
  simp only [verifyCharter_sealed s h, takeCharter]
  split_ifs <;> simp_all [State.withStore]

/-- R65, R66: a fold's metres in ODO. -/
theorem foldOdo_sealed (metres : Nat) (s : State) (h : s.store.odo.check = odoCheck s.store.odo) :
    (foldOdo metres s).store = { s.store with odo := takeOdo metres s.store.odo } := by
  unfold foldOdo
  simp only [verifyOdo_sealed s h, takeOdo]
  split_ifs <;> simp [State.withStore]

/-- R65: a fold's result in sealed records. -/
theorem foldRecords_sealed (metres ml run mov : Nat) (s : State) (h : RecordsSealed s.store) :
    (foldRecords metres ml run mov s).store = { s.store with
      odo := takeOdo metres s.store.odo
      a := takeTrip 1 metres ml run mov s.store.a
      b := takeTrip 2 metres ml run mov s.store.b
      p := takeTrip 3 metres ml run mov s.store.p
      charter := takeCharter metres ml run mov s.store.charter } := by
  unfold foldRecords
  have ho := foldOdo_sealed metres s h.1
  have ha := foldTrip_sealed metres ml run mov .a (foldOdo metres s) (by rw [ho]; exact h.2.1)
  rw [ho] at ha
  have hb := foldTrip_sealed metres ml run mov .b (foldTrip metres ml run mov .a (foldOdo metres s))
    (by rw [ha]; exact h.2.2.1)
  rw [ha] at hb
  have hp := foldTrip_sealed metres ml run mov .p
    (foldTrip metres ml run mov .b (foldTrip metres ml run mov .a (foldOdo metres s))) (by rw [hb]; exact h.2.2.2.1)
  rw [hb] at hp
  rw [foldCharter_sealed _ _ _ _ _ (by rw [hp]; exact h.2.2.2.2), hp]
  rfl

/-- R46: a fold over sealed records: the record store. -/
theorem performFold_store (s : State) (h : RecordsSealed s.store) :
    (performFold s).store = { s.store with
      odo := takeOdo (trialMetres s) s.store.odo
      a := takeTrip 1 (trialMetres s) (trialMl s) s.fold.buf.run s.fold.buf.moving s.store.a
      b := takeTrip 2 (trialMetres s) (trialMl s) s.fold.buf.run s.fold.buf.moving s.store.b
      p := takeTrip 3 (trialMetres s) (trialMl s) s.fold.buf.run s.fold.buf.moving s.store.p
      charter := takeCharter (trialMetres s) (trialMl s) s.fold.buf.run s.fold.buf.moving s.store.charter } := by
  simp only [performFold, withFold_store, deliverItems_store, foldRecords_sealed _ _ _ _ _ h]

/-- R46: a fold: the fold engine itself. -/
theorem performFold_fold (s : State) :
    (performFold s).fold =
      (FoldEngine.finish s.settings.work.kr s.settings.work.kf (trialMetres s) (trialMl s) s.fold).seal := by
  simp [performFold]

/-- R140, R141: a fold: the service table. -/
theorem performFold_service (s : State) :
    (performFold s).service = sealItems (evalItems s.settings.work (today s) (Vector.ofFn fun k =>
      (s.service.items[k]).take s.settings.work.items[k] (trialMetres s) s.fold.buf.idle s.fold.buf.engine s.fold.buf.cold)) := by
  simp [performFold, deliverItems, evaluateFrom, storeItems, today]

/-- R41: under a grant that no fold expiry followed, a command fold is a whole fold. -/
theorem commandFold_fresh (g : Grant) (s : State) (hg : s.store.grant = some g) (hq : g.found = s.fold.buf)
    (hz : g.since = .zero) : commandFold s = performFold s := by
  have same : (s.withFoldBare fun f => { f with buf := s.fold.buf }) = s := rfl
  have sealed (f : FoldEngine) (h : f.buf = .empty) : FoldEngine.seal { f.seal with buf := .empty } = f.seal := by
    obtain ⟨b, rd, rf, window, seg, closed, tank, check, waiting, merges, lost, hold⟩ := f
    subst h
    rfl
  have none : s.fold.buf.sinceGrant g = .empty := by
    simp [FoldBuffer.sinceGrant, hq, hz, QsCounts.zero, FoldBuffer.empty]
  simp only [commandFold, hg, none, hq, same]
  have fixed : FoldEngine.seal { (performFold s).fold with buf := .empty } = (performFold s).fold := by
    rw [performFold_fold]
    exact sealed _ rfl
  unfold State.withFold
  rw [fixed]

@[simp] theorem takeTrip_body (s : State) (no : Nat) (x : Trip) :
    (takeTrip no (trialMetres s) (trialMl s) s.fold.buf.run s.fold.buf.moving x).body = foldedBody s x.body := by
  unfold takeTrip foldedBody
  split_ifs <;> rfl

@[simp] theorem takeCharter_body (s : State) :
    (takeCharter (trialMetres s) (trialMl s) s.fold.buf.run s.fold.buf.moving s.store.charter).body = foldedCharter s := by
  unfold takeCharter foldedCharter foldedBody
  split_ifs <;> simp_all [Charter.seal]

@[simp] theorem takeCharter_phase (m l r v : Nat) (c : Charter) : (takeCharter m l r v c).phase = c.phase := by
  unfold takeCharter
  split_ifs <;> rfl
@[simp] theorem takeCharter_endStamp (m l r v : Nat) (c : Charter) : (takeCharter m l r v c).endStamp = c.endStamp := by
  unfold takeCharter
  split_ifs <;> rfl
@[simp] theorem takeCharter_ackFront (m l r v : Nat) (c : Charter) : (takeCharter m l r v c).ackFront = c.ackFront := by
  unfold takeCharter
  split_ifs <;> rfl
@[simp] theorem takeCharter_ackRear (m l r v : Nat) (c : Charter) : (takeCharter m l r v c).ackRear = c.ackRear := by
  unfold takeCharter
  split_ifs <;> rfl

@[simp] theorem takeOdo_distance (s : State) :
    (takeOdo (trialMetres s) s.store.odo).distance = foldedOdo s := rfl
@[simp] theorem takeOdo_reloaded (m : Nat) (o : Odo) : (takeOdo m o).reloaded = o.reloaded := rfl
@[simp] theorem takeOdo_preset (m : Nat) (o : Odo) : (takeOdo m o).preset = o.preset := rfl

end Sys2Proof.Machine
end

