-- ==== Sys2Proof/Tests/Slice0.lean ====
section
/-! SUPPORT. The tests of the model: ill-formed commands, single steps on small states, and for every obligation with
hypotheses a state and operands that meet them, at the boundary values of its clauses. -/

namespace Sys2Proof.Tests

open Sys2Proof Sys2Proof.Machine

/-- The state after a step. -/
def after (o : Outcome) : State :=
  match o with
  | .next t => t
  | .fault _ => State.reset
  | .refused _ => State.reset

/-- The reset state with the ignition on. -/
def running : State := { State.reset with power := { State.reset.power with state := .run, delay := none, limit := none } }

/-- The reset state in PARKED. -/
def parked : State := { State.reset with power := { State.reset.power with state := .parked, delay := none, limit := none } }

/-- The reset state with a main-clock fault standing. -/
def faulted : State := { State.reset with clock := { State.reset.clock with mainFault := true } }

/-- The reset state with a fold waiting, of counts that a fold converts. -/
def folding (pulses elapsed : Nat) : State :=
  { State.reset with fold := { State.reset.fold with
      waiting := true, buf := { State.reset.fold.buf with pulses := pulses, elapsed := elapsed } } }

/-- The reset state with an active list. -/
def listing (l : List Entry) : State := { State.reset with warn := { State.reset.warn with list := l } }

/-- The reset state with its first channel changed. -/
def withChannel (st : ChannelState) (outCount inCount : Nat) : State :=
  { State.reset with meas := { State.reset.meas with
      channels := State.reset.meas.channels.set 0
        { State.reset.meas.channels[0] with state := st, outCount := outCount, inCount := inCount } } }

/-- The reset state with a nonvolatile write in flight. -/
def writing (w : Flight) : State := { State.reset with nv := { State.reset.nv with flight := some w } }

/-- The reset state with a service receiver. -/
def receiving (rx : Receiver) : State :=
  { State.reset with port := { State.reset.port with service := { State.reset.port.service with rx := rx } } }

/-! ### Well-formed commands -/

theorem test_writeSetting_empty_value_refused : (Instr.writeSetting .service 2 0 []).wellFormed = false := by decide
theorem test_writeSetting_long_value_refused :
    (Instr.writeSetting .service 14 0 (List.replicate 24 0)).wellFormed = false := by decide
theorem test_repeatTimer_of_no_repeat_refused : (Instr.repeatTimerExpiry 3 .front).wellFormed = false := by decide
theorem test_repeatTimer_of_unnamed_speaker_refused : (Instr.repeatTimerExpiry 0 .rear).wellFormed = false := by decide
theorem test_wakeLineEdge_of_unwatched_line_refused :
    (Instr.wakeLineEdge 7).wellFormed = false ∧ (Instr.wakeLineEdge 1).wellFormed = false := by decide
theorem test_wellFormed_accepts :
    (Instr.writeSetting .service 2 0 [4]).wellFormed = true ∧ (Instr.repeatTimerExpiry 6 .rear).wellFormed = true
    ∧ (Instr.wakeLineEdge 15).wellFormed = true ∧ (Instr.readStatus .front).wellFormed = true := by decide
theorem test_repeats_is_the_definitions :
    ∀ w : Fin 24, ∀ sp : Speaker, repeats w sp = ((warnDef w).again.isSome && (warnDef w).names sp) := by
  intro w sp; cases sp <;> revert w <;> decide

/-! ### Single steps -/

theorem test_road_edge : (after (exec .roadPulseEdge State.reset)).fold.buf.pulses = 1 := by decide
theorem test_road_first_edge_no_period : (after (exec .roadPulseEdge State.reset)).meas.road = ⟨none, 0, false⟩ := by decide
theorem test_fold_converts_a_kilometre : (after (exec .fold (folding 4971 1))).store.odo.distance = 1000 := by decide
theorem test_fold_expiry_waits : (after (exec .foldExpiry State.reset)).fold.waiting = true := by decide
theorem test_second_end_counts : (after (exec .secondEnd State.reset)).clock.seconds = 1 := by decide
theorem test_setUnits_rear_us : (after (exec (.setUnits .rear 1) State.reset)).units = ⟨0, 1, 6⟩ := by decide
theorem test_setUnits_service_denied :
    (after (exec (.setUnits .service 1) State.reset)).port.service.output = [⟨.denied, []⟩] := by decide
theorem test_readClock_front :
    (after (exec (.readClock .front) State.reset)).port.front.slot = .done ⟨.ok, clockContent State.reset⟩ := by decide
theorem test_setOverspeed_clamped :
    (after (exec (.setOverspeed .front 3000) State.reset)).warn.limit = 2550 := by decide
theorem test_rearCall_raises_w19 : (after (exec (.rearCall .rear) State.reset)).warn.list.map Entry.w = [19, 13] := by decide
theorem test_linkSelect_idle :
    (after (exec (.linkSelect .front) State.reset)).port.front.select = some .idle := by decide
theorem test_frame_is_read_status : judgeFrame [3, 1, 0xFC] = .request 1 [] ∧ requestOf 1 [] = some .readStatus := by decide
theorem test_frame_wrong_sum : judgeFrame [3, 1, 0xFD] = .bad := by decide
theorem test_frame_of_gauge_set : requestOf 0x0A [5, 4, 0x37] = some (.gaugeSet 5 0x0437) := by decide
theorem test_supply_loss : (after (exec .supplyLoss State.reset)).power.supplied = false := by decide
theorem test_front_command_runs :
    step { State.reset with pending := [.engineAgeStale] } = exec .engineAgeStale State.reset := rfl
theorem test_reset_has_no_command : State.reset.pending = [] := rfl

/-- The reset state with the first gauge in MANUAL. -/
def oneManual : State :=
  { State.reset with gauge := { State.reset.gauge with
      gauges := State.reset.gauge.gauges.set 0 { State.reset.gauge.gauges[0] with mode := .manual } } }

/-- R41: a CLEAR RECORD of A that waits under its grant, with a kilometre found, and since then two folds that expired and an
edge. -/
def merged : State :=
  let g : Grant := ⟨.front, false, false, 0, ⟨4971, 0, 3, 0, 0, 0, 0, false⟩, ⟨2, 0, 0, 0, 0, false⟩⟩
  let s := holdRequest .front (.clearRecord 1) (folding 4972 5)
  { s with store := { s.store with grant := some g } }
theorem test_command_fold_leaves_the_later_counts :
    (after (exec (.clearRecord .front 1) merged)).fold.buf = ⟨1, 0, 2, 0, 0, 0, 0, false⟩
    ∧ (after (exec (.clearRecord .front 1) merged)).store.odo.distance = 1000
    ∧ (after (exec (.clearRecord .front 1) merged)).fold.waiting = true := by decide
theorem test_fold_expiry_counts_since_the_grant :
    ((after (exec .foldExpiry merged)).store.grant.map fun g => (g.found.elapsed, g.since.elapsed)) = some (3, 3) := by decide

/-- R21: the sweep setting of a RUN entry is that of the last gauge step. -/
theorem test_gauge_step_takes_the_sweep_setting :
    State.reset.gauge.sweepOn = false
    ∧ (after (exec .gaugeStepExpiry { State.reset with settings := { State.reset.settings with
        work := { State.reset.settings.work with sweep := true } } })).gauge.sweepOn = true := by decide
/-- R29: the gauge step that brings the silence count to 640 releases MANUAL; the one before does not. -/
def holding (n : Nat) : State :=
  { oneManual with gauge := { oneManual.gauge with silence := some n, live := true } }
theorem test_silence_release_in_the_step :
    (after (exec .gaugeStepExpiry (holding 639))).gauge.silence = none
    ∧ (after (exec .gaugeStepExpiry (holding 639))).gauge.gauges[(0 : Fin 6)].mode = .follow
    ∧ (after (exec .gaugeStepExpiry (holding 638))).gauge.silence = some 639
    ∧ (after (exec .gaugeStepExpiry (holding 638))).gauge.gauges[(0 : Fin 6)].mode = .manual := by decide
/-- R24: a frame that starts off the end of the last begins at count 0; one that starts in time keeps its phase. -/
theorem test_frame_starts_at_zero :
    (after (exec .pwmFrameStart { State.reset with timers := { State.reset.timers with frame := 500000 } })).timers.frame = 0
    ∧ (after (exec .pwmFrameStart { State.reset with timers := { State.reset.timers with frame := 999999 } })).timers.frame = 0
    ∧ (after (exec .pwmFrameStart { State.reset with timers := { State.reset.timers with frame := 1000448 } })).timers.frame = 448
    := by decide
/-- R31: the frame that runs at a fault's end is timed from RC to its end. -/
theorem test_frame_at_a_fault_end :
    (after (exec .mainClockFaultEnd faulted)).gauge.frameOnRc = true
    ∧ (after (exec .pwmFrameStart (after (exec .mainClockFaultEnd faulted)))).gauge.frameOnRc = false := by decide
/-- R157: a sub oscillator that is lost starts its 2 s again. -/
theorem test_sub_missing_restarts_the_good_time :
    (after (exec .subMissing { State.reset with clock := { State.reset.clock with subGood := 2000000 } })).clock.subGood = 0 := by
  decide
/-- R113, R176: the removal of W23 is counted before the request of the same transaction. -/
def silentLink : State :=
  let s := listing [{ freshEntry 23 0 1 with cleared := false }]
  s.setLink .front { s.link .front with select := some .idle, silent := true, silence := 2000000, notices := 0 }
theorem test_hand_offs_are_counted_before_the_request :
    (after (exec (.linkTransactionEnd .front [3, 2, 0xFB]) silentLink)).port.front.slot
      = .done ⟨.ok, [Notice.warnings.bit]⟩
    ∧ (after (exec (.linkTransactionEnd .front [3, 2, 0xFB]) silentLink)).warn.seqFront = 2 := by decide
/-- R36: the end of bulb check stands before the switch scan of the same microsecond. -/
theorem test_endings_come_first (e : Elapsed) (s : State) : ∃ rest, dueNow e s = endingsDue e s ++ rest :=
  ⟨_, by simp only [dueNow, List.append_assoc]; rfl⟩

/-! ### Witnesses of the hypotheses -/

theorem test_witness_StepRunsFrontCommand :
    ({ State.reset with pending := [.readStatus .front, .supplyLoss] } : State).pending
      = .readStatus .front :: [.supplyLoss] := rfl

theorem test_witness_EmptyQueuePassesTime :
    State.reset.pending = [] ∧ clocked State.reset = true ∧ State.reset.pins.main = true := by decide

/-- A state one command away from the reset state, with each invariant, that steps on. -/
theorem test_witness_invariants_step :
    ∃ t, step { State.reset with pending := [.engineAgeStale] } = .next t := ⟨_, rfl⟩
theorem test_witness_CountersStayInRange :
    CountersInRange { State.reset with pending := [.engineAgeStale] } := by decide
theorem test_witness_QueuesStayBounded :
    QueuesBounded { State.reset with pending := [.engineAgeStale] }
    ∧ OrderComplete { State.reset with pending := [.engineAgeStale] } := by decide
theorem test_witness_ActiveListStaysOrdered :
    ListOrdered ({ State.reset with pending := [.engineAgeStale] } : State).warn.list
    ∧ DetailsPresent ({ State.reset with pending := [.engineAgeStale] } : State).warn.list := by decide
theorem test_witness_LampsFollowTheList : LampsFollow { State.reset with pending := [.engineAgeStale] } := by decide
set_option maxRecDepth 20000 in
theorem test_witness_RetentionStaysSealed : RetentionSealed { State.reset with pending := [.engineAgeStale] } := by decide

/-- PulsesAreCountedTimedAndSampled, GaugeAndLampEvents, FoldExpiryCounts, TankModelCorrects, SubWatchAndCalibration,
LinkTransactions and OutputPinsFollowTheState. -/
theorem test_witness_clocked_and_not :
    alive State.reset = true ∧ alive parked = false ∧ clocked State.reset = true ∧ clocked faulted = false
    ∧ alive faulted = true := by decide

theorem test_witness_AnalogScanStepsChannels_in_range :
    (4 ≤ (4 : Byte).toNat ∧ (4 : Byte).toNat ≤ 251) ∧ (4 ≤ (251 : Byte).toNat ∧ (251 : Byte).toNat ≤ 251)
    ∧ (withChannel .normal 0 0).meas.channels[(0 : Fin 6)].state ≠ .fault := by decide
theorem test_witness_AnalogScanStepsChannels_counting :
    ¬ (4 ≤ (3 : Byte).toNat ∧ (3 : Byte).toNat ≤ 251) ∧ ¬ (4 ≤ (252 : Byte).toNat ∧ (252 : Byte).toNat ≤ 251)
    ∧ (withChannel .counting 6 0).meas.channels[(0 : Fin 6)].outCount + 1 < 8
    ∧ 8 ≤ (withChannel .counting 7 0).meas.channels[(0 : Fin 6)].outCount + 1 := by decide
theorem test_witness_AnalogScanStepsChannels_fault :
    (withChannel .fault 8 14).meas.channels[(0 : Fin 6)].state = .fault
    ∧ (withChannel .fault 8 14).meas.channels[(0 : Fin 6)].inCount + 1 < 16
    ∧ 16 ≤ (withChannel .fault 8 15).meas.channels[(0 : Fin 6)].inCount + 1
    ∧ clocked (withChannel .fault 8 15) = true := by decide
theorem test_witness_AnalogScanStepsChannels_window :
    running.power.state = .run
    ∧ ({ running with meas := { running.meas with fastWindow := some 7 } } : State).meas.fastWindow = some 7 := by decide

/-- W15 standing for channel 0 alone, and the scans that channel 0 leaves FAULT and enters it with. -/
theorem test_witness_AnalogScanStepsChannels_w15 :
    ListOrdered [freshEntry 15 0 1] ∧ DetailsPresent [freshEntry 15 0 1]
    ∧ (∀ e ∈ [freshEntry 15 0 1], e.w = 15 → e.cleared = false → e.detail = some ((1 : BitVec 8) <<< (0 : Fin 6).val))
    ∧ (after (exec (.analogScanExpiry #v[128, 128, 128, 128, 128, 128]) (withChannel .fault 8 15))).meas.channels[(0 : Fin 6)].state
        = .normal
    ∧ (after (exec (.analogScanExpiry #v[3, 128, 128, 128, 128, 128]) (withChannel .counting 7 0))).meas.channels[(0 : Fin 6)].state
        = .fault := by decide
theorem test_witness_AnalogScanStepsChannels_snap :
    (7 : Nat) + 1 ≥ 8 ∧ running.fold.tank.settled = false ∧ running.meas.channels[0].state ≠ .fault
    ∧ running.meas.channels[1].state ≠ .fault := by decide

/-- The reset state, not parking, with one line about to be accepted. -/
def switching (p : PowerState) (line : Fin 16) : State :=
  { State.reset with
    power := { State.reset.power with state := p, delay := none, limit := none }
    meas := { State.reset.meas with candidates := State.reset.meas.candidates.set line 3 } }
theorem test_witness_SwitchScanDebounces :
    alive (switching .acc 0) = true ∧ ListOrdered (switching .acc 0).warn.list
    ∧ ((switching .acc 0).power.state ≠ .awake → (switching .acc 0).power.park = none)
    ∧ (after (exec (.switchScanExpiry 1) (switching .acc 0))).power.state = .run
    ∧ (after (exec (.switchScanExpiry 0) (switching .run 0))).power.state = .run
    ∧ (after (exec (.switchScanExpiry 0) { switching .run 0 with
        meas := { (switching .run 0).meas with levels := 1 } })).power.state = .awake
    ∧ (after (exec (.switchScanExpiry 2) (switching .awake 1))).power.state = .acc := by decide
theorem test_witness_SwitchScanDebounces_lines :
    ActiveEntry 19 (after (exec (.switchScanExpiry 0x8000) (switching .run 15)))
    ∧ (after (exec (.switchScanExpiry 0x4000) (switching .run 14))).fold.hold = .pumping
    ∧ (after (exec (.switchScanExpiry 4) (switching .awake 2))).power.delay = some 983040 := by decide

/-- The part in park entry, LIVE, with a gauge in RETURN, gauges at rest handed on, and an alarm of 1 s. -/
def parking (c : ParkCause) : State :=
  { State.reset with
    power := { State.reset.power with park := some c, delay := some 0 }
    clock := { State.reset.clock with alarm := some 1 }
    meas := { State.reset.meas with candidates := State.reset.meas.candidates.set 2 3 }
    gauge := { State.reset.gauge with
      live := true, atRest := true
      gauges := State.reset.gauge.gauges.set 0 { State.reset.gauge.gauges[0] with mode := .ret, commanded := 500 } } }
theorem test_witness_park_entry_ends_at_a_switch :
    ParkEntryEnded (parking .delay) (after (exec (.switchScanExpiry 4) (parking .delay)))
    ∧ ¬ ParkEntryEnded (parking .limit) (after (exec (.switchScanExpiry 4) (parking .limit))) := by decide
theorem test_witness_park_entry_ends_at_an_alarm :
    inAwake (parking .limit) = true ∧ (parking .limit).power.armed[9] ≠ 0
    ∧ ParkEntryEnded (parking .delay) (after (exec .secondEnd (parking .delay)))
    ∧ ParkEntryEnded (parking .limit) (after (exec .secondEnd (parking .limit))) := by decide
theorem test_witness_park_entry_ends_at_a_start_bit :
    ParkEntryEnded (parking .delay) (after (exec .serviceStartBit (parking .delay)))
    ∧ ¬ ParkEntryEnded (parking .limit) (after (exec .serviceStartBit (parking .limit))) := by decide
theorem test_witness_park_entry_ends_at_a_transaction :
    let s := (parking .delay).setLink .front { State.reset.port.front with select := some .idle }
    ParkEntryEnded s (closeTransaction .front s) := by decide

/-- A gauge at the end of a sweep phase, with the others out of the sweep. -/
def sweeping (ph : SweepPhase) (angle : Nat) : State :=
  { State.reset with gauge := { State.reset.gauge with
      gauges := State.reset.gauge.gauges.set 0
        { State.reset.gauge.gauges[0] with mode := .sweep, phase := ph, commanded := angle } } }
theorem test_witness_GaugeStepMovesWithinSlew :
    (after (exec .gaugeStepExpiry (sweeping .up 1079))).gauge.gauges[(0 : Fin 6)].phase = .down
    ∧ (after (exec .gaugeStepExpiry (sweeping .down 0))).gauge.gauges[(0 : Fin 6)].mode = .follow
    ∧ (after (exec .gaugeStepExpiry (sweeping .up 1000))).gauge.gauges[(0 : Fin 6)].mode = .sweep := by decide

theorem test_witness_GaugeAndLampEvents :
    ({ State.reset with gauge := { State.reset.gauge with silence := some 640 } } : State).gauge.silence = some 640
    ∧ clocked State.reset = true := by decide

/-- ManualGaugesAreSetAndReleased, and every statement whose hypothesis is a free port. -/
theorem test_witness_PortFree :
    (∀ p ∈ [Port.front, .rear, .service], PortFree p State.reset ∧ PortFree p faulted ∧ PortFree p running)
    ∧ ParkNotDue State.reset := by decide
theorem test_witness_gauge_numbers :
    5 < (6 : Byte).toNat ∧ (5 : Byte).toNat = (5 : Fin 6).val ∧ (6 : Byte).toNat = 6 ∧ 6 < (7 : Byte).toNat := by decide

/-- FoldConverts, FoldDelivers, FoldFillsRings, FoldConsumesServiceItems. -/
theorem test_witness_FoldConverts :
    foldGranted (folding 4971 1) = true ∧ RecordsSealed (folding 4971 1).store
    ∧ (folding 4971 1).fold.buf.pulses = (folding 4971 1).settings.work.kr ∧ (folding 4971 1).fold.rd < 4971 := by decide
theorem test_witness_FoldConverts_limits :
    (folding 65535 1).fold.buf.pulses ≤ 65535 ∧ 1000 ≤ (folding 65535 1).settings.work.kr
    ∧ (folding 65535 1).settings.work.kf ≤ 4000 := by decide

/-- The folding state with a window ring and an open segment. -/
def ringing (elapsed : Nat) (window : List WindowEntry) (metres : Nat) : State :=
  { folding 0 elapsed with fold := { (folding 0 elapsed).fold with window := window, seg := ⟨metres, 0⟩ } }

theorem test_witness_FoldFillsRings_appends :
    foldGranted (ringing 1 (List.replicate 7 ⟨1, 1, 1⟩) 4999) = true
    ∧ (ringing 1 (List.replicate 7 ⟨1, 1, 1⟩) 4999).fold.window.length < 8
    ∧ 8 ≤ (ringing 1 (List.replicate 8 ⟨1, 1, 1⟩) 4999).fold.window.length
    ∧ RecordsSealed (ringing 1 (List.replicate 8 ⟨1, 1, 1⟩) 4999).store := by decide
theorem test_witness_FoldFillsRings_adds :
    (ringing 0 [⟨1, 1, 1⟩, ⟨2, 2, 2⟩] 5000).fold.buf.elapsed = 0
    ∧ (ringing 0 [⟨1, 1, 1⟩, ⟨2, 2, 2⟩] 5000).fold.window = [⟨1, 1, 1⟩] ++ [⟨2, 2, 2⟩]
    ∧ (ringing 0 [] 5000).fold.window = [] := by decide
theorem test_witness_FoldFillsRings_segment :
    (ringing 1 [] 4999).fold.seg.metres + trialMetres (ringing 1 [] 4999) < 5000
    ∧ 5000 ≤ (ringing 1 [] 5000).fold.seg.metres + trialMetres (ringing 1 [] 5000) := by decide

/-- The part in PARKED with a wake sequence under way: FoldFillsRings, AlarmIsSetAndCleared, WakeSourcesAndSequence. -/
def waking : State := { parked with power := { parked.power with waking := some 4000 } }
theorem test_witness_waking :
    parkedState waking = true ∧ waking.power.waking.isSome = true ∧ waking.units.front ≤ 2 ∧ waking.units.rear ≤ 2
    ∧ waking.store.held = ⟨false, false⟩ := by decide
set_option maxRecDepth 20000 in
theorem test_witness_waking_sealed : RetentionSealed waking := by decide

theorem test_witness_FoldConsumesServiceItems :
    ({ folding 4971 1 with service := { State.reset.service with
        items := State.reset.service.items.set 0 ⟨.ok, 100, none, 100, 0, 0, 0⟩ } } : State).service.items[(0 : Fin 8)].state
      = .ok
    ∧ 0 < (folding 4971 1).settings.work.items[(0 : Fin 8)].km
    ∧ 0 < (folding 4971 1).settings.work.items[(0 : Fin 8)].hours
    ∧ (folding 4971 1).settings.work.items[(1 : Fin 8)].hours = 0 := by decide

theorem test_witness_TankModelCorrects :
    ({ State.reset with fold := { State.reset.fold with hold := .ending 1 } } : State).fold.hold = .ending 1
    ∧ State.reset.fold.hold = .off := by decide

/-- CalibrationWriteFoldsFirst and every statement whose hypothesis is a free store. -/
theorem test_witness_StoreFree (p : Port) : StoreFree p State.reset ∧ StoreFree p faulted := by
  cases p <;> exact ⟨⟨rfl, fun q => by cases q <;> rfl, rfl, rfl, rfl, by decide⟩,
    ⟨rfl, fun q => by cases q <;> rfl, rfl, rfl, rfl, by decide⟩⟩
theorem test_witness_RecordsSealed : RecordsSealed State.reset.store ∧ RecordsSealed faulted.store := by decide
theorem test_witness_CalibrationWriteFoldsFirst :
    ¬ (1000 ≤ (999 : BitVec 16).toNat ∧ (999 : BitVec 16).toNat ≤ 25000)
    ∧ (1000 ≤ (1000 : BitVec 16).toNat ∧ (25000 : BitVec 16).toNat ≤ 25000)
    ∧ ¬ (1000 ≤ (25001 : BitVec 16).toNat ∧ (25001 : BitVec 16).toNat ≤ 25000)
    ∧ ¬ (1 ≤ (0 : BitVec 16).toNat) ∧ (4000 : BitVec 16).toNat ≤ 4000 ∧ ¬ ((4001 : BitVec 16).toNat ≤ 4000) := by decide
theorem test_witness_ClearRecordRestartsTheTrip :
    (0 : Byte).toNat = 0 ∧ (1 : Byte).toNat = TripNo.a.toNat ∧ (3 : Byte).toNat = TripNo.p.toNat ∧ 3 < (4 : Byte).toNat := by
  decide
theorem test_witness_CharterAckAndRelease :
    StoreFree .front { State.reset with store := { State.reset.store with
      charter := { State.reset.store.charter with phase := .closed } } } :=
  ⟨rfl, fun q => by cases q <;> rfl, rfl, rfl, rfl, by decide⟩
theorem test_witness_OdoPresetSetsTheOdometer :
    (9999999 : BitVec 24).toNat = 9999999 ∧ 9999999 < (10000000 : BitVec 24).toNat := by decide
theorem test_witness_RecordReadsForward :
    4 < (5 : Byte).toNat ∧ 1 < (2 : Byte).toNat ∧ (4 : Byte).toNat = recordNumber .charter
    ∧ (0 : Byte).toNat = recordNumber .odo ∧ (bodyOf State.reset .charter).isSome = true := by decide

theorem test_witness_MarksApply :
    alive { State.reset with store := { State.reset.store with held := ⟨true, false⟩ } } = true
    ∧ marksHeld { State.reset with store := { State.reset.store with held := ⟨true, false⟩ } } = true
    ∧ State.reset.store.grant = none := by decide
theorem test_witness_SlotWriteCompletes :
    (writing (.slot 0 31 65535 1)).nv.flight = some (.slot 0 31 65535 1) ∧ clocked (writing (.slot 0 31 65535 1)) = true
    ∧ ParkNotDue (writing (.slot 0 31 65535 1)) ∧ (writing (.slot 0 31 65535 1)).nv.pendingSlot = none
    ∧ ({ State.reset.nv with pendingSlot := some 7, pendingCommit := true } : NvArray).pendingSlot = some 7 := by decide

theorem test_witness_changesStore :
    changesStore .front (.clearRecord 1) = true ∧ changesStore .front (.clearRecord 3) = true
    ∧ changesStore .front (.clearRecord 0) = false ∧ changesStore .front (.clearRecord 4) = false
    ∧ changesStore .service (.odoPreset 9999999) = true ∧ changesStore .service (.odoPreset 10000000) = false
    ∧ changesStore .service (.writeKrKf .kr 1000) = true ∧ changesStore .service (.writeKrKf .kr 25001) = false
    ∧ changesStore .front (.trimClock 0) = false ∧ readsStore (.readRecord 4 1) = true ∧ readsStore (.readDerived 5) = false := by
  decide
/-- R74: a CHARTER RELEASE of the front that waits under a grant with what it found; the part's own time and list are others. -/
def releasing (silent : Bool) (at' now : Nat) : State :=
  let s := holdRequest .front .charterRelease State.reset
  let c : Charter := Charter.seal { s.store.charter with phase := .closed, endStamp := some 100 }
  { s with
    clock := { s.clock with seconds := now }
    store := { s.store with charter := c, grant := some ⟨.front, false, silent, at', .empty, .zero⟩ } }
theorem test_witness_StoreRequestsWaitTheirTurn_release :
    waitingRequest (releasing false 400 400) .front = some .charterRelease ∧ RecordsSealed (releasing false 400 400).store
    ∧ (after (exec (.charterRelease .front) (releasing false 399 400))).store.charter.phase = .closed
    ∧ (after (exec (.charterRelease .front) (releasing false 400 0))).store.charter.phase = .vacant
    ∧ (after (exec (.charterRelease .front) (releasing true 0 0))).store.charter.phase = .vacant := by decide
theorem test_witness_StoreRequestsWaitTheirTurn_granted :
    waitingRequest merged .front = some (.clearRecord 1) ∧ (merged.store.grant.map Grant.holder) = some .front
    ∧ (merged.store.grant.map Grant.faultSeen) = some false ∧ RecordsSealed merged.store ∧ alive merged = true := by decide
theorem test_witness_StoreRequestsWaitTheirTurn_fault :
    let g : Grant := ⟨.front, true, false, 0, .empty, .zero⟩
    let s := { merged with store := { merged.store with grant := some g } }
    waitingRequest s .front = some (.clearRecord 1) ∧ changesStore .front (.clearRecord 1) = true
    ∧ s.store.grant = some g ∧ g.faultSeen = true := by decide

/-- The reset state with records whose check words fail: trip A and a charter. -/
def broken (ph : Phase) : State :=
  { State.reset with store := { State.reset.store with
      a := { State.reset.store.a with check := 1 }
      charter := { State.reset.store.charter with phase := ph, check := 1 } } }
theorem test_witness_BrokenRecordsAreDamaged :
    DetailsPresent (broken .running).warn.list ∧ (broken .running).store.a.body.damaged = false
    ∧ (broken .running).store.a.check ≠ tripCheck 1 (broken .running).store.a.body
    ∧ (broken .running).store.charter.check ≠ charterCheck (broken .running).store.charter
    ∧ (broken .vacant).store.charter.check ≠ charterCheck (broken .vacant).store.charter
    ∧ (broken .running).store.odo.check = odoCheck (broken .running).store.odo := by decide
theorem test_witness_BrokenRecordsAreDamaged_free (p : Port) : StoreFree p (broken .running) := by
  cases p <;> exact ⟨rfl, fun q => by cases q <;> rfl, rfl, rfl, rfl, by decide⟩
theorem test_broken_record_is_damaged :
    (after (exec (.readRecord .front 1 0) (broken .running))).store.a.body.damaged = true
    ∧ (after (exec (.readRecord .front 4 0) (broken .running))).store.charter.phase = .closed
    ∧ (after (exec (.readRecord .front 4 0) (broken .vacant))).store.charter.phase = .vacant := by decide

theorem test_witness_StoreRequestsWaitTheirTurn :
    waitingRequest { State.reset with fold := { State.reset.fold with waiting := true } } .front = none
    ∧ waitingRequest (holdRequest .front .charterOpen State.reset) .front = some .charterOpen
    ∧ State.reset.store.order = [Port.front] ++ .rear :: [.service]
    ∧ waitingRequest (holdRequest .rear .charterOpen State.reset) .front = none
    ∧ waitingRequest (holdRequest .rear .charterOpen State.reset) .rear ≠ none := by decide

theorem test_witness_SetUnitsStoresTheChoice :
    2 < (3 : Byte).toNat ∧ (2 : Byte).toNat ≤ 2 ∧ unitOf State.reset .front = (0 : Byte).toNat
    ∧ unitOf State.reset .front ≠ (2 : Byte).toNat := by decide
theorem test_witness_DistanceAndSpeedFigures : CountersInRange running ∧ running.meas.speed ≤ 2550 := by decide
/-- A record of 1 km, 1 hour and 10 l; a vacant charter without times. -/
theorem test_witness_TripComputerFigures :
    (bodyOf State.reset .a).isSome = true ∧ bodyOf State.reset .odo = none
    ∧ State.reset.store.charter.phase = .vacant ∧ State.reset.store.charter.endStamp = none
    ∧ ({ State.reset.store.charter with phase := .closed, endStamp := some 3 } : Charter).endStamp = some 3 := by decide
theorem test_figures_at_their_limits :
    (derived State.reset .a 0).speed = ⟨0, .none⟩ ∧ (derived State.reset .odo 0).fuel = ⟨0, .none⟩
    ∧ (derived State.reset .charter 0).elapsed = ⟨0, .none⟩ := by decide
theorem test_witness_ReadsAnswerAtOnce :
    (7 : Byte).toNat = (7 : Fin 8).val ∧ 7 < (8 : Byte).toNat ∧ (45 : Byte).toNat ≤ 45 ∧ 45 < (46 : Byte).toNat
    ∧ (1 : Byte).toNat < settingPages 14 ∧ settingPages 14 ≤ (2 : Byte).toNat ∧ settingPages 45 ≤ (1 : Byte).toNat
    ∧ refuelMark State.reset .front = false
    ∧ refuelMark { State.reset with fold := { State.reset.fold with tank := ⟨0, true, true, false, false⟩ } } .front = true := by
  decide
theorem test_witness_ReadsThatEmptyAndPages :
    (23 : Byte).toNat ≤ 23 ∧ 23 < (24 : Byte).toNat
    ∧ ∀ f ∈ [List.replicate 27 (0 : Byte), [1]], f.length ≤ 27 := by decide

theorem test_witness_WarningExpirySamples :
    clocked State.reset = true ∧ ListOrdered State.reset.warn.list
    ∧ sample (stepCounters State.reset) 19 = none ∧ (sample (stepCounters State.reset) 0).isSome = true := by decide
theorem test_witness_AckWarningSetsTheAck :
    (23 : Byte).toNat = (23 : Fin 24).val ∧ 23 < (24 : Byte).toNat
    ∧ findEntry 3 (listing [freshEntry 3 0 0]).warn.list = some (freshEntry 3 0 0)
    ∧ findEntry 4 (listing [freshEntry 3 0 0]).warn.list = none ∧ ListOrdered (listing [freshEntry 3 0 0]).warn.list := by
  decide
theorem test_witness_RearCallAndOverspeed :
    (∀ e ∈ (listing [{ freshEntry 19 0 0 with cleared := true }]).warn.list, e.w = 19 ∧ e.cleared = true)
    ∧ findEntry 19 (listing [freshEntry 19 0 0]).warn.list = some (freshEntry 19 0 0) := by decide
theorem test_witness_WarningTestSoundsTheDefinition :
    (∃ w : Fin 24, (warnDef w).pattern = none) ∧ (warnDef 13).pattern = some 6
    ∧ ({ State.reset.chime with rear := ⟨none, List.replicate 4 ⟨0, 0, .rear, false⟩⟩ } : ChimeUnit).rear.queue.length = 4 := by
  decide
theorem test_witness_RaiseRule :
    ListOrdered [freshEntry 0 0 0, { freshEntry 6 0 0 with cleared := true }, freshEntry 13 0 1]
    ∧ (∀ x ∈ [freshEntry 0 0 0, freshEntry 13 0 1], x.w ≠ 3) := by decide

/-- R108: a latched definition, one that is not, and an entry that is acknowledged as its definition asks. -/
theorem test_witness_ReleasesAndViewSequences :
    ListOrdered [freshEntry 18 0 0, freshEntry 13 0 1] ∧ (warnDef 18).latched = true ∧ (warnDef 13).latched = false
    ∧ (warnDef 19).latched = true ∧ (∀ x ∈ [freshEntry 18 0 0, freshEntry 13 0 1], x.w ≠ 3)
    ∧ ({ freshEntry 18 0 0 with cleared := true } : Entry).cleared = true := by decide
theorem test_release_of_latched_stays_cleared :
    ((release 18 (listing [freshEntry 18 0 0])).warn.list.map fun e => (e.w, e.cleared)) = [(18, true)]
    ∧ (release 13 (listing [freshEntry 13 0 0])).warn.list = [] := by decide

/-- The reset state with a play on the front speaker. -/
def playing (step : Nat) (l : List Entry) : State :=
  { listing l with chime := { State.reset.chime with front := ⟨some ⟨.warning 13, 1, 6, step, 1⟩, []⟩ } }
theorem test_witness_ChimeSteps_next_step :
    wanted (playing 0 State.reset.warn.list) .front ⟨.warning 13, 1, 6, 0, 1⟩ = true ∧ 0 + 1 < (passSteps 6).length
    ∧ bestCandidate (playing 0 State.reset.warn.list) .front = none := by decide
theorem test_witness_ChimeSteps_preempted :
    wanted (playing 0 (freshEntry 0 0 0 :: State.reset.warn.list)) .front ⟨.warning 13, 1, 6, 0, 1⟩ = true
    ∧ ∃ c n, bestCandidate (playing 0 (freshEntry 0 0 0 :: State.reset.warn.list)) .front = some (.warning 0 c n) ∧ 1 < c :=
  ⟨by decide, (warnDef 0).cls, ((warnDef 0).pattern.getD 0), by decide, by decide⟩
theorem test_witness_ChimeSteps_stops :
    wanted (playing 0 []) .front ⟨.warning 13, 1, 6, 0, 1⟩ = false ∧ bestCandidate (playing 0 []) .front = none
    ∧ quietOn (playing 0 []) .front = false := by decide
/-- The last step of a pass of W13; and of a queue entry, on the rear, alone and pre-empted. -/
theorem test_witness_ChimeSteps_pass_end :
    wanted (playing ((passSteps 6).length - 1) State.reset.warn.list) .front
      ⟨.warning 13, 1, 6, (passSteps 6).length - 1, 1⟩ = true
    ∧ ¬ ((passSteps 6).length - 1 + 1 < (passSteps 6).length)
    ∧ (findEntry 13 (playing 0 State.reset.warn.list).warn.list).isSome = true := by decide
def queued : State :=
  let e : QueueEntry := ⟨3, 2, .rear, true⟩
  { listing [] with chime := ⟨⟨none, []⟩, ⟨some ⟨.queue, 2, 3, (passSteps 3).length - 1, 1⟩, [e]⟩, .off⟩ }
theorem test_witness_ChimeSteps_queue_entry_ends :
    wanted queued .rear ⟨.queue, 2, 3, (passSteps 3).length - 1, 1⟩ = true
    ∧ queued.chime.rear.queue.filter QueueEntry.playing = [⟨3, 2, .rear, true⟩]
    ∧ (after (exec (.noteBoundary .rear) queued)).port.rear.notices &&& Notice.chimeDone.bit = Notice.chimeDone.bit
    ∧ (after (exec (.noteBoundary .rear) queued)).chime.rear = ⟨none, []⟩ := by decide
theorem test_witness_ChimeSteps_quieting :
    let s := { queued with chime := { queued.chime with rear := { queued.chime.rear with queue := [] }, quiet := .quieting } }
    wanted s .rear ⟨.queue, 2, 3, (passSteps 3).length - 1, 1⟩ = false
    ∧ (after (exec (.noteBoundary .rear) s)).chime.quiet = .on := by decide
theorem test_witness_ChimeSteps_preempted_by_queue :
    let s := { playing 0 State.reset.warn.list with chime :=
      { State.reset.chime with front := ⟨some ⟨.warning 13, 1, 6, 0, 1⟩, [⟨3, 2, .front, false⟩]⟩ } }
    bestCandidate s .front = some (.queue 0 2 3) ∧ wanted s .front ⟨.warning 13, 1, 6, 0, 1⟩ = true := by decide
theorem test_witness_RepeatTimer :
    repeats 6 .rear = true ∧ repeats 0 .front = true
    ∧ (({ freshEntry 6 0 0 with chimeRear := some ⟨.resting, some 1⟩ } : Entry).chimeIs .rear .resting) = true
    ∧ (playing 0 [freshEntry 6 0 0]).chime.front.play ≠ none := by decide

theorem test_witness_ChimeQueueCommands :
    (7 : Byte).toNat = (7 : Fin 8).val ∧ ¬ ((8 : Byte).toNat < 8) ∧ (1 ≤ (1 : Byte).toNat ∧ (3 : Byte).toNat ≤ 3)
    ∧ ¬ (1 ≤ (0 : Byte).toNat) ∧ ¬ ((4 : Byte).toNat ≤ 3) := by decide
theorem test_witness_RearQuietTakesTheRear :
    1 < (2 : Byte).toNat ∧ (1 : Byte).toNat ≤ 1 ∧ State.reset.chime.quiet = .off
    ∧ ({ State.reset.chime with quiet := .quieting } : ChimeUnit).quiet ≠ .off
    ∧ ∃ e ∈ [(⟨0, 0, .front, false⟩ : QueueEntry)], e.requester = .front := by decide
theorem test_witness_ServiceItemCommands :
    7 < (8 : Byte).toNat ∧ (7 : Byte).toNat = (7 : Fin 8).val
    ∧ ItemArgs.toDef ⟨1, 0, 10000, 365, 250, 1000, 30, 10, 4, 8, 500, 1⟩ = some (Settings.builtIn.items[(0 : Fin 8)])
    ∧ ItemArgs.toDef ⟨2, 0, 10000, 365, 250, 1000, 30, 10, 4, 8, 500, 1⟩ = none := by decide

theorem test_witness_SecondEndCountsAndRings :
    (∃ a, ({ parked.clock with alarm := some 1 } : ClockUnit).alarm = some a ∧ a ≤ (parked.clock.seconds + 1) % 4294967296)
    ∧ parkedState parked = true ∧ parked.power.armed[9] ≠ 0 :=
  ⟨⟨1, rfl, by decide⟩, by decide, by decide⟩
theorem test_witness_AlarmIsSetAndCleared :
    (0 : BitVec 32).toNat ≤ State.reset.clock.seconds ∧ State.reset.clock.seconds < (1 : BitVec 32).toNat
    ∧ State.reset.clock.unset = true ∧ ({ State.reset.clock with unset := false } : ClockUnit).unset = false
    ∧ State.reset.clock.alarmCheck = (byteSumOpt State.reset.clock.alarm + 9) % 65536
    ∧ (8 : Nat) ≠ (byteSumOpt State.reset.clock.alarm + 9) % 65536 := by decide
theorem test_witness_SubWatchAndCalibration :
    State.reset.clock.onRc = false ∧ ({ State.reset.clock with onRc := true } : ClockUnit).onRc = true
    ∧ ListOrdered State.reset.warn.list
    ∧ ({ State.reset.clock with calib := some ⟨24000, 1⟩ } : ClockUnit).calib.isSome = true := by decide
theorem test_witness_MainClockFaultSuspends :
    clocked State.reset = true ∧ alive faulted = true ∧ faulted.clock.mainFault = true := by decide

theorem test_witness_ParkEntryBegins :
    inAwake State.reset = true ∧ State.reset.power.park = none ∧ State.reset.power.delay.isSome = true
    ∧ State.reset.power.limit.isSome = true ∧ State.reset.power.limit ≠ some 0
    ∧ State.reset.chime.front.play ≠ none
    ∧ keepAwakeReason { listing [] with chime := ⟨⟨none, []⟩, ⟨none, []⟩, .off⟩ } = false := by decide
theorem test_witness_ParkEntry_keepAwake_states :
    State.reset.power.state = .awake ∧ running.power.state ≠ .awake
    ∧ ({ State.reset.power with park := some .limit } : PowerUnit).park = some .limit := by decide
theorem test_witness_ParkedEntryEmptiesTheBlocks :
    parkReady State.reset = false
    ∧ parkReady { listing [] with
        chime := ⟨⟨none, []⟩, ⟨none, []⟩, .off⟩, gauge := { State.reset.gauge with atRest := true }
        power := { State.reset.power with park := some .delay } } = true := by decide
theorem test_witness_WakeSourcesAndSequence :
    parkedState parked = true ∧ wakeEnabled parked .serviceLine = true ∧ parkedState State.reset = false
    ∧ wakeEnabled { parked with power := { parked.power with armed := Vector.replicate 10 0 } } .keyIn = false
    ∧ wakeLine 2 = true ∧ wakeLine 6 = true ∧ wakeLine 15 = true ∧ parked.power.waking = none := by decide

/-- A link in a transaction, with an outgoing frame and a slot. -/
def selected (out : Outgoing) (slot : ReqSlot) : State :=
  State.reset.setLink .front { State.reset.port.front with select := some out, slot := slot }
theorem test_witness_LinkTransactions_ends :
    ((selected .idle .empty).link .front).select = some .idle ∧ (State.reset.link .front).select = none
    ∧ judge [0] = .poll ∧ judge [] = .poll ∧ judge [3, 1, 0xFD] = .bad ∧ judge [3, 1, 0xFC] = .request 1 []
    ∧ ((selected .busy (.waiting .charterOpen)).link .front).slot = .waiting .charterOpen := by decide
theorem test_witness_LinkTransactions_requests :
    requestOf 1 [] = some .readStatus ∧ requestOf 1 [0] = none ∧ (1 : Byte).toNat ∈ commandCodes
    ∧ requestOf 0x7F [] = none ∧ (0x7F : Byte).toNat ∉ commandCodes := by decide
theorem test_witness_LinkTransactions_silence :
    running.power.state = .run ∧ (running.link .front).silent = false ∧ (silentLink.link .front).silent = true
    ∧ (silentLink.link .front).select = some .idle ∧ ListOrdered silentLink.warn.list := by decide
/-- R171: a BUSY transaction whose slot became DONE meanwhile: the incoming is discarded and the slot kept. -/
theorem test_busy_transaction_discards :
    ((after (exec (.linkTransactionEnd .front [3, 1, 0xFC]) (selected .busy (.done ⟨.ok, [7]⟩)))).link .front).slot
      = .done ⟨.ok, [7]⟩ := by decide
/-- R165: the select of a link in PARKED fires its wake source. -/
theorem test_linkSelect_parked :
    exec (.linkSelect .front) parked = exec (.wakeSourceFires .frontLink) parked
    ∧ ((after (exec (.linkSelect .front) parked)).link .front).select = none := ⟨rfl, by decide⟩

theorem test_witness_OutputPinsFollowTheState :
    alive State.reset = true ∧ State.reset.port.front.select = none ∧ (playing 0 []).chime.front.play ≠ none
    ∧ (passSteps 6)[0]?.isSome = true ∧ clocked (playing 0 []) = true ∧ State.reset.timers.frame < 1000000 := by decide
/-- R168, R170: the bytes of the IDLE frame, and the 0 bytes clocked past its end. -/
theorem test_link_bytes :
    (List.range 6).map (linkByte (selected .idle .empty) .front)
      = [3, BitVec.ofNat 8 Status.idle.code, 0 - 3 - BitVec.ofNat 8 Status.idle.code, 0, 0, 0]
    ∧ linkByte State.reset .front 0 = 0 ∧ linkByte parked .front 0 = 0 := by decide

theorem test_witness_ServiceLineFrames_bytes :
    (receiving (.building [])).port.service.rx = .building [] ∧ frameComplete [] = false ∧ frameComplete [3, 1] = false
    ∧ frameComplete [3, 1, 0xFC] = true ∧ judgeFrame [3, 1, 0xFD] = .bad
    ∧ owesLineError (receiving .discarding).port.service.rx = true
    ∧ inAwake State.reset = true ∧ inAwake running = false ∧ ParkNotDue running := by decide
theorem test_witness_ServiceLineFrames_taken :
    judgeFrame [3, 1, 0xFC] = .request 1 [] ∧ requestOf 1 [] = some .readStatus
    ∧ (receiving (.building [3, 1, 0xFC])).port.service.request = none
    ∧ (after (exec .serviceFrameEnd (receiving (.building [3, 1, 0xFC])))).port.service.output
        = [⟨.ok, statusContent (receiving (.building []))⟩] := by decide
theorem test_witness_ServiceLineFrames_output :
    receiverFree State.reset.port.service.rx = true ∧ State.reset.port.service.transmitting = false
    ∧ ({ State.reset.port.service with output := [⟨.ok, []⟩] } : ServiceLine).output = ⟨.ok, []⟩ :: []
    ∧ ({ State.reset.port.service with transmitting := true } : ServiceLine).transmitting = true := by decide

theorem test_witness_WriteSettingInstalls_numbers :
    45 < (46 : Byte).toNat ∧ (45 : Byte).toNat ≤ 45 ∧ 2 ≤ (2 : Byte).toNat ∧ (1 : Byte).toNat ≤ 1
    ∧ itemRange 2 = some (1, 12) ∧ itemWidth 2 = 1 ∧ decNat [(12 : Byte)] = 12
    ∧ lengthGood State.reset 2 0 [12] = true ∧ lengthGood State.reset 2 0 [0, 12] = false := by decide
theorem test_witness_WriteSettingInstalls_curves :
    itemCurve 14 = some 0 ∧ itemCurve 25 = some 11
    ∧ lengthGood State.reset 14 0 [1, 1, 0, 0, 0, 0] = true
    ∧ lengthGood State.reset 14 0 [2, 1, 0, 0, 0, 0, 2, 0, 0, 0, 0] = true
    ∧ lengthGood State.reset 14 0 (5 :: List.replicate 20 0) = true
    ∧ lengthGood State.reset 14 0 (9 :: List.replicate 20 0) = true
    ∧ lengthGood { State.reset with settings := { State.reset.settings with
        staging := some ⟨14, 5, [(1, 0), (2, 0), (3, 0), (4, 0)]⟩ } } 14 1 [5, 0, 0, 0, 0] = true := by decide

theorem test_witness_CommitAndSupplyLoss :
    (writing (.commit .builtIn 1)).nv.flight = some (.commit .builtIn 1) ∧ clocked (writing (.commit .builtIn 1)) = true
    ∧ (writing (.slot 0 31 0 1)).nv.flight = some (.slot 0 (31 : Fin 32).val 0 1) ∧ commitBusy State.reset = false
    ∧ commitBusy (writing (.commit .builtIn 1)) = true ∧ State.reset.nv.flight = none := by decide
theorem test_witness_ColdStartAndRestart :
    State.reset.nv.flight = none ∧ State.reset.units.front ≤ 2 ∧ State.reset.clock.onRc = false
    ∧ newestSlot State.reset.nv.slots = none ∧ goodBlock State.reset.nv = none
    ∧ goodBlock { State.reset.nv with block := some ⟨.builtIn, blockCheck .builtIn⟩ } = some .builtIn := by decide
set_option maxRecDepth 20000 in
/-- R185: a start that cuts a write: its slot or the block fails its check, and a cut commit has FAILED at a RESTART. -/
theorem test_witness_ColdStartAndRestart_cuts :
    let i : StartInputs := ⟨#v[128, 128, 128, 128, 128, 128], 0, true⟩
    let s := { writing (.commit .builtIn 1) with settings := { State.reset.settings with commit := .inProgress } }
    (writing (.slot 0 31 0 1)).nv.flight = some (.slot 0 (31 : Fin 32).val 0 1)
    ∧ slotValid 31 (after (exec (.restart i) (writing (.slot 0 31 0 1)))).nv.slots[31] = false
    ∧ (after (exec (.restart i) s)).settings.commit = .failed ∧ goodBlock (after (exec (.restart i) s)).nv = none
    ∧ (after (exec (.coldStart i) s)).settings.commit = .none := by decide

/-- The reset state with every check word of retention wrong. -/
def unsealed : State :=
  { State.reset with
    settings := { State.reset.settings with check := 1 }
    fold := { State.reset.fold with check := 1, buf := { State.reset.fold.buf with pulses := 9 } }
    service := { State.reset.service with check := 1 }
    units := ⟨1, 1, 1⟩
    warn := { State.reset.warn with limit := 900, limitCheck := 1 } }
theorem test_witness_FailedRetentionChecks :
    unsealed.settings.check ≠ settingsCheck unsealed.settings.work ∧ unsealed.fold.check ≠ foldCheck unsealed.fold
    ∧ unsealed.service.check ≠ serviceCheck unsealed.service.items
    ∧ unsealed.units.check ≠ unitCheck unsealed.units.front unsealed.units.rear
    ∧ unsealed.warn.limitCheck ≠ limitCheck unsealed.warn.limit
    ∧ ¬ (State.reset.units.front ≤ 2 ∧ ({ State.reset.units with front := 3 } : Units).front ≤ 2) := by decide
theorem test_failed_checks_start_anew :
    let t := after (exec (.restart ⟨#v[128, 128, 128, 128, 128, 128], 0, true⟩) unsealed)
    t.units = ⟨0, 0, 5⟩ ∧ t.warn.limit = 0 ∧ t.fold.lost = true ∧ t.fold.buf.pulses = 0 ∧ t.settings.defaulted = true
    ∧ Notified .status t ∧ Notified .service t := by decide
theorem test_witness_FailedRetentionChecks_reload :
    let img : Settings := { Settings.builtIn with kr := 5000 }
    goodBlock { State.reset.nv with block := some ⟨img, blockCheck img⟩ } = some img := by decide
theorem test_witness_ColdStartAndRestart_rc :
    ({ State.reset.clock with onRc := true } : ClockUnit).onRc = true
    ∧ ActiveEntry 17 (after (exec (.restart ⟨#v[128, 128, 128, 128, 128, 128], 0, true⟩)
        { State.reset with clock := { State.reset.clock with onRc := true } })) := by decide
theorem test_witness_ColdStartAndRestart_newest_slot :
    newestSlot (State.reset.nv.slots.set 0 ⟨5, 0, slotCheck 0 5 0⟩) ≠ none := by decide
set_option maxRecDepth 20000 in
theorem test_witness_ColdStartAndRestart_sealed : RetentionSealed running := by decide
theorem test_witness_ColdStartAndRestart_unsealed : (1 : Nat) ≠ odoCheck State.reset.store.odo := by decide

end Sys2Proof.Tests
end

/-! PROOFS. The conversion of a fold (R43, R44): its arithmetic, the state that FOLD leaves, and the obligation FoldConverts. -/

namespace Sys2Proof.Proofs.FoldConversion

open Sys2Proof Sys2Proof.Machine

/-! ### The remainders and the results of the conversion -/

/-- R43, R44: what a conversion by `k` carries to the next fold is below `k`. -/
theorem carried_lt (n : Nat) {k : Nat} (hk : 0 < k) : n - n / k * k < k := by
  rw [← Nat.mod_eq_sub_div_mul]
  exact Nat.mod_lt n hk

/-- R43: Kr pulses are exactly 1,000 m, whatever remainder is carried in. -/
theorem trialMetres_of_kr_pulses {s : State} (hp : s.fold.buf.pulses = s.settings.work.kr)
    (hrd : s.fold.rd < s.settings.work.kr) : trialMetres s = 1000 := by
  have hkr : 0 < s.settings.work.kr := Nat.zero_lt_of_lt hrd
  rw [trialMetres, hp, Nat.mul_add_div hkr, Nat.div_eq_of_lt hrd]

/-- R43: a Kr of at least 1,000 makes no pulse longer than 1 m, so the most metres of a fold are the most pulses. -/
theorem trialMetres_le {s : State} (hp : s.fold.buf.pulses ≤ 65535) (hkr : 1000 ≤ s.settings.work.kr)
    (hrd : s.fold.rd < s.settings.work.kr) : trialMetres s ≤ 65535 := by
  have hroad : s.fold.buf.pulses * 1000 ≤ 65535 * s.settings.work.kr := Nat.mul_le_mul hp hkr
  have htotal : s.fold.buf.pulses * 1000 + s.fold.rd < s.settings.work.kr * 65536 := by omega
  exact Nat.le_of_lt_succ (Nat.div_lt_of_lt_mul htotal)

/-- R44: the most millilitres of a fold, at the limits of T and Kf. -/
theorem trialMl_le {s : State} (ht : s.fold.buf.ticks ≤ 16777215) (hkf : s.settings.work.kf ≤ 4000)
    (hrf : s.fold.rf < 1000000) : trialMl s ≤ 67109 := by
  have hfuel : s.fold.buf.ticks * s.settings.work.kf ≤ 16777215 * 4000 := Nat.mul_le_mul ht hkf
  have hnum : s.fold.buf.ticks * s.settings.work.kf + s.fold.rf < 1000000 * 67110 := by omega
  exact Nat.le_of_lt_succ (Nat.div_lt_of_lt_mul hnum)

/-! ### The state that FOLD leaves -/

/-- R46: the state after a granted FOLD. -/
def afterFold (s : State) : State :=
  settle s ((performFold s).withFoldBare fun f => { f with waiting := false })

theorem exec_fold_granted {s : State} (h : foldGranted s = true) : exec .fold s = .next (afterFold s) :=
  if_pos h

theorem afterFold_fold (s : State) :
    (afterFold s).fold = { (performFold s).fold with waiting := false } := by
  simp [afterFold]

/-- R43: what is carried of the distance. -/
theorem afterFold_rd (s : State) :
    (afterFold s).fold.rd =
      s.fold.buf.pulses * 1000 + s.fold.rd - trialMetres s * s.settings.work.kr := by
  rw [afterFold_fold, performFold_fold]
  rfl

/-- R44: what is carried of the fuel. -/
theorem afterFold_rf (s : State) :
    (afterFold s).fold.rf =
      s.fold.buf.ticks * s.settings.work.kf + s.fold.rf - trialMl s * 1000000 := by
  rw [afterFold_fold, performFold_fold]
  rfl

theorem afterFold_odo_distance {s : State} (h : RecordsSealed s.store) :
    (afterFold s).store.odo.distance = foldedOdo s := by
  simp [afterFold, performFold_store s h]

theorem afterFold_a_body {s : State} (h : RecordsSealed s.store) :
    (afterFold s).store.a.body = foldedBody s s.store.a.body := by
  simp [afterFold, performFold_store s h]

/-- R65: an undamaged record's fuel takes a fold's millilitres, up to its ceiling. -/
theorem foldedBody_fuel (s : State) {x : TripBody} (hx : x.damaged = false) :
    (foldedBody s x).fuel = min 99999999 (x.fuel + trialMl s) := by
  simp [foldedBody, hx, TripBody.take, fuelCeiling]

/-! ### The obligation -/

/-- Settles O16: FOLD leaves `afterFold`, whose fields and remainders are the lemmas above. -/
theorem foldConverts : Obligations.FoldConverts := by
  intro s hgranted hsealed
  refine ⟨⟨afterFold s, exec_fold_granted hgranted, afterFold_odo_distance hsealed, ?fuel, afterFold_rd s, ?rd,
    afterFold_rf s, ?rf⟩, trialMetres_of_kr_pulses, trialMetres_le, trialMl_le, rfl, rfl⟩
  case fuel =>
    intro hdamaged
    rw [afterFold_a_body hsealed]
    exact foldedBody_fuel s hdamaged
  case rd =>
    intro hkr
    rw [afterFold_rd]
    exact carried_lt _ hkr
  case rf =>
    rw [afterFold_rf]
    exact carried_lt _ (by decide)

end Sys2Proof.Proofs.FoldConversion

/-! PROOFS. The distance figure of a record (R88) and the speed figures of READ LIVE (R94): the range of a reported distance,
the layout of a READ LIVE reply, and the obligation DistanceAndSpeedFigures. -/

namespace Sys2Proof.Proofs.DistanceAndSpeed

open Sys2Proof Sys2Proof.Machine

/-! ### Reported distances -/

/-- R87, R88: the distance figure of a record, with or without a body, is that of its reported distance. -/
theorem derived_distance (s : State) (r : RecordNo) (unit : Nat) :
    (derived s r unit).distance = ⟨distanceFigure unit (reportedDistance s r), .valid⟩ := by
  unfold derived
  cases bodyOf s r <;> rfl

/-- R58: the distance of a record with a body stays below its modulus. -/
theorem bodyOf_distance_lt {s : State} (hs : CountersInRange s) {r : RecordNo} {t : TripBody} (ht : bodyOf s r = some t) :
    t.distance < odoModulus := by
  obtain ⟨-, ha, hb, hp, hcharter, -⟩ := hs
  cases r <;> cases ht
  case a => exact ha
  case b => exact hb
  case p => exact hp
  case charter => exact hcharter

/-- R67, R88: a forwarded distance wraps at the modulus, and one that is not forwarded is the stored one, which is in range. -/
theorem reportedDistance_lt {s : State} (hs : CountersInRange s) (r : RecordNo) : reportedDistance s r < odoModulus := by
  have wraps (n : Nat) : n % odoModulus < odoModulus := Nat.mod_lt n (show 0 < 1000000000 by decide)
  unfold reportedDistance
  cases hbody : bodyOf s r with
  | none =>
    dsimp only
    split_ifs
    · exact wraps _
    · exact hs.1
  | some t =>
    dsimp only
    split_ifs
    · exact wraps _
    · exact bodyOf_distance_lt hs hbody

/-! ### The speed figure -/

/-- R94: the largest filtered speed, 255 km/h, gives no more than 158.5 mph. -/
theorem speedFigure_le {unit v : Nat} (hv : v ≤ 2550) (hunit : unit ≠ 0) : speedFigure unit v ≤ 1585 := by
  rw [speedFigure, if_neg hunit, roundHalfUp]
  omega

/-! ### The layout of a READ LIVE reply -/

theorem enc_one (n : Nat) : enc 1 n = [BitVec.ofNat 8 n] := by simp [enc]

@[simp] theorem enc_length (w n : Nat) : (enc w n).length = w := by simp [enc]

/-- The lowest bit of packed bits is the first of them. -/
theorem packBits_cons_lsb (b : Bool) (bs : List Bool) : (BitVec.ofNat 8 (packBits (b :: bs))).getLsbD 0 = b := by
  have hlow : packBits (b :: bs) = b.toNat + 2 * packBits bs := rfl
  rw [hlow]
  have hodd : decide ((b.toNat + 2 * packBits bs) % 2 = 1) = b := by cases b <;> simp
  rw [BitVec.getLsbD_ofNat, Nat.testBit_zero, hodd]
  rfl

/-- R86, R186: packed marks that begin with VALID have their lowest two bits 0. -/
theorem packMarks_cons_valid_and_three (ms : List Mark) : BitVec.ofNat 8 (packMarks (.valid :: ms)) &&& 3 = 0 := by
  have hlow : packMarks (.valid :: ms) = 0 + 4 * packMarks ms := rfl
  rw [hlow]
  have low_two (n : Nat) : n &&& 3 = n % 4 := Nat.and_two_pow_sub_one_eq_mod n 2
  apply BitVec.eq_of_toNat_eq
  simp [low_two]

/-- R186: a READ LIVE reply begins with the unit, the bits with moving lowest, the marks with that of the speed lowest, and
the speed and rpm figures in two bytes each. -/
theorem liveContent_layout (s : State) (unit : Nat) : ∃ bits marks rest, liveContent s unit =
    BitVec.ofNat 8 unit :: BitVec.ofNat 8 (packBits (moving s :: bits)) :: BitVec.ofNat 8 (packMarks (.valid :: marks))
      :: (enc 2 (speedFigure unit s.meas.speed) ++ (enc 2 s.meas.rpm ++ rest)) :=
  ⟨[s.clock.mainFault, !instantEconomyKind s],
    [(instantFigure s unit).mark, (rangeFigure s unit).mark, (fuelRemaining s unit).mark], _, by
      simp only [liveContent, enc_one, List.append_assoc, List.cons_append, List.nil_append]
      rfl⟩

theorem liveContent_speed (s : State) (unit : Nat) :
    ((liveContent s unit).drop 3).take 2 = enc 2 (speedFigure unit s.meas.speed) := by
  obtain ⟨bits, marks, rest, h⟩ := liveContent_layout s unit
  simp [h]

theorem liveContent_rpm (s : State) (unit : Nat) : ((liveContent s unit).drop 5).take 2 = enc 2 s.meas.rpm := by
  obtain ⟨bits, marks, rest, h⟩ := liveContent_layout s unit
  simp [h]

theorem liveContent_moving (s : State) (unit : Nat) :
    ((liveContent s unit).getD 1 0).getLsbD 0 = moving s := by
  obtain ⟨bits, marks, rest, h⟩ := liveContent_layout s unit
  rw [h]
  exact packBits_cons_lsb (moving s) bits

theorem liveContent_speed_valid (s : State) (unit : Nat) : ((liveContent s unit).getD 2 0) &&& 3 = 0 := by
  obtain ⟨bits, marks, rest, h⟩ := liveContent_layout s unit
  rw [h]
  exact packMarks_cons_valid_and_three marks

/-! ### The obligation -/

/-- Settles O32: the distance figure by `derived_distance` and `reportedDistance_lt`, READ LIVE by the fields of its layout. -/
theorem distanceAndSpeedFigures : Obligations.DistanceAndSpeedFigures := by
  intro s r unit _
  exact ⟨⟨derived_distance s r unit, fun hs => Nat.le_of_lt_succ (reportedDistance_lt hs r)⟩, by decide, by decide, by decide,
    liveContent_speed s unit, speedFigure_le, liveContent_rpm s unit, liveContent_moving s unit,
    liveContent_speed_valid s unit⟩

end Sys2Proof.Proofs.DistanceAndSpeed

/-! PROOFS. What a raise makes of the active list (R107): the entry it finds, the entry it places, a raise in its three cases,
and the obligation RaiseRule. -/

namespace Sys2Proof.Proofs.RaiseOfDefinition

open Sys2Proof Sys2Proof.Machine

/-! ### The entry that a raise finds and the entry that it places -/

/-- R105: an ordered list has one entry of a definition at most, so an entry that stands in it is the one found. -/
theorem findEntry_of_mem {l : List Entry} {x : Entry} (hl : ListOrdered l) (hx : x ∈ l) : findEntry x.w l = some x := by
  cases hf : findEntry x.w l with
  | none => exact absurd rfl (findEntry_none.1 hf x hx)
  | some y =>
    obtain ⟨hy, hw⟩ := findEntry_some hf
    rw [List.inj_on_of_nodup_map hl.1 hy hx hw]

/-- R107: PENDING, with its repeat timer stopped, on a speaker that a definition with a pattern names; no chime state else. -/
theorem freshMark_eq (w : Fin 24) (sp : Speaker) :
    freshMark w sp = if (warnDef w).pattern ≠ none ∧ (warnDef w).names sp = true then some ⟨.pending, none⟩ else none := by
  simp [freshMark, Option.isSome_iff_ne_none]

/-! ### A raise in its three cases -/

section

variable {w : Fin 24} {l : List Entry} {x : Entry} (add : Bool) (d : BitVec 8) (stamp : Nat)

theorem raiseList_of_absent (h : ∀ x ∈ l, x.w ≠ w) :
    raiseList w add d stamp l = insertEntry (freshEntry w stamp d) l := by
  simp [raiseList, findEntry_none.2 h]

theorem raiseList_of_cleared (hl : ListOrdered l) (hx : x ∈ l) (hc : x.cleared = true) :
    raiseList x.w add d stamp l = insertEntry (freshEntry x.w stamp d) (dropEntry x.w l) := by
  simp [raiseList, findEntry_of_mem hl hx, hc]

theorem raiseList_of_active (hl : ListOrdered l) (hx : x ∈ l) (hc : x.cleared = false) :
    raiseList x.w add d stamp l = mapEntry x.w (fun y => y.updateDetail add d) l := by
  simp [raiseList, findEntry_of_mem hl hx, hc]

end

@[simp] theorem raise_list (w : Fin 24) (add : Bool) (d : BitVec 8) (s : State) :
    (raise w add d s).warn.list = raiseList w add d s.clock.seconds s.warn.list := rfl

/-! ### The obligation -/

/-- Settles O40: the three cases of `raiseList`, where a new entry has its place by `insertEntry_split` in a list that is
still ordered when the CLEARED entry is taken out. -/
theorem raiseRule : Obligations.RaiseRule := by
  intro w add d s hl
  simp only [← freshMark_eq, raise_list]
  refine ⟨?absent, ?cleared, ?active⟩
  case absent =>
    intro habsent
    rw [raiseList_of_absent add d _ habsent]
    exact insertEntry_split (freshEntry w s.clock.seconds d) hl
  case cleared =>
    rintro x hx rfl hcleared
    rw [raiseList_of_cleared add d _ hl hx hcleared]
    exact insertEntry_split (freshEntry x.w s.clock.seconds d) (dropEntry_ordered x.w hl)
  case active =>
    rintro x hx rfl hactive
    rw [raiseList_of_active add d _ hl hx hactive]
    rfl

end Sys2Proof.Proofs.RaiseOfDefinition

/-! PROOFS. The machine: a step on a queue and on an empty queue, the completion of every command, and the reset state. -/

namespace Sys2Proof.Proofs.MachineSteps

open Sys2Proof Sys2Proof.Machine

/-! ### A step -/

/-- Settles O1. -/
theorem stepRunsFrontCommand : Obligations.StepRunsFrontCommand := by
  intro c rest s h
  rw [step, h]

/-- A period that runs down by one microsecond comes due when one is left of it, or none. -/
theorem fold_timer_tick {s : State} (hclocked : clocked s = true) (hmain : s.pins.main = true) :
    if s.timers.fold ≤ 1 then Instr.foldExpiry ∈ (tick s).pending else (tick s).timers.fold + 1 = s.timers.fold := by
  have hone : (elapse s).main = 1 := by simp [elapse, hclocked, hmain]
  split_ifs with h
  · have hdue : due (elapse s).main s.timers.fold = true := by simp [due, hone, h]
    simp [tick, dueNow, Timers.due, hdue, when]
  · have hrun : (tick s).timers.fold = s.timers.fold - (elapse s).main := rfl
    omega

@[simp] theorem tick_power_state (s : State) : (tick s).power.state = s.power.state := by
  simp only [tick, passTime, PowerUnit.pass]
  split_ifs <;> rfl

@[simp] theorem tick_power_park (s : State) : (tick s).power.park = s.power.park := by
  simp only [tick, passTime, PowerUnit.pass]
  split_ifs <;> rfl

@[simp] theorem tick_front_slot (s : State) : (tick s).port.front.slot = s.port.front.slot := by
  simp only [tick, passTime, PortBlock.pass]
  split_ifs <;> rfl

@[simp] theorem tick_rear_slot (s : State) : (tick s).port.rear.slot = s.port.rear.slot := by
  simp only [tick, passTime, PortBlock.pass]
  split_ifs <;> rfl

@[simp] theorem tick_store (s : State) : (tick s).store = s.store := by simp only [tick, passTime]
@[simp] theorem tick_settings (s : State) : (tick s).settings = s.settings := by simp only [tick, passTime]
@[simp] theorem tick_units (s : State) : (tick s).units = s.units := by simp only [tick, passTime]
@[simp] theorem tick_service (s : State) : (tick s).service = s.service := by simp only [tick, passTime]
@[simp] theorem tick_pins (s : State) : (tick s).pins = s.pins := by simp only [tick, passTime]
@[simp] theorem tick_fold (s : State) : (tick s).fold = { s.fold with hold := s.fold.hold.pass (elapse s) } := by
  simp only [tick, passTime]
@[simp] theorem tick_clock (s : State) : (tick s).clock = s.clock.pass (elapse s) s := by simp only [tick, passTime]
@[simp] theorem tick_gauge (s : State) : (tick s).gauge = s.gauge.pass (elapse s) := by simp only [tick, passTime]
@[simp] theorem tick_meas (s : State) : (tick s).meas = s.meas.pass (elapse s) s.pins.injector := by
  simp only [tick, passTime]

/-- Settles O2. -/
theorem emptyQueuePassesTime : Obligations.EmptyQueuePassesTime := by
  intro s h
  refine ⟨tick s, by rw [step, h], ?_⟩
  simp only [tick_store, tick_settings, tick_units, tick_service, tick_pins, tick_fold, tick_clock, tick_gauge, tick_meas,
    tick_power_state, tick_power_park, tick_front_slot, tick_rear_slot]
  exact ⟨trivial, trivial, trivial, trivial, trivial, trivial, trivial, rfl, rfl, trivial, trivial, trivial, trivial, rfl, rfl,
    rfl, rfl, rfl, fold_timer_tick⟩

/-! ### Completion -/

/-- A command that has two outcomes completes when both do. -/
theorem completes_ite {b : Prop} [Decidable b] {x y : Outcome} (hx : ∃ t, x = .next t) (hy : ∃ t, y = .next t) :
    ∃ t, (if b then x else y) = .next t := by
  split_ifs
  · exact hx
  · exact hy

/-- A command that acts only under a condition completes with or without it. -/
theorem completes_cond {b : Prop} [Decidable b] {x y : State} :
    ∃ t, (if b then (.next x : Outcome) else .next y) = .next t :=
  completes_ite ⟨x, rfl⟩ ⟨y, rfl⟩

theorem noteBoundary_completes (sp : Speaker) (s : State) : ∃ t, execNoteBoundary sp s = .next t := by
  unfold execNoteBoundary
  refine completes_ite ?_ ⟨s, rfl⟩
  split
  · exact ⟨_, rfl⟩
  · exact ⟨_, rfl⟩

theorem transmitStart_completes (s : State) : ∃ t, execServiceTransmitStart s = .next t := by
  unfold execServiceTransmitStart
  split
  · exact ⟨_, rfl⟩
  · exact completes_cond

/-- Settles O3: each command either answers a next state outright, or does so in both cases of its condition. -/
theorem everyCommandCompletes : Obligations.EveryCommandCompletes := by
  intro c s
  cases c
  case roadPulseEdge => exact completes_ite completes_cond ⟨s, rfl⟩
  case noteBoundary sp => exact noteBoundary_completes sp s
  case serviceTransmitStart => exact transmitStart_completes s
  case roadAgeStale | speedSampleExpiry | enginePulseEdge | engineAgeStale | rpmSampleExpiry | openTick | analogScanExpiry
      | switchScanExpiry | gaugeStepExpiry | manualSilenceRelease | pwmFrameStart | flasherPhaseChange | bulbCheckEnd
      | lampTestEnd | foldExpiry | fold | modelExpiry | transferHoldEnd | recordMarkApply | slotWriteComplete | warningExpiry
      | repeatTimerExpiry | subMissing | subBack | calibrationExpiry | calibrationComplete | mainClockFaultStart
      | mainClockFaultEnd | parkDelayExpiry | awakeLimitExpiry | parkedEntry | wakeSequence | linkSelect | linkTransactionEnd
      | silenceTimerExpiry | serviceStartBit | serviceFrameEnd | serviceByteReceived | serviceQuietExpiry | serviceFrameSent
      | commitComplete | wakeLineEdge => exact completes_cond
  all_goals exact ⟨_, rfl⟩

/-! ### Reset -/

set_option maxRecDepth 20000 in
/-- The reset state is closed: its COLD START is worked out by evaluation. -/
theorem coldStart_reset :
    exec (.coldStart ⟨#v[128, 128, 128, 128, 128, 128], 0, true⟩) State.reset = .next State.reset := rfl

set_option maxRecDepth 20000 in
theorem reset_sealed : RetentionSealed State.reset := by decide

/-- Settles O4. -/
theorem resetIsColdStart : Obligations.ResetIsColdStart :=
  ⟨coldStart_reset, by decide, by decide, by decide, by decide, by decide, reset_sealed, List.Perm.refl _⟩

end Sys2Proof.Proofs.MachineSteps

/-! PROOFS. What a step can do to the bounded and the sealed parts of the state: the relation `Safe` between the state before
and the state after, kept by every shared operation. -/

namespace Sys2Proof.Proofs.StepSafety

/- Each field that a lemma leaves out is closed by `simp` with the same four reflexivity lemmas; elaborated at the same time, the
lemmas of this file hold a thread each while they wait for one another. -/
set_option Elab.async false

open Sys2Proof Sys2Proof.Machine

/-! ### The relation -/

/-- R58, R59: the distances of the five records are below their modulus. -/
def DistancesInRange (r : RecordStore) : Prop :=
  r.odo.distance < odoModulus ∧ r.a.body.distance < odoModulus ∧ r.b.body.distance < odoModulus
    ∧ r.p.body.distance < odoModulus ∧ r.charter.body.distance < odoModulus

/-- A change of the record store keeps the ranges of the distances, the check words and the ring of the ports. -/
structure StoreSafe (r x : RecordStore) : Prop where
  distances : DistancesInRange r → DistancesInRange x
  records   : RecordsSealed r → RecordsSealed x
  order     : r.order.Perm [.front, .rear, .service] → x.order.Perm [.front, .rear, .service]

/-- A change of the active list keeps its order and its details. -/
structure ListSafe (l m : List Entry) : Prop where
  ordered : ListOrdered l → ListOrdered m
  details : DetailsPresent l → DetailsPresent m

/-- A change of the clock unit keeps the range of the counter and the alarm's check word. -/
structure ClockSafe (c x : ClockUnit) : Prop where
  seconds : c.seconds < clockModulus → x.seconds < clockModulus
  alarm   : c.alarmCheck = alarmCheck c.alarm → x.alarmCheck = alarmCheck x.alarm

/-- A change of the chime unit leaves no queue longer than 4 that was not. -/
def QueuesSafe (c x : ChimeUnit) : Prop :=
  ∀ sp : Speaker, (c.speaker sp).queue.length ≤ 4 → (x.speaker sp).queue.length ≤ 4

/-- The fold engine carries the check word of what it holds. -/
def FoldSealed (f : FoldEngine) : Prop := f.check = foldCheck f

/-- The overspeed limit carries its check word. -/
def LimitSealed (w : WarningUnit) : Prop := w.limitCheck = limitCheck w.limit

/-- The unit choices carry their check word. -/
def UnitsSealed (u : Units) : Prop := u.check = unitCheck u.front u.rear

/-- The service table carries its check word. -/
def ItemsSealed (t : ServiceTable) : Prop := t.check = serviceCheck t.items

/-- The working copy carries its check word. -/
def WorkSealed (x : SettingsStore) : Prop := x.check = settingsCheck x.work

/-- What every step keeps of the ranges, bounds and check words, block by block. -/
structure Safe (s t : State) : Prop where
  store    : StoreSafe s.store t.store := by simp
  list     : ListSafe s.warn.list t.warn.list := by simp
  clock    : ClockSafe s.clock t.clock := by simp
  queues   : QueuesSafe s.chime t.chime := by simp
  output   : s.port.service.output.length ≤ 4 → t.port.service.output.length ≤ 4 := by simp
  fold     : FoldSealed s.fold → FoldSealed t.fold := by simp
  limit    : LimitSealed s.warn → LimitSealed t.warn := by simp
  units    : UnitsSealed s.units → UnitsSealed t.units := by simp
  items    : ItemsSealed s.service → ItemsSealed t.service := by simp
  settings : WorkSealed s.settings → WorkSealed t.settings := by simp

@[simp] theorem StoreSafe.rfl' (r : RecordStore) : StoreSafe r r := ⟨id, id, id⟩
@[simp] theorem ListSafe.rfl' (l : List Entry) : ListSafe l l := ⟨id, id⟩
@[simp] theorem ClockSafe.rfl' (c : ClockUnit) : ClockSafe c c := ⟨id, id⟩
@[simp] theorem QueuesSafe.rfl' (c : ChimeUnit) : QueuesSafe c c := fun _ => id

theorem StoreSafe.trans {r x y : RecordStore} (h : StoreSafe r x) (k : StoreSafe x y) : StoreSafe r y :=
  ⟨k.distances ∘ h.distances, k.records ∘ h.records, k.order ∘ h.order⟩

theorem ListSafe.trans {l m n : List Entry} (h : ListSafe l m) (k : ListSafe m n) : ListSafe l n :=
  ⟨k.ordered ∘ h.ordered, k.details ∘ h.details⟩

theorem ClockSafe.trans {c x y : ClockUnit} (h : ClockSafe c x) (k : ClockSafe x y) : ClockSafe c y :=
  ⟨k.seconds ∘ h.seconds, k.alarm ∘ h.alarm⟩

theorem Safe.rfl' (s : State) : Safe s s := {}

theorem Safe.trans {s t u : State} (h : Safe s t) (k : Safe t u) : Safe s u where
  store := h.store.trans k.store
  list := h.list.trans k.list
  clock := h.clock.trans k.clock
  queues sp := k.queues sp ∘ h.queues sp
  output := k.output ∘ h.output
  fold := k.fold ∘ h.fold
  limit := k.limit ∘ h.limit
  units := k.units ∘ h.units
  items := k.items ∘ h.items
  settings := k.settings ∘ h.settings

/-- An operation under a condition is safe when it is safe in both cases. -/
theorem Safe.ite {b : Prop} [Decidable b] {s t u : State} (h : b → Safe s t) (k : ¬ b → Safe s u) :
    Safe s (if b then t else u) := by
  split_ifs with hb
  · exact h hb
  · exact k hb

/-- An operation under a condition that otherwise leaves the state as it is. -/
theorem Safe.when {b : Prop} [Decidable b] {s t : State} (h : b → Safe s t) : Safe s (if b then t else s) :=
  .ite h fun _ => .rfl' s

/-! ### Active list (R105 to R108) -/

theorem detailsPresent_map (f : Entry → Entry) (hw : ∀ e, (f e).w = e.w) (hd : ∀ e, (f e).detail.isSome = e.detail.isSome)
    {l : List Entry} (h : DetailsPresent l) : DetailsPresent (l.map f) := by
  intro e he
  obtain ⟨x, hx, rfl⟩ := List.mem_map.1 he
  rw [hw, hd]
  exact h x hx

/-- A change of each entry that keeps its definition and whether it has a detail. -/
theorem ListSafe.map (f : Entry → Entry) (hw : ∀ e, (f e).w = e.w) (hd : ∀ e, (f e).detail.isSome = e.detail.isSome)
    (l : List Entry) : ListSafe l (l.map f) :=
  ⟨map_ordered f hw, detailsPresent_map f hw hd⟩

/-- A change of the entry of one definition that keeps the definition and whether it has a detail. -/
theorem ListSafe.mapEntry (w : Fin 24) (f : Entry → Entry) (hw : ∀ e, (f e).w = e.w)
    (hd : ∀ e, (f e).detail.isSome = e.detail.isSome) (l : List Entry) : ListSafe l (mapEntry w f l) := by
  refine ListSafe.map _ (fun e => ?_) (fun e => ?_) l
  · split_ifs
    · exact hw e
    · rfl
  · split_ifs
    · exact hd e
    · rfl

theorem ListSafe.dropEntry (w : Fin 24) (l : List Entry) : ListSafe l (dropEntry w l) :=
  ⟨dropEntry_ordered w, fun h e he => h e (mem_dropEntry.1 he).1⟩

theorem ListSafe.nil (l : List Entry) : ListSafe l [] := ⟨fun _ => listOrdered_nil, fun _ _ he => nomatch he⟩

theorem detailsPresent_insertFresh (w : Fin 24) (stamp : Nat) (d : BitVec 8) {l : List Entry} (h : DetailsPresent l) :
    DetailsPresent (insertEntry (freshEntry w stamp d) l) := by
  intro e he
  rcases (mem_insertEntry _ _ _).1 he with rfl | he
  · simp only [freshEntry]
    split_ifs with hd <;> simp [hd]
  · exact h e he

theorem raiseList_safe (w : Fin 24) (add : Bool) (d : BitVec 8) (stamp : Nat) (l : List Entry) :
    ListSafe l (raiseList w add d stamp l) := by
  refine ⟨raiseList_ordered w add d stamp, fun h => ?_⟩
  unfold raiseList
  split
  · exact detailsPresent_insertFresh w stamp d h
  · split_ifs
    · exact detailsPresent_insertFresh w stamp d ((ListSafe.dropEntry w l).details h)
    · exact (ListSafe.mapEntry w (·.updateDetail add d) (fun _ => rfl) (fun _ => Option.isSome_map) l).details h

theorem releaseList_safe (w : Fin 24) (l : List Entry) : ListSafe l (releaseList w l) := by
  unfold releaseList
  split
  · exact .rfl' l
  · split_ifs
    · exact .rfl' l
    · exact ListSafe.mapEntry w Entry.clear (fun _ => rfl) (fun _ => rfl) l
    · exact ListSafe.dropEntry w l

/-- A replaced list is all that is replaced. -/
theorem withList_safe {s : State} {l : List Entry} (h : ListSafe s.warn.list l) : Safe s (s.withList l) :=
  { list := h, limit := id }

theorem raise_safe (w : Fin 24) (add : Bool) (d : BitVec 8) (s : State) : Safe s (raise w add d s) :=
  withList_safe (raiseList_safe w add d _ _)

theorem release_safe (w : Fin 24) (s : State) : Safe s (release w s) := withList_safe (releaseList_safe w _)

/-- R104: a set that is not empty without a member stands in a detail. -/
theorem detail_isSome_of_left {e : Entry} {d : BitVec 8} (h : ¬ e.detail.getD 0 &&& ~~~d = 0) : e.detail.isSome = true := by
  cases hd : e.detail with
  | none => simp [hd] at h
  | some o => rfl

theorem dropMember_safe (w : Fin 24) (d : BitVec 8) (s : State) : Safe s (dropMember w d s) := by
  unfold dropMember
  split
  · exact .rfl' s
  · rename_i e he
    dsimp only
    split_ifs with hleft
    · exact release_safe w s
    · refine withList_safe ⟨fun h => ?_, fun h x hx => ?_⟩
      · exact mapEntry_ordered w (fun x => { x with detail := some (e.detail.getD 0 &&& ~~~d) }) (fun _ => rfl) h
      · obtain ⟨hmem, rfl⟩ := findEntry_some he
        obtain ⟨y, hy, rfl⟩ := List.mem_map.1 hx
        split_ifs with hw
        · have hdef := h e hmem
          rw [detail_isSome_of_left hleft] at hdef
          simp [hw, ← hdef]
        · exact h y hy

theorem handItemSets_safe (due overdue : BitVec 8) (s : State) : Safe s (handItemSets due overdue s) := by
  have one (w : Fin 24) (d : BitVec 8) (s : State) : Safe s (if d = 0 then release w s else raise w false d s) :=
    .ite (fun _ => release_safe w s) fun _ => raise_safe w false d s
  exact (one 13 due s).trans (one 14 overdue _)

theorem remind_safe (s : State) : Safe s (remind s) :=
  withList_safe (ListSafe.map _ (fun _ => by split_ifs <;> rfl) (fun _ => by split_ifs <;> rfl) _)

theorem workLamps_safe (s : State) : Safe s (workLamps s) := {}

/-! ### Notices and replies (R172, R174, R179) -/

theorem notify_safe (l : Link) (n : Notice) (s : State) : Safe s (notify l n s) := {}

theorem notifyBoth_safe (n : Notice) (s : State) : Safe s (notifyBoth n s) :=
  (notify_safe .front n s).trans (notify_safe .rear n _)

theorem notifyBothIf_safe (b : Bool) (n : Notice) (s : State) : Safe s (notifyBothIf b n s) := .when fun _ => notifyBoth_safe n s

theorem setLink_safe (l : Link) (x : LinkState) (s : State) : Safe s (s.setLink l x) := {}

theorem withService_safe {f : ServiceLine → ServiceLine} {s : State}
    (h : s.port.service.output.length ≤ 4 → (f s.port.service).output.length ≤ 4) : Safe s (s.withService f) :=
  { output := h }

theorem serviceReply_safe (r : Reply) (s : State) : Safe s (serviceReply r s) := by
  unfold serviceReply
  refine .when fun hlen => { output := fun _ => ?_ }
  simp only [List.length_append, List.length_singleton]
  omega

theorem deliver_safe (p : Port) (r : Reply) (s : State) : Safe s (deliver p r s) := by
  cases p
  · exact setLink_safe .front _ s
  · exact setLink_safe .rear _ s
  · exact (show Safe s (s.withService fun x => { x with request := none }) from withService_safe id).trans
      (serviceReply_safe r _)

theorem holdRequest_safe (p : Port) (r : Request) (s : State) : Safe s (holdRequest p r s) := by
  cases p
  · exact setLink_safe .front _ s
  · exact setLink_safe .rear _ s
  · exact withService_safe (f := fun x => { x with request := some r }) id

theorem turnAway_safe (p : Port) (s : State) : Safe s (turnAway p s) := by
  cases p
  · exact .rfl' s
  · exact .rfl' s
  · exact serviceReply_safe _ s

theorem countViews_safe (old : List Entry) (s : State) : Safe s (countViews old s) where
  list := by rw [countViews_warn]; exact .rfl' _
  output := by rw [countViews_port]; exact id
  limit := by rw [countViews_warn]; exact id

/-! ### Chimes (chapter 7) -/

/-- A replaced chime unit is all that is replaced. -/
theorem withChime_safe {s : State} {c : ChimeUnit} (h : QueuesSafe s.chime c) : Safe s { s with chime := c } := { queues := h }

theorem withPlay_safe (sp : Speaker) (q : Option Play) (s : State) : Safe s (s.withPlay sp q) :=
  withChime_safe fun o h => by simpa using h

/-- A replaced queue that is no longer than the one it replaces. -/
theorem withQueue_safe {sp : Speaker} {q : List QueueEntry} {s : State}
    (h : (s.chime.speaker sp).queue.length ≤ 4 → q.length ≤ 4) : Safe s (s.withQueue sp q) := by
  refine withChime_safe fun o ho => ?_
  show ((s.withQueue sp q).chime.speaker o).queue.length ≤ 4
  rw [withQueue_queue]
  split_ifs with hsp
  · exact h (hsp ▸ ho)
  · exact ho

theorem setChime_detail (e : Entry) (sp : Speaker) (m : Option ChimeMark) : (e.setChime sp m).detail = e.detail := by
  cases sp <;> rfl

theorem setChime_safe (w : Fin 24) (sp : Speaker) (m : ChimeMark) (s : State) : Safe s (setChime w sp m s) :=
  withList_safe (ListSafe.mapEntry w _ (fun _ => setChime_w _ _ _) (fun _ => by rw [setChime_detail]) _)

theorem takeCandidate_safe (sp : Speaker) (c : Candidate) (s : State) : Safe s (takeCandidate sp c s) := by
  cases c
  · exact (setChime_safe _ sp _ s).trans (withPlay_safe sp _ _)
  · refine (withQueue_safe fun h => ?_).trans (withPlay_safe sp _ _)
    rwa [List.length_modify]

theorem choose_safe (sp : Speaker) (s : State) : Safe s (choose sp s) := by
  unfold choose
  split
  · exact withPlay_safe sp none s
  · exact takeCandidate_safe sp _ s

theorem chooseIfIdle_safe (sp : Speaker) (s : State) : Safe s (chooseIfIdle sp s) := by
  unfold chooseIfIdle
  split
  · exact choose_safe sp s
  · exact .rfl' s

theorem chooseBoth_safe (s : State) : Safe s (chooseBoth s) := (chooseIfIdle_safe .front s).trans (chooseIfIdle_safe .rear _)

theorem quieted_detail (e : Entry) : e.quieted.detail = e.detail := by
  unfold Entry.quieted
  split_ifs
  · exact setChime_detail e _ _
  · rfl

theorem settleQuiet_safe (s : State) : Safe s (settleQuiet s) :=
  .ite (fun _ => .rfl' s) fun _ => withList_safe (ListSafe.map _ quieted_w (fun e => by rw [quieted_detail]) _)

theorem settleChimes_safe (s : State) : Safe s (settleChimes s) := by
  unfold settleChimes
  exact .ite (fun _ => (settleQuiet_safe s).trans (chooseBoth_safe _)) fun _ => settleQuiet_safe s

theorem startChoice_safe (s : State) : Safe s (startChoice s) := .ite (fun _ => .rfl' s) fun _ => chooseBoth_safe s

theorem chimeDone_safe (p : Port) (s : State) : Safe s (chimeDone p s) := by
  cases p
  · exact notify_safe _ _ s
  · exact notify_safe _ _ s
  · exact .rfl' s

theorem chimeDoneAll_safe (q : List QueueEntry) (s : State) : Safe s (chimeDoneAll q s) :=
  Safe.trans (.when fun _ => notify_safe .front _ s) (.when fun _ => notify_safe .rear _ _)

theorem queuePassEnd_safe (sp : Speaker) (s : State) : Safe s (queuePassEnd sp s) := by
  unfold queuePassEnd
  dsimp only
  split
  · exact .rfl' s
  · have hrest : Safe s (s.withQueue sp ((s.chime.speaker sp).queue.filter fun x => !x.playing)) :=
      withQueue_safe fun h => (List.length_filter_le _ _).trans h
    split_ifs
    · exact hrest
    · exact hrest.trans (chimeDone_safe _ _)

theorem passEnd_safe (sp : Speaker) (q : Play) (s : State) : Safe s (passEnd sp q s) := by
  unfold passEnd
  split
  · split
    · exact .rfl' s
    · exact setChime_safe _ sp _ s
  · exact queuePassEnd_safe sp s

theorem giveBack_safe (sp : Speaker) (q : Play) (s : State) : Safe s (giveBack sp q s) := by
  unfold giveBack
  split
  · exact setChime_safe _ sp _ s
  · exact withQueue_safe fun h => by rwa [unmark_length]

/-- The quiet state is no part of a queue. -/
theorem withQuiet_safe (q : Quiet) (s : State) : Safe s { s with chime := { s.chime with quiet := q } } :=
  withChime_safe fun sp h => by cases sp <;> exact h

theorem quietAtBoundary_safe (sp : Speaker) (s : State) : Safe s (quietAtBoundary sp s) := .when fun _ => withQuiet_safe .on s

theorem boundary_safe (sp : Speaker) (q : Play) (s : State) : Safe s (boundary sp q s) := by
  unfold boundary
  split_ifs
  · exact (withPlay_safe sp none s).trans ((quietAtBoundary_safe sp _).trans (choose_safe sp _))
  · exact (passEnd_safe sp q s).trans ((withPlay_safe sp none _).trans ((settleQuiet_safe _).trans (choose_safe sp _)))
  · split
    · exact withPlay_safe sp _ s
    · split_ifs
      · exact (giveBack_safe sp q s).trans (takeCandidate_safe sp _ _)
      · exact withPlay_safe sp _ s

theorem suspendSpeaker_safe (sp : Speaker) (s : State) : Safe s (suspendSpeaker sp s) := by
  unfold suspendSpeaker
  split
  · exact .rfl' s
  · exact Safe.trans (.when fun _ => giveBack_safe sp _ s) (withPlay_safe sp none _)

theorem suspendChimes_safe (s : State) : Safe s (suspendChimes s) :=
  ((suspendSpeaker_safe .front s).trans (suspendSpeaker_safe .rear _)).trans (.when fun _ => withQuiet_safe .on _)

theorem parkChimes_safe (s : State) : Safe s (parkChimes s) :=
  (chimeDoneAll_safe _ s).trans (withChime_safe fun sp _ => by cases sp <;> exact Nat.zero_le 4)

/-- R126, R127: an entry is queued only where the queue is not full. -/
theorem queueShare_safe {sh : Share} {sp : Speaker} (e : QueueEntry) {s : State} (h : shareFull s sh sp = false) :
    Safe s (queueShare sh sp e s) := by
  cases sh
  · refine withQueue_safe fun _ => ?_
    rw [insertQueue_length]
    simpa [shareFull, Nat.lt_succ_iff] using h
  · exact .rfl' s
  · exact .rfl' s

theorem queueShare_other_queue (sh : Share) {sp o : Speaker} (h : o ≠ sp) (e : QueueEntry) (s : State) :
    ((queueShare sh sp e s).chime.speaker o).queue = (s.chime.speaker o).queue := by
  cases sh
  · exact (withQueue_queue sp o _ s).trans (if_neg h)
  · rfl
  · rfl

theorem queuePattern_safe (e : QueueEntry) (onFront onRear : Bool) (s : State) :
    Safe s (queuePattern e onFront onRear s).1 := by
  unfold queuePattern
  dsimp only
  split_ifs with hfull
  · exact .rfl' s
  · simp only [Bool.or_eq_true, not_or, Bool.not_eq_true] at hfull
    refine (queueShare_safe e hfull.1).trans (queueShare_safe e ?_)
    unfold shareFull at hfull ⊢
    rw [queueShare_other_queue _ (by decide)]
    exact hfull.2

/-! ### Blocks without bounds and check words -/

theorem withMeas_safe (f : Measure → Measure) (s : State) : Safe s (s.withMeas f) := {}
theorem withPower_safe (f : PowerUnit → PowerUnit) (s : State) : Safe s (s.withPower f) := {}
theorem withGauge_safe (f : GaugeUnit → GaugeUnit) (s : State) : Safe s (s.withGauge f) := {}
theorem withGauges_safe (f : Gauge → Gauge) (s : State) : Safe s (s.withGauges f) := {}
theorem withNv_safe (x : NvArray) (s : State) : Safe s { s with nv := x } := {}
theorem queueSlotWrite_safe (s : State) : Safe s (queueSlotWrite s) := withNv_safe _ s

/-- The fold engine is sealed after each change of what its check word covers. -/
theorem withFold_safe (f : FoldEngine → FoldEngine) (s : State) : Safe s (s.withFold f) := { fold := fun _ => rfl }

/-- The working copy is sealed after each change. -/
theorem withWork_safe (f : Settings → Settings) (s : State) : Safe s (s.withWork f) := { settings := fun _ => rfl }

theorem withStore_safe {f : RecordStore → RecordStore} {s : State} (h : StoreSafe s.store (f s.store)) :
    Safe s (s.withStore f) := { store := h }

theorem withClock_safe {f : ClockUnit → ClockUnit} {s : State} (h : ClockSafe s.clock (f s.clock)) :
    Safe s (s.withClock f) := { clock := h }

/-! ### Arbiter (R62) -/

/-- R62: the port that is granted moves to the back of the ring. -/
theorem order_rotate {l : List Port} (h : l.Perm [.front, .rear, .service]) (p : Port) :
    (l.filter (· != p) ++ [p]).Perm [.front, .rear, .service] := by
  refine ((h.filter (· != p)).append_right [p]).trans ?_
  cases p <;> decide

theorem arbitrate_safe (s : State) : Safe s (arbitrate s) := by
  unfold arbitrate
  split_ifs
  · split
    · exact .rfl' s
    · exact { store := ⟨id, id, fun h => order_rotate h _⟩ }
  · exact .rfl' s

/-! ### Gauges, power controller and settling -/

theorem returnRequest_safe (s : State) : Safe s (returnRequest s) := {}

theorem returnEnded_safe (s : State) : Safe s (returnEnded s) := {}

theorem endParkEntry_safe (s : State) : Safe s (endParkEntry s) := {}

theorem endDelayPark_safe (s : State) : Safe s (endDelayPark s) := {}

theorem restartDelay_safe (n : Nat) (s : State) : Safe s (restartDelay n s) := {}

theorem activity_safe (s : State) : Safe s (activity s) := {}

theorem beginPark_safe (c : ParkCause) (s : State) : Safe s (beginPark c s) := {}

theorem settlePark_safe (s : State) : Safe s (settlePark s) := {}

theorem startWrite_safe (s : State) : Safe s (startWrite s) := {}

theorem cutFlight_safe (s : State) : Safe s (cutFlight s) := {}

/-- Settling an event keeps what the event kept. -/
theorem settleFrom_safe (old : List Entry) (s : State) : Safe s (settleFrom old s) :=
  (settleChimes_safe s).trans <| (arbitrate_safe _).trans <| (settlePark_safe _).trans <| (startWrite_safe _).trans <|
    (workLamps_safe _).trans (countViews_safe old _)

theorem Safe.settle {s t : State} (h : Safe s t) (a : State) : Safe s (settle a t) := h.trans (settleFrom_safe a.warn.list t)

theorem runEntry_safe (fromAcc : Bool) (s : State) : Safe s (runEntry fromAcc s) :=
  (show Safe s { gaugesRunEntry fromAcc s with meas := _ } from {}).trans (remind_safe _)

theorem leaveRun_safe (s : State) : Safe s (leaveRun s) := {}

theorem restartSilence_safe (s : State) : Safe s (restartSilence s) := { output := id }

theorem unsilence_safe (s : State) : Safe s (unsilence s) := { output := id }

theorem enterAwake_safe (s : State) : Safe s (enterAwake s) :=
  (release_safe 23 s).trans <| (unsilence_safe _).trans (show Safe _ (startAwakeTimers _) from withPower_safe _ _)

theorem leaveAwake_safe (s : State) : Safe s (leaveAwake s) :=
  (withPower_safe _ s).trans <| (endParkEntry_safe _).trans (restartSilence_safe _)

theorem setPower_safe (s : State) : Safe s (setPower s) := by
  unfold setPower
  refine .ite (fun _ => .rfl' s) fun _ => ?_
  exact (withPower_safe _ s).trans <| (Safe.when fun _ => leaveRun_safe _).trans <|
    (Safe.when fun _ => leaveAwake_safe _).trans <| (Safe.when fun _ => enterAwake_safe _).trans <|
    Safe.when fun _ => runEntry_safe _ _

theorem choosePower_safe (s : State) : Safe s (choosePower s) := by
  unfold choosePower
  dsimp only
  split
  · exact (withPower_safe _ s).trans (runEntry_safe false _)
  · exact withPower_safe _ s
  · exact (withPower_safe _ s).trans (withPower_safe _ _)
  · exact withPower_safe _ s

theorem fireSource_safe (w : WakeSource) (s : State) : Safe s (fireSource w s) := {}

end Sys2Proof.Proofs.StepSafety

/-! PROOFS. What the blocks' commands and events do to the bounded and the sealed parts of the state: records, service items,
fold, clock, resets and ports are `Safe`. -/

namespace Sys2Proof.Proofs.BlockSafety

open Sys2Proof Sys2Proof.Machine Sys2Proof.Proofs.StepSafety

/-! ### Records (chapter 4) -/

theorem mod_odo_lt (n : Nat) : n % odoModulus < odoModulus := Nat.mod_lt n (show 0 < 1000000000 by decide)

theorem mod_clock_lt (n : Nat) : n % clockModulus < clockModulus := Nat.mod_lt n (show 0 < 4294967296 by decide)

/-- A sealed trip in range is stored. -/
theorem setTrip_safe {r : RecordStore} {k : TripNo} {x : TripBody}
    (h : (r.trip k).body.distance < odoModulus → x.distance < odoModulus) : StoreSafe r (r.setTrip k (x.seal k.toNat)) := by
  refine ⟨fun ⟨ho, ha, hb, hp, hc⟩ => ?_, fun ⟨ho, ha, hb, hp, hc⟩ => ?_, fun ho => by rwa [setTrip_order]⟩
  · cases k
    · exact ⟨ho, h ha, hb, hp, hc⟩
    · exact ⟨ho, ha, h hb, hp, hc⟩
    · exact ⟨ho, ha, hb, h hp, hc⟩
  · cases k
    · exact ⟨ho, rfl, hb, hp, hc⟩
    · exact ⟨ho, ha, rfl, hp, hc⟩
    · exact ⟨ho, ha, hb, rfl, hc⟩

/-- A sealed charter in range is stored. -/
theorem setCharter_safe {r : RecordStore} {c : Charter}
    (h : r.charter.body.distance < odoModulus → c.body.distance < odoModulus) : StoreSafe r { r with charter := c.seal } :=
  ⟨fun ⟨ho, ha, hb, hp, hc⟩ => ⟨ho, ha, hb, hp, h hc⟩, fun ⟨ho, ha, hb, hp, _⟩ => ⟨ho, ha, hb, hp, rfl⟩, id⟩

/-- A sealed odometer in range is stored. -/
theorem setOdo_safe {r : RecordStore} {o : Odo} (h : r.odo.distance < odoModulus → o.distance < odoModulus) :
    StoreSafe r { r with odo := o.seal } :=
  ⟨fun ⟨ho, ha, hb, hp, hc⟩ => ⟨h ho, ha, hb, hp, hc⟩, fun ⟨_, ha, hb, hp, hc⟩ => ⟨rfl, ha, hb, hp, hc⟩, id⟩

/-- The three trips start anew. -/
theorem clearTrips_safe {r : RecordStore} {body : TripBody} (h : body.distance = 0) :
    StoreSafe r { r with a := body.seal 1, b := body.seal 2, p := body.seal 3 } := by
  have hlt : body.distance < odoModulus := by rw [h]; decide
  exact ⟨fun ⟨ho, _, _, _, hc⟩ => ⟨ho, hlt, hlt, hlt, hc⟩, fun ⟨ho, _, _, _, hc⟩ => ⟨ho, rfl, rfl, rfl, hc⟩, id⟩

theorem verifyTrip_safe (k : TripNo) (s : State) : Safe s (verifyTrip k s) := by
  unfold verifyTrip
  exact .when fun _ =>
    (withStore_safe (setTrip_safe (x := { (s.store.trip k).body with damaged := true }) id)).trans (raise_safe 16 true _ _)

theorem verifyCharter_safe (s : State) : Safe s (verifyCharter s) := by
  unfold verifyCharter
  refine .when fun _ => ?_
  refine ((withStore_safe (setCharter_safe ?_)).trans (notifyBothIf_safe _ _ _)).trans (raise_safe 16 true _ _)
  split_ifs
  · exact id
  · exact id

theorem highestSeq_mem : ∀ {l : List (Slot × Nat)} {q : Slot × Nat}, highestSeq l = some q → q ∈ l
  | x :: xs, q, h => by
    unfold highestSeq at h
    split at h
    · cases h
      exact List.mem_cons_self
    · rename_i r hr
      split_ifs at h <;> cases h
      · exact List.mem_cons_of_mem x (highestSeq_mem hr)
      · exact List.mem_cons_self

/-- R80: the newest slot is one of the valid slots. -/
theorem newestSlot_mem {slots : Vector Slot 32} {q : Slot × Nat} (h : newestSlot slots = some q) : q ∈ validSlots slots := by
  unfold newestSlot at h
  dsimp only at h
  split at h
  · rename_i hfind
    cases h
    exact List.mem_of_find?_eq_some hfind
  · exact highestSeq_mem h

/-- R80: a valid slot's distance is at most 9,999,999 hectometres. -/
theorem newestSlot_distance {slots : Vector Slot 32} {q : Slot × Nat} (h : newestSlot slots = some q) :
    q.1.distance * 100 < odoModulus := by
  have hvalid : slotValid q.2 q.1 = true := (List.mem_filter.1 (newestSlot_mem h)).2
  simp only [slotValid, Bool.and_eq_true, decide_eq_true_eq] at hvalid
  have hle := hvalid.2
  unfold odoModulus
  omega

/-- R77: the distance that a reload gives ODO. -/
def reloadedDistance (slots : Vector Slot 32) : Nat :=
  match newestSlot slots with
  | none => 0
  | some q => q.1.distance * 100

theorem reloadedDistance_lt (slots : Vector Slot 32) : reloadedDistance slots < odoModulus := by
  unfold reloadedDistance
  split
  · decide
  · exact newestSlot_distance ‹_›

/-- R77: the records that a reload leaves. -/
def reloadStore (slots : Vector Slot 32) (now : Nat) (r : RecordStore) : RecordStore :=
  let body := clearedBody now (reloadedDistance slots) true
  { r with
    odo := Odo.seal ⟨reloadedDistance slots, true, false, false, 0⟩
    a := body.seal 1
    b := body.seal 2
    p := body.seal 3
    charter := if r.charter.phase = .running then Charter.seal ⟨body, .vacant, none, false, false, 0⟩ else r.charter }

theorem reloadOdo_eq (s : State) :
    reloadOdo s = raise 16 true (member 0) (notifyBothIf (decide (s.store.charter.phase = .running)) .charter
      (s.withStore (reloadStore s.nv.slots s.clock.seconds))) := by
  simp only [reloadOdo, reloadStore, reloadedDistance, State.withStore, decide_eq_true_eq] <;> rfl

theorem reloadStore_safe (slots : Vector Slot 32) (now : Nat) (r : RecordStore) : StoreSafe r (reloadStore slots now r) := by
  have hzero : (0 : Nat) < odoModulus := by decide
  refine ⟨fun ⟨_, _, _, _, hc⟩ => ⟨reloadedDistance_lt slots, hzero, hzero, hzero, ?_⟩,
    fun ⟨_, _, _, _, hc⟩ => ⟨rfl, rfl, rfl, rfl, ?_⟩, id⟩
  · unfold reloadStore
    dsimp only
    split_ifs
    · exact hzero
    · exact hc
  · unfold reloadStore
    dsimp only
    split_ifs
    · rfl
    · exact hc

theorem reloadOdo_safe (s : State) : Safe s (reloadOdo s) := by
  rw [reloadOdo_eq]
  exact (withStore_safe (reloadStore_safe _ _ _)).trans <| (notifyBothIf_safe _ _ _).trans (raise_safe 16 true _ _)

theorem verifyOdo_safe (s : State) : Safe s (verifyOdo s) := .when fun _ => reloadOdo_safe s

theorem verifyRecord_safe (r : RecordNo) (s : State) : Safe s (verifyRecord r s) := by
  cases r
  · exact verifyOdo_safe s
  · exact verifyTrip_safe .a s
  · exact verifyTrip_safe .b s
  · exact verifyTrip_safe .p s
  · exact verifyCharter_safe s

theorem verifyAll_safe (s : State) : Safe s (verifyAll s) :=
  (verifyOdo_safe s).trans <| (verifyTrip_safe .a _).trans <| (verifyTrip_safe .b _).trans <|
    (verifyTrip_safe .p _).trans (verifyCharter_safe _)

theorem foldTrip_safe (metres ml run mov : Nat) (k : TripNo) (s : State) : Safe s (foldTrip metres ml run mov k s) := by
  unfold foldTrip
  exact .ite (fun _ => verifyTrip_safe k s) fun _ =>
    (verifyTrip_safe k s).trans (withStore_safe (setTrip_safe fun _ => mod_odo_lt _))

theorem foldCharter_safe (metres ml run mov : Nat) (s : State) : Safe s (foldCharter metres ml run mov s) := by
  unfold foldCharter
  refine .when fun _ => .ite (fun _ => ?_) fun _ => verifyCharter_safe s
  exact (verifyCharter_safe s).trans (withStore_safe (setCharter_safe fun _ => mod_odo_lt _))

theorem foldOdo_safe (metres : Nat) (s : State) : Safe s (foldOdo metres s) := by
  have hodo (o : Odo) (u : State) : Safe u (u.withStore fun r => { r with odo := Odo.seal { o with
      distance := (o.distance + metres) % odoModulus
      allowanceOpen := o.allowanceOpen && decide ((o.distance + metres) % odoModulus < 100000) } }) :=
    withStore_safe (setOdo_safe fun _ => mod_odo_lt _)
  unfold foldOdo
  exact .ite (fun _ => ((verifyOdo_safe s).trans (hodo _ _)).trans (queueSlotWrite_safe _)) fun _ =>
    (verifyOdo_safe s).trans (hodo _ _)

theorem foldRecords_safe (metres ml run mov : Nat) (s : State) : Safe s (foldRecords metres ml run mov s) :=
  (foldOdo_safe metres s).trans <| (foldTrip_safe metres ml run mov .a _).trans <|
    (foldTrip_safe metres ml run mov .b _).trans <| (foldTrip_safe metres ml run mov .p _).trans
    (foldCharter_safe metres ml run mov _)

theorem markTrip_safe (m : HeldMarks) (k : TripNo) (r : RecordStore) : StoreSafe r (markTrip m k r) := by
  unfold markTrip
  dsimp only
  split_ifs
  · exact .rfl' r
  · exact setTrip_safe id

theorem markCharter_safe (m : HeldMarks) (r : RecordStore) : StoreSafe r (markCharter m r) := by
  unfold markCharter
  split_ifs
  · exact setCharter_safe id
  · exact .rfl' r

theorem applyMarks_safe (m : HeldMarks) (s : State) : Safe s (applyMarks m s) :=
  withStore_safe <| (markTrip_safe m .a _).trans <| (markTrip_safe m .b _).trans <| (markTrip_safe m .p _).trans
    (markCharter_safe m _)

/-- The held marks are no part of a record. -/
theorem withHeld_safe (f : RecordStore → HeldMarks) (s : State) : Safe s (s.withStore fun r => { r with held := f r }) :=
  withStore_safe ⟨id, id, id⟩

theorem handMarks_safe (m : HeldMarks) (s : State) : Safe s (handMarks m s) :=
  .ite (fun _ => withHeld_safe _ s) fun _ => applyMarks_safe m s

theorem putCharter_safe {c : Charter} {s : State}
    (h : s.store.charter.body.distance < odoModulus → c.body.distance < odoModulus) : Safe s (putCharter c s) :=
  (withStore_safe (setCharter_safe h)).trans (notifyBoth_safe _ _)

/-! ### Service items (chapter 8) -/

theorem storeItems_safe (old new : Vector Item 8) (s : State) : Safe s (storeItems old new s) :=
  (show Safe s { s with service := sealItems new } from { items := fun _ => rfl }).trans (notifyBothIf_safe _ _ _)

theorem evaluateFrom_safe (old items : Vector Item 8) (s : State) : Safe s (evaluateFrom old items s) :=
  (storeItems_safe old _ s).trans (handItemSets_safe _ _ _)

theorem evaluate_safe (s : State) : Safe s (evaluate s) := evaluateFrom_safe _ _ s

theorem resetItem_safe (k : Fin 8) (s : State) : Safe s (resetItem k s) :=
  (evaluateFrom_safe _ _ s).trans (notifyBoth_safe _ _)

theorem installItem_safe (k : Fin 8) (d : ItemDef) (s : State) : Safe s (installItem k d s) :=
  (withWork_safe _ s).trans <| (evaluateFrom_safe _ _ _).trans (notifyBoth_safe _ _)

/-! ### Fold (chapter 3) -/

theorem performFold_safe (s : State) : Safe s (performFold s) :=
  (foldRecords_safe _ _ _ _ s).trans <| (show Safe _ (deliverItems _ _ _ _ _) from evaluateFrom_safe _ _ _).trans
    (withFold_safe _ _)

/-- What the fold check word does not cover. -/
theorem withFoldBare_safe {f : FoldEngine → FoldEngine} {s : State} (h : FoldSealed s.fold → FoldSealed (f s.fold)) :
    Safe s (s.withFoldBare f) := { fold := h }

theorem withFold_sealed (f : FoldEngine → FoldEngine) (s : State) : FoldSealed (s.withFold f).fold := rfl

/-- What begins with a fold engine of its own and ends with a sealed one. -/
theorem safe_of_withFoldBare {f : FoldEngine → FoldEngine} {s t : State} (h : Safe (s.withFoldBare f) t)
    (ht : FoldSealed t.fold) : Safe s t :=
  ⟨h.store, h.list, h.clock, h.queues, h.output, fun _ => ht, h.limit, h.units, h.items, h.settings⟩

/-- R46: what the grant found stands in for the buffer while the command's fold is made, and the fold engine is sealed at its
end. -/
theorem commandFold_safe (s : State) : Safe s (commandFold s) := by
  unfold commandFold
  split
  · exact performFold_safe s
  · exact safe_of_withFoldBare ((performFold_safe _).trans (withFold_safe _ _)) (withFold_sealed _ _)

theorem clampTank_safe (s : State) : Safe s (clampTank s) := .when fun _ => withFold_safe _ s

theorem fastWindowEnd_safe (s : State) : Safe s (fastWindowEnd s) :=
  .ite (fun _ => .rfl' s) fun _ => .when fun _ => (withFold_safe _ s).trans (notifyBoth_safe _ _)

theorem foldExpiry_safe (s : State) : Safe s (foldExpiry s) :=
  (show Safe s (countSince s) from withStore_safe ⟨id, id, id⟩).trans (withFold_safe _ _)

theorem correctTank_safe (s : State) : Safe s (correctTank s) := by
  unfold correctTank
  exact .when fun _ => withFold_safe _ s

theorem installCal_safe (c : CalConstant) (v : Nat) (s : State) : Safe s (installCal c v s) := by
  cases c
  · exact (withFold_safe (fun f => { f with rd := 0 }) s).trans (withWork_safe (fun w => { w with kr := v }) _)
  · exact (withFold_safe (fun f => { f with rf := 0 }) s).trans (withWork_safe (fun w => { w with kf := v }) _)

/-! ### Clock unit and supervisor (chapter 9) -/

theorem storeAlarm_safe (a : Option Nat) (s : State) : Safe s (storeAlarm a s) := withClock_safe ⟨id, fun _ => rfl⟩

theorem alarmEndsPark_safe (s : State) : Safe s (alarmEndsPark s) :=
  .when fun _ => (restartDelay_safe _ s).trans (endParkEntry_safe _)

theorem alarmRings_safe (s : State) : Safe s (alarmRings s) :=
  .ite (fun _ => (raise_safe 20 false 0 s).trans (alarmEndsPark_safe _)) fun _ =>
    (withClock_safe ⟨id, id⟩).trans (fireSource_safe .alarm _)

theorem checkAlarm_safe (s : State) : Safe s (checkAlarm s) := by
  unfold checkAlarm
  split
  · exact .rfl' s
  · exact .when fun _ => (storeAlarm_safe none s).trans <| (notifyBoth_safe _ _).trans (alarmRings_safe _)

theorem tickSecond_safe (s : State) : Safe s (tickSecond s) := withClock_safe ⟨fun _ => mod_clock_lt _, id⟩

theorem dayChange_safe (old : Nat) (s : State) : Safe s (dayChange old s) := .when fun _ => evaluate_safe s

theorem verifyShifted_safe (s : State) : Safe s (verifyShifted s) := by
  have htrips : Safe s (verifyTrip .p (verifyTrip .b (verifyTrip .a s))) :=
    (verifyTrip_safe .a s).trans <| (verifyTrip_safe .b _).trans (verifyTrip_safe .p _)
  unfold verifyShifted
  exact htrips.trans (.when fun _ => verifyCharter_safe _)

theorem shiftTrip_safe (delta : Nat) (k : TripNo) (r : RecordStore) : StoreSafe r (shiftTrip delta k r) := by
  unfold shiftTrip
  dsimp only
  split_ifs
  · exact .rfl' r
  · exact setTrip_safe id

theorem shiftCharter_safe (delta : Nat) (r : RecordStore) : StoreSafe r (shiftCharter delta r) := by
  unfold shiftCharter
  split_ifs
  · exact setCharter_safe id
  · exact .rfl' r

theorem shiftStamps_safe (delta : Nat) (s : State) : Safe s (shiftStamps delta s) :=
  withStore_safe <| (shiftTrip_safe delta .a _).trans <| (shiftTrip_safe delta .b _).trans <|
    (shiftTrip_safe delta .p _).trans (shiftCharter_safe delta _)

theorem handClockSet_safe (s : State) : Safe s (handClockSet s) :=
  .ite (fun _ => (withClock_safe ⟨id, id⟩).trans (show Safe _ (firstSet _) from evaluateFrom_safe _ _ _)) fun _ => evaluate_safe s

theorem doSetClock_safe {n : Nat} (hn : n < clockModulus) (s : State) : Safe s (doSetClock n s) :=
  (shiftStamps_safe _ s).trans <| (show Safe _ (writeCounter n _) from withClock_safe ⟨fun _ => hn, id⟩).trans <|
    (handClockSet_safe _).trans <| (checkAlarm_safe _).trans (notifyBoth_safe _ _)

theorem doTrimClock_safe (n : Int) (s : State) : Safe s (doTrimClock n s) := by
  unfold doTrimClock
  exact (shiftStamps_safe _ s).trans <| (withClock_safe ⟨fun _ => mod_clock_lt _, id⟩).trans <|
    (evaluate_safe _).trans <| (checkAlarm_safe _).trans (notifyBoth_safe _ _)

theorem handDegraded_safe (s : State) : Safe s (handDegraded s) :=
  .ite (fun _ => (raise_safe 17 false 0 s).trans (handMarks_safe _ _)) fun _ =>
    (withClock_safe ⟨id, id⟩).trans (withHeld_safe _ _)

theorem dropDegraded_safe (s : State) : Safe s (dropDegraded s) :=
  .ite (fun _ => release_safe 17 s) fun _ => withClock_safe ⟨id, id⟩

theorem faultStart_safe (s : State) : Safe s (faultStart s) := by
  have hclock : Safe s { s with
      clock := { s.clock with mainFault := true, mainGood := 0, calib := none }
      meas := { s.meas with residue := 0 } } := { clock := ⟨id, id⟩ }
  exact hclock.trans <| (suspendChimes_safe _).trans <| (handMarks_safe _ _).trans (notifyBoth_safe _ _)

theorem faultEnd_safe (s : State) : Safe s (faultEnd s) := by
  have hclock : Safe s { s with
      clock := { s.clock with mainFault := false, mainGap := 0 }
      timers := s.timers.afterFault
      gauge := { s.gauge with frameOnRc := true }
      meas := { s.meas with road := s.meas.road.afterFault, engine := s.meas.engine.afterFault } } := { clock := ⟨id, id⟩ }
  exact hclock.trans (notifyBoth_safe _ _)

end Sys2Proof.Proofs.BlockSafety

/-! PROOFS. Every step is `Safe`: the resets, the commands with their replies, the ports, time, and the four obligations about
ranges, bounds, the active list and the check words. -/

namespace Sys2Proof.Proofs.StepInvariants

open Sys2Proof Sys2Proof.Machine Sys2Proof.Proofs.StepSafety Sys2Proof.Proofs.BlockSafety

/-! ### Resets -/

theorem startFault_safe (i : StartInputs) (s : State) : Safe s (startFault i s) :=
  (withClock_safe ⟨id, id⟩).trans (notifyBothIf_safe _ _ _)

/-- The mark of a working copy of built-in values is under no check word. -/
theorem withDefaulted_safe (s : State) : Safe s { s with settings := { s.settings with defaulted := true } } :=
  { settings := id }

theorem reloadSettings_safe (s : State) : Safe s (reloadSettings s) := by
  unfold reloadSettings
  split
  · exact (withWork_safe _ s).trans (notifyBoth_safe _ _)
  · exact ((withWork_safe (fun _ => .builtIn) s).trans (withDefaulted_safe _)).trans (notifyBoth_safe _ _)

theorem checkSettings_safe (s : State) : Safe s (checkSettings s) := .ite (fun _ => .rfl' s) fun _ => reloadSettings_safe s

theorem checkFold_safe (s : State) : Safe s (checkFold s) :=
  .ite (fun _ => withFoldBare_safe id) fun _ =>
    (show Safe s { s with fold := emptyFold true } from { fold := fun _ => rfl }).trans (notifyBoth_safe _ _)

theorem reloadFold_safe (old : Settings) (s : State) : Safe s (reloadFold old s) :=
  (withFold_safe _ s).trans (clampTank_safe _)

/-- A service table is sealed when it is stored. -/
theorem withItems_safe (items : Vector Item 8) (s : State) : Safe s { s with service := sealItems items } :=
  { items := fun _ => rfl }

theorem checkItems_safe (s : State) : Safe s (checkItems s) :=
  .ite (fun _ => .rfl' s) fun _ => (withItems_safe _ s).trans (notifyBoth_safe _ _)

theorem checkTables_safe (old : Settings) (reloaded : Bool) (s : State) : Safe s (checkTables old reloaded s) := by
  have hchecks : Safe s (checkItems (checkFold s)) := (checkFold_safe s).trans (checkItems_safe _)
  unfold checkTables
  exact hchecks.trans (.when fun _ => (reloadFold_safe old _).trans (withItems_safe _ _))

theorem checkUnits_safe (s : State) : Safe s (checkUnits s) :=
  .ite (fun _ => .rfl' s) fun _ =>
    (show Safe s { s with units := ⟨0, 0, unitCheck 0 0⟩ } from { units := fun _ => rfl }).trans (notifyBoth_safe _ _)

theorem storeLimit_safe (n : Nat) (s : State) : Safe s (storeLimit n s) := by
  unfold storeLimit
  exact { limit := fun _ => rfl }

theorem checkLimit_safe (s : State) : Safe s (checkLimit s) :=
  .ite (fun _ => .rfl' s) fun _ => (storeLimit_safe 0 s).trans (notifyBoth_safe _ _)

theorem checkAlarmWord_safe (s : State) : Safe s (checkAlarmWord s) :=
  .ite (fun _ => .rfl' s) fun _ => (storeAlarm_safe none s).trans (notifyBoth_safe _ _)

theorem raiseAtStart_safe (b : Bool) (w : Fin 24) (add : Bool) (d : BitVec 8) (s : State) :
    Safe s (raiseAtStart b w add d s) := .when fun _ => (raise_safe w add d s).trans (startChoice_safe _)

theorem startItems_safe (s : State) : Safe s (startItems s) :=
  (storeItems_safe _ _ s).trans <| (raiseAtStart_safe _ _ _ _ _).trans (raiseAtStart_safe _ _ _ _ _)

theorem handRecords_safe (rs : List Nat) (s : State) : Safe s (handRecords rs s) := by
  unfold handRecords
  induction rs generalizing s with
  | nil => exact .rfl' s
  | cons k ks ih => exact (raiseAtStart_safe true 16 true (member k) s).trans (ih _)

theorem startMarks_safe (m : HeldMarks) (s : State) : Safe s (startMarks m s) :=
  (applyMarks_safe m s).trans (withHeld_safe _ _)

theorem startBlocks_safe (i : StartInputs) (s : State) : Safe s (startBlocks i s) where
  store := ⟨id, id, fun _ => List.Perm.refl _⟩
  list := ListSafe.nil _
  clock := ⟨id, id⟩
  queues sp _ := by cases sp <;> exact Nat.zero_le 4
  output _ := Nat.zero_le 4
  fold := id
  limit := id
  units := id
  items := id
  settings := id

theorem restartBlocks_safe (i : StartInputs) (marks : HeldMarks) (s : State) : Safe s (restartBlocks i marks s) :=
  (checkSettings_safe s).trans <| (checkTables_safe _ _ _).trans <| (verifyAll_safe _).trans <|
    (startMarks_safe _ _).trans <| (checkUnits_safe _).trans <| (checkLimit_safe _).trans <|
    (checkAlarmWord_safe _).trans <| (startBlocks_safe i _).trans <| (startItems_safe _).trans (handRecords_safe _ _)

theorem restartNotices_safe (s : State) : Safe s (restartNotices s) := by
  unfold restartNotices
  exact { output := id }

theorem dropWrites_safe (s : State) : Safe s (dropWrites s) := by
  unfold dropWrites
  exact {}

theorem coldOdo_distance (slots : Vector Slot 32) : (coldOdo slots).distance < odoModulus := by
  unfold coldOdo
  split
  · decide
  · exact newestSlot_distance ‹_›

theorem coldOdo_sealed (slots : Vector Slot 32) : (coldOdo slots).check = odoCheck (coldOdo slots) := by
  unfold coldOdo
  split
  · rfl
  · rfl

theorem coldStore_safe (slots : Vector Slot 32) (r : RecordStore) : StoreSafe r (coldStore slots) := by
  have hzero : (0 : Nat) < odoModulus := by decide
  exact ⟨fun _ => ⟨coldOdo_distance slots, hzero, hzero, hzero, hzero⟩, fun _ => ⟨coldOdo_sealed slots, rfl, rfl, rfl, rfl⟩,
    fun _ => List.Perm.refl _⟩

theorem coldSettings_sealed (nv : NvArray) : WorkSealed (coldSettings nv) := by
  unfold coldSettings
  split
  · rfl
  · rfl

theorem coldRetention_safe (s : State) : Safe s (coldRetention s) where
  store := coldStore_safe _ _
  clock := ⟨fun _ => show 0 < 4294967296 by decide, fun _ => rfl⟩
  fold _ := rfl
  limit _ := rfl
  queues _ := id
  output := id
  list := .rfl' _
  units _ := rfl
  items _ := rfl
  settings _ := coldSettings_sealed s.nv

theorem coldStart_safe (i : StartInputs) (s : State) : Safe s (coldStart i s) :=
  (cutFlight_safe s).trans <| (dropWrites_safe _).trans <| (restartNotices_safe _).trans <| (coldRetention_safe _).trans <|
    (startFault_safe i _).trans <| (startMarks_safe _ _).trans <| (startBlocks_safe i _).trans <|
    (startItems_safe _).trans (choosePower_safe _)

theorem failCommit_safe (s : State) : Safe s (failCommit s) := .when fun _ => { settings := id }

theorem restartHeld_safe (s : State) : Safe s (restartHeld s) := by
  unfold restartHeld
  exact { clock := ⟨id, id⟩ }

theorem rescan_safe (s : State) : Safe s (rescan s) := withStore_safe ⟨id, id, id⟩

theorem restart_safe (i : StartInputs) (s : State) : Safe s (restart i s) :=
  (cutFlight_safe s).trans <| (dropWrites_safe _).trans <| (restartNotices_safe _).trans <| (restartHeld_safe _).trans <|
    (failCommit_safe _).trans <| (rescan_safe _).trans <| (startFault_safe i _).trans <|
    (restartBlocks_safe i _ _).trans <| (raiseAtStart_safe _ _ _ _ _).trans (choosePower_safe _)

theorem wakeHandoffs_safe (s : State) : Safe s (wakeHandoffs s) :=
  (raiseAtStart_safe _ _ _ _ s).trans <| (raiseAtStart_safe _ _ _ _ _).trans <| (raiseAtStart_safe _ _ _ _ _).trans
    (withClock_safe (f := fun c => { c with heldW17 := false, alarmRang := false }) ⟨id, id⟩)

theorem wake_safe (i : StartInputs) (s : State) : Safe s (wake i s) :=
  (withPower_safe _ s).trans <| (startFault_safe i _).trans <| (restartBlocks_safe i _ _).trans <|
    (wakeHandoffs_safe _).trans <| (choosePower_safe _).trans (notifyBoth_safe _ _)

/-! ### Measurement events -/

theorem countPulse_safe (s : State) : Safe s (countPulse s) := .when fun _ => withFold_safe _ s

theorem countTick_safe (s : State) : Safe s (countTick s) := .when fun _ => withFold_safe _ s

theorem handChannel_safe (old new : Vector Channel 6) (s : State) (i : Fin 6) : Safe s (handChannel old new s i) := by
  unfold handChannel
  exact .ite (fun _ => raise_safe 15 true _ s) fun _ => .when fun _ => dropMember_safe 15 _ s

/-- An operation that each member of a list makes in turn is safe when it is for one member. -/
theorem foldl_safe {α : Type} {f : State → α → State} (h : ∀ s a, Safe s (f s a)) (l : List α) (s : State) :
    Safe s (l.foldl f s) := by
  induction l generalizing s with
  | nil => exact .rfl' s
  | cons a as ih => exact (h s a).trans (ih _)

theorem countFast_safe (s : State) : Safe s (countFast s) := by
  unfold countFast
  split
  · exact .rfl' s
  · exact .ite (fun _ => .rfl' s) fun _ => .ite (fun _ => withMeas_safe _ s) fun _ =>
      (withMeas_safe _ s).trans (fastWindowEnd_safe _)

theorem analogScan_safe (samples : Vector Byte 6) (s : State) : Safe s (analogScan samples s) :=
  (withMeas_safe _ s).trans <| (foldl_safe (handChannel_safe _ _) _ _).trans (countFast_safe _)

theorem switchEvent_safe (s : State) (i : Fin 16) : Safe s (switchEvent s i) := by
  unfold switchEvent
  exact (Safe.when fun _ => setPower_safe s).trans <| (activity_safe _).trans <|
    (Safe.when fun _ => raise_safe 19 false 0 _).trans (.when fun _ => withFoldBare_safe id)

theorem switchScan_safe (lines : BitVec 16) (s : State) : Safe s (switchScan lines s) :=
  (withMeas_safe _ s).trans (foldl_safe switchEvent_safe _ _)

/-! ### Other events -/

theorem slotWritten_safe (s : State) : Safe s (slotWritten s) := by
  unfold slotWritten
  split
  · exact { store := ⟨id, id, id⟩ }
  · exact .rfl' s
  · exact .rfl' s

/-- The array and the ownership of a write are under no bound; the store of the settings keeps its check word. -/
theorem withNvSettings_safe {s : State} (x : NvArray) (y : SettingsStore) (h : WorkSealed s.settings → WorkSealed y) (o : Own) :
    Safe s { s with nv := x, settings := y, own := o } := { settings := h }

theorem commitWritten_safe (agrees : Bool) (s : State) : Safe s (commitWritten agrees s) := by
  unfold commitWritten
  split
  · split_ifs
    · refine Safe.trans ?_ (notifyBoth_safe _ _)
      refine withNvSettings_safe _ _ ?_ _
      exact id
    · refine Safe.trans ?_ (notifyBoth_safe _ _)
      refine withNvSettings_safe _ _ ?_ _
      exact id
    · refine Safe.trans ?_ (notifyBoth_safe _ _)
      refine withNvSettings_safe _ _ ?_ _
      exact id
  · exact .rfl' s
  · exact .rfl' s

theorem limitOut_safe (s : State) : Safe s (limitOut s) := by
  unfold limitOut
  dsimp only
  split
  · exact (withPower_safe _ s).trans (beginPark_safe .limit _)
  · exact (withPower_safe _ s).trans (withPower_safe _ _)

theorem enterParked_safe (raw : BitVec 16) (s : State) : Safe s (enterParked raw s) := by
  refine (parkChimes_safe s).trans ?_
  unfold enterParked
  exact { list := ListSafe.nil _, clock := ⟨id, id⟩, output := fun _ => Nat.zero_le 4, fold := id, limit := id }

theorem setCounts_safe (w : Fin 24) (q r : Nat) (s : State) : Safe s (setCounts w q r s) := by
  unfold setCounts
  exact { limit := id }

theorem sampleOne_safe (s : State) (w : Fin 24) : Safe s (sampleOne s w) := by
  unfold sampleOne
  split
  · exact .rfl' s
  · split_ifs
    · exact (setCounts_safe w _ _ s).trans (release_safe w _)
    · exact (setCounts_safe w _ _ s).trans (.when fun _ => raise_safe w _ _ _)
    · exact (setCounts_safe w _ _ s).trans (.when fun _ => release_safe w _)
    · exact setCounts_safe w _ _ s

theorem stepCounters_safe (s : State) : Safe s (stepCounters s) := by
  unfold stepCounters
  exact { limit := id }

theorem sampleAll_safe (s : State) : Safe s (sampleAll s) :=
  (stepCounters_safe s).trans (foldl_safe sampleOne_safe _ _)

theorem repeatEnd_safe (w : Fin 24) (sp : Speaker) (s : State) : Safe s (repeatEnd w sp s) := by
  unfold repeatEnd
  split
  · exact .rfl' s
  · exact .when fun _ => setChime_safe w sp _ s

/-! ### Commands answered at once -/

/-- What an answer does before its reply is handed on. -/
theorem answerAtOnce_safe {f : State → Answer} {s : State} (p : Port) (h : Safe s (f s).1) :
    Safe s (answerAtOnce p f s) := by
  unfold answerAtOnce
  refine .when fun _ => ?_
  split
  · exact h.trans (deliver_safe p _ _)
  · cases p
    · exact .rfl' s
    · exact .rfl' s
    · exact serviceReply_safe _ s

/-- An answer under a condition is safe when both answers are. -/
theorem fst_ite {b : Prop} [Decidable b] {s : State} {x y : Answer} (h : Safe s x.1) (k : Safe s y.1) :
    Safe s (if b then x else y).1 := by
  split_ifs
  · exact h
  · exact k

theorem putManual_safe (g : Fin 6) (angle : Nat) (s : State) : Safe s (putManual g angle s) := by
  unfold putManual setGauge
  exact (withGauge_safe _ s).trans (withGauge_safe _ _)

theorem releaseOneManual_safe (g : Fin 6) (s : State) : Safe s (releaseOneManual g s) := by
  unfold releaseOneManual setGauge
  exact (withGauge_safe _ s).trans (withGauge_safe _ _)

theorem gaugeSet_safe (p : Port) (gauge : Byte) (angle : BitVec 16) (s : State) : Safe s (gaugeSet p gauge angle s).1 := by
  unfold gaugeSet
  dsimp only
  split_ifs
  · exact .rfl' s
  · exact .rfl' s
  · exact .rfl' s
  · exact putManual_safe _ _ s
  · exact .rfl' s

theorem gaugeRelease_safe (p : Port) (gauge : Byte) (s : State) : Safe s (gaugeRelease p gauge s).1 := by
  unfold gaugeRelease
  dsimp only
  split_ifs
  · exact .rfl' s
  · exact .rfl' s
  · exact .rfl' s
  · exact .rfl' s
  · exact releaseOneManual_safe _ s
  · exact .rfl' s
  · exact {}

theorem readFold_safe (p : Port) (page : Byte) (s : State) : Safe s (readFold p page s).1 := .when fun _ => withFold_safe _ s

theorem queueCommit_safe (s : State) : Safe s (queueCommit s) := by
  unfold queueCommit
  exact { settings := id }

theorem commitSettings_safe (p : Port) (s : State) : Safe s (commitSettings p s).1 := by
  unfold commitSettings
  split_ifs
  · exact .rfl' s
  · exact .rfl' s
  · exact .rfl' s
  · exact .rfl' s
  · exact queueCommit_safe s

theorem setStaging_safe (g : Option Staging) (s : State) : Safe s (setStaging g s) := by
  unfold setStaging
  exact { settings := id }

theorem installCurve_safe (item i : Nat) (c : Curve) (s : State) : Safe s (installCurve item i c s).1 := by
  unfold installCurve
  dsimp only
  split_ifs
  · exact (setStaging_safe none s).trans (withWork_safe (fun w => w.setCurve i c) _)
  · exact setStaging_safe none s

theorem writePart0_safe (item i : Nat) (value : List Byte) (s : State) : Safe s (writePart0 item i value s).1 := by
  unfold writePart0
  dsimp only
  split_ifs
  · exact .rfl' s
  · exact installCurve_safe item i _ s
  · exact setStaging_safe _ s

theorem writePart1_safe (item i : Nat) (value : List Byte) (s : State) : Safe s (writePart1 item i value s).1 := by
  unfold writePart1
  split
  · exact .rfl' s
  · exact installCurve_safe item i _ s

theorem writeNumber_safe (item : Nat) (value : List Byte) (s : State) : Safe s (writeNumber item value s).1 := by
  unfold writeNumber
  dsimp only
  split
  · exact .rfl' s
  · split_ifs
    · exact (withWork_safe _ s).trans (.when fun _ => clampTank_safe _)
    · exact .rfl' s
    · exact (withWork_safe _ s).trans (.when fun _ => clampTank_safe _)
    · exact .rfl' s

theorem writeSetting_safe (p : Port) (item part : Byte) (value : List Byte) (s : State) :
    Safe s (writeSetting p item part value s).1 := by
  have hwrite : Safe s (match itemCurve item.toNat with
      | some i => if part = 0 then writePart0 item.toNat i value s else writePart1 item.toNat i value s
      | none => writeNumber item.toNat value s).1 := by
    split
    · split_ifs
      · exact writePart0_safe _ _ value s
      · exact writePart1_safe _ _ value s
    · exact writeNumber_safe _ value s
  refine fst_ite ?_ (fst_ite ?_ (fst_ite ?_ hwrite))
  · exact .rfl' s
  · exact .rfl' s
  · exact .rfl' s

theorem setUnits_safe (p : Port) (choice : Byte) (s : State) : Safe s (setUnits p choice s).1 := by
  unfold setUnits
  split_ifs
  · exact .rfl' s
  · exact .rfl' s
  · exact .rfl' s
  · exact .rfl' s
  · refine { units := fun h => ?_ }
    cases p
    · rfl
    · rfl
    · exact h

theorem ackEntry_safe (p : Port) (e : Entry) (s : State) : Safe s (ackEntry p e s).1 := by
  have hkeeps (x : Entry) : (x.withAck p).w = x.w ∧ (x.withAck p).detail = x.detail := by
    unfold Entry.withAck
    cases p <;> (dsimp only; split_ifs <;> exact ⟨rfl, rfl⟩)
  unfold ackEntry
  dsimp only
  split_ifs
  · exact .rfl' s
  · exact .rfl' s
  · exact withList_safe (ListSafe.dropEntry _ _)
  · exact withList_safe (ListSafe.mapEntry _ _ (fun x => (hkeeps x).1) (fun x => by rw [(hkeeps x).2]) _)

theorem ackWarning_safe (p : Port) (id : Byte) (s : State) : Safe s (ackWarning p id s).1 := by
  unfold ackWarning
  split_ifs
  · exact .rfl' s
  · exact .rfl' s
  · dsimp only
    split
    · exact .rfl' s
    · exact ackEntry_safe p _ s
  · exact .rfl' s

theorem rearCall_safe (p : Port) (s : State) : Safe s (rearCall p s).1 := by
  unfold rearCall
  split_ifs
  · exact .rfl' s
  · exact .rfl' s
  · dsimp only
    split
    · exact raise_safe 19 false 0 s
    · exact raise_safe 19 false 0 s

theorem setOverspeed_safe (p : Port) (limit : BitVec 16) (s : State) : Safe s (setOverspeed p limit s).1 := by
  unfold setOverspeed
  split_ifs
  · exact .rfl' s
  · exact .rfl' s
  · exact storeLimit_safe _ s

theorem startLampTest_safe (l : Option (Fin 8)) (s : State) : Safe s (startLampTest l s) := by
  cases l with
  | none => exact .rfl' s
  | some k => exact withGauge_safe (fun u => { u with lampTests := u.lampTests.setIfInBounds k.val (some lampHold) }) s

theorem testDefinition_safe (w : Fin 24) (s : State) : Safe s (testDefinition w s).1 := by
  unfold testDefinition
  split
  · exact startLampTest_safe _ s
  · dsimp only
    split_ifs
    · exact .rfl' s
    · exact (queuePattern_safe _ _ _ s).trans (startLampTest_safe _ _)

theorem warningTest_safe (p : Port) (id : Byte) (s : State) : Safe s (warningTest p id s).1 := by
  unfold warningTest
  split_ifs
  · exact .rfl' s
  · exact .rfl' s
  · exact testDefinition_safe _ s
  · exact .rfl' s

theorem playChime_safe (p : Port) (pattern speakers cls : Byte) (s : State) :
    Safe s (playChime p pattern speakers cls s).1 := by
  unfold playChime
  split_ifs
  · exact .rfl' s
  · exact queuePattern_safe _ _ _ s
  · exact .rfl' s

theorem cancelChimes_safe (p : Port) (s : State) : Safe s (cancelChimes p s).1 := by
  unfold cancelChimes
  split_ifs
  · exact .rfl' s
  · exact (withQueue_safe fun h => (List.length_filter_le _ _).trans h).trans
      (withQueue_safe fun h => (List.length_filter_le _ _).trans h)

theorem quietTakesRear_safe (s : State) : Safe s (quietTakesRear s) := by
  have hlist : ∀ l, ListSafe l (l.map Entry.silenceRear) :=
    ListSafe.map _ (fun e => by unfold Entry.silenceRear; split_ifs <;> rfl)
      (fun e => by unfold Entry.silenceRear; split_ifs <;> rfl)
  unfold quietTakesRear
  exact (chimeDoneAll_safe _ s).trans <| (withQueue_safe (q := []) fun _ => Nat.zero_le 4).trans <|
    (withList_safe (hlist _)).trans (withQuiet_safe _ _)

theorem setRearQuiet_safe (p : Port) (arg : Byte) (s : State) : Safe s (setRearQuiet p arg s).1 := by
  unfold setRearQuiet
  split_ifs
  · exact .rfl' s
  · exact .rfl' s
  · exact .rfl' s
  · exact withQuiet_safe .off s
  · exact quietTakesRear_safe s
  · exact .rfl' s

theorem resetService_safe (p : Port) (item : Byte) (s : State) : Safe s (resetService p item s).1 := by
  unfold resetService
  dsimp only
  split_ifs
  · exact .rfl' s
  · exact .rfl' s
  · exact .rfl' s
  · exact .rfl' s
  · exact resetItem_safe _ s
  · exact .rfl' s

theorem writeServiceItem_safe (p : Port) (item : Byte) (args : ItemArgs) (s : State) :
    Safe s (writeServiceItem p item args s).1 := by
  unfold writeServiceItem
  split
  · split
    · exact .rfl' s
    · exact fst_ite (.rfl' s) (fst_ite (.rfl' s) (installItem_safe _ _ s))
  · exact .rfl' s

theorem setAlarm_safe (p : Port) (seconds : BitVec 32) (s : State) : Safe s (setAlarm p seconds s).1 := by
  unfold setAlarm
  split_ifs
  · exact .rfl' s
  · exact .rfl' s
  · exact .rfl' s
  · exact .rfl' s
  · exact storeAlarm_safe _ s

theorem clearAlarm_safe (p : Port) (s : State) : Safe s (clearAlarm p s).1 := by
  unfold clearAlarm
  split_ifs
  · exact .rfl' s
  · exact .rfl' s
  · exact storeAlarm_safe none s

theorem keepAwake_safe (seconds : BitVec 16) (s : State) : Safe s (keepAwake seconds s).1 := by
  unfold keepAwake
  split_ifs
  · exact .rfl' s
  · exact .rfl' s
  · exact restartDelay_safe _ s

theorem emptyCauses_safe (p : Port) (s : State) : Safe s (emptyCauses p s) := by
  cases p
  · exact withPower_safe (fun u => { u with causeFront := 0 }) s
  · exact withPower_safe (fun u => { u with causeRear := 0 }) s
  · exact .rfl' s

theorem readNotices_safe (p : Port) (s : State) : Safe s (readNotices p s).1 := by
  cases p
  · exact setLink_safe .front _ s
  · exact setLink_safe .rear _ s
  · exact .rfl' s

theorem readWarnings_safe (p : Port) (start : Byte) (s : State) : Safe s (readWarnings p start s).1 := by
  unfold readWarnings
  split_ifs
  · exact .rfl' s
  · exact .rfl' s

theorem readSetting_safe (item page : Byte) (s : State) : Safe s (readSetting item page s).1 := by
  unfold readSetting
  split_ifs
  · exact .rfl' s
  · exact .rfl' s

theorem readService_safe (p : Port) (item page : Byte) (s : State) : Safe s (readService p item page s).1 := by
  unfold readService
  split_ifs
  · exact .rfl' s
  · exact .rfl' s

/-! ### Commands under the grant (R62, R63) -/

/-- The grant is no part of a record. -/
theorem withGrant_safe (g : Option Grant) (s : State) : Safe s { s with store := { s.store with grant := g } } :=
  { store := ⟨id, id, id⟩ }

theorem runGranted_safe {work : Bool → State → Answer} (h : ∀ b s, Safe s (work b s).1) (p : Port) (faultSeen : Bool)
    (s : State) : Safe s (runGranted p faultSeen work s) :=
  (h faultSeen s).trans <| (deliver_safe p _ _).trans (withGrant_safe none _)

theorem underGrant_safe {work : Bool → State → Answer} (h : ∀ b s, Safe s (work b s).1) (p : Port) (r : Request)
    (early : State → Option Status) (s : State) : Safe s (underGrant p r early work s) := by
  unfold underGrant
  refine .when fun _ => ?_
  split
  · refine .ite (fun _ => ?_) fun _ => turnAway_safe p s
    split
    · exact .when fun _ => runGranted_safe h p _ s
    · exact .rfl' s
  · split
    · exact deliver_safe p _ s
    · have hheld : Safe s (arbitrate (holdRequest p r s)) := (holdRequest_safe p r s).trans (arbitrate_safe _)
      dsimp only
      split
      · exact hheld.trans (.when fun _ => runGranted_safe h p _ _)
      · exact hheld

theorem changeRecord_safe (r : RecordNo) (allowed : Bool) (check : State → Option Status) {act : State → State}
    (h : ∀ s, Safe s (act s)) (faultSeen : Bool) (s : State) : Safe s (changeRecord r allowed check act faultSeen s).1 := by
  unfold changeRecord
  dsimp only
  split_ifs
  · exact .rfl' s
  · exact verifyRecord_safe r s
  · split
    · exact verifyRecord_safe r s
    · exact (verifyRecord_safe r s).trans (h _)

theorem workReadRecord_safe (record page : Byte) (b : Bool) (s : State) : Safe s (workReadRecord record page b s).1 := by
  unfold workReadRecord
  split
  · exact .rfl' s
  · exact verifyRecord_safe _ s

theorem clearTrip_safe (k : TripNo) (s : State) : Safe s (clearTrip k s) :=
  withStore_safe (setTrip_safe fun _ => show 0 < 1000000000 by decide)

theorem workClearRecord_safe (p : Port) (record : Byte) (b : Bool) (s : State) : Safe s (workClearRecord p record b s).1 := by
  unfold workClearRecord
  split
  · exact .rfl' s
  · exact changeRecord_safe _ _ _ (fun s => (commandFold_safe s).trans (clearTrip_safe _ _)) b s

theorem openCharter_safe (s : State) : Safe s (openCharter s) :=
  (commandFold_safe s).trans (putCharter_safe fun _ => show 0 < 1000000000 by decide)

theorem closeCharter_safe (s : State) : Safe s (closeCharter s) := putCharter_safe id

theorem workCharterClose_safe (p : Port) (b : Bool) (s : State) : Safe s (workCharterClose p b s).1 := by
  unfold workCharterClose
  dsimp only
  split_ifs
  · exact .rfl' s
  · exact verifyCharter_safe s
  · exact verifyCharter_safe s
  · exact (verifyCharter_safe s).trans (commandFold_safe _)
  · exact (verifyCharter_safe s).trans <| (commandFold_safe _).trans (closeCharter_safe _)

theorem vacateCharter_safe (s : State) : Safe s (vacateCharter s) := putCharter_safe id

theorem ackCharter_safe (p : Port) (s : State) : Safe s (ackCharter p s) := by
  unfold ackCharter
  dsimp only
  split_ifs
  · exact .rfl' s
  · exact vacateCharter_safe s
  · exact withStore_safe (setCharter_safe (c := { s.store.charter with
      ackFront := s.store.charter.ackFront || p == .front, ackRear := s.store.charter.ackRear || p == .rear }) id)

theorem presetStore_safe {value : Nat} (h : value ≤ 9999999) (now : Nat) (r : RecordStore) :
    StoreSafe r (presetStore value now r) := by
  have hodo : StoreSafe r { r with odo := Odo.seal ⟨value * 100, false, true, false, 0⟩ } :=
    setOdo_safe fun _ => show value * 100 < 1000000000 by omega
  exact hodo.trans (clearTrips_safe rfl)

theorem presetOdo_safe {value : Nat} (h : value ≤ 9999999) (s : State) : Safe s (presetOdo value s) :=
  (commandFold_safe s).trans <| (withStore_safe (presetStore_safe h _ _)).trans (queueSlotWrite_safe _)

theorem workOdoPreset_safe (p : Port) (value : BitVec 24) (b : Bool) (s : State) : Safe s (workOdoPreset p value b s).1 := by
  unfold workOdoPreset
  split_ifs with h
  · exact .rfl' s
  · exact changeRecord_safe _ _ _ (presetOdo_safe (Nat.le_of_not_lt h)) b s

theorem workSetClock_safe (p : Port) (seconds : BitVec 32) (b : Bool) (s : State) : Safe s (workSetClock p seconds b s).1 := by
  unfold workSetClock
  dsimp only
  split_ifs
  · exact .rfl' s
  · exact verifyShifted_safe s
  · exact (verifyShifted_safe s).trans (doSetClock_safe seconds.isLt _)

theorem workTrimClock_safe (p : Port) (seconds : BitVec 8) (b : Bool) (s : State) :
    Safe s (workTrimClock p seconds b s).1 := by
  unfold workTrimClock
  dsimp only
  split_ifs
  · exact .rfl' s
  · exact verifyShifted_safe s
  · exact verifyShifted_safe s
  · exact (verifyShifted_safe s).trans (doTrimClock_safe _ _)

theorem workReadDerived_safe (p : Port) (record : Byte) (b : Bool) (s : State) : Safe s (workReadDerived p record b s).1 := by
  unfold workReadDerived
  split
  · exact .rfl' s
  · exact verifyRecord_safe _ s

theorem workKrKf_safe (c : CalConstant) (v : BitVec 16) (b : Bool) (s : State) : Safe s (workKrKf c v b s).1 := by
  unfold workKrKf
  split_ifs
  · exact .rfl' s
  · exact (commandFold_safe s).trans (installCal_safe c _ _)

/-! ### Ports (chapter 10) -/

theorem serveWriteSettingKrKf_safe (p : Port) (c : CalConstant) (v : BitVec 16) (s : State) :
    Safe s (serveWriteSettingKrKf p c v s) := underGrant_safe (workKrKf_safe c v) p _ _ s

theorem serveWriteSetting_safe (p : Port) (item part : Byte) (value : List Byte) (s : State) :
    Safe s (serveWriteSetting p item part value s) := by
  unfold serveWriteSetting
  split_ifs
  · split
    · exact serveWriteSettingKrKf_safe p _ _ s
    · exact answerAtOnce_safe p (.rfl' s)
  · split
    · exact serveWriteSettingKrKf_safe p _ _ s
    · exact answerAtOnce_safe p (.rfl' s)
  · exact answerAtOnce_safe p (writeSetting_safe p item part value s)

/-- R172: every request that is served. -/
theorem serve_safe (p : Port) (r : Request) (s : State) : Safe s (serve p r s) := by
  cases r
  case readNotices => exact answerAtOnce_safe p (readNotices_safe p s)
  case readSetting item page => exact answerAtOnce_safe p (readSetting_safe item page s)
  case writeSetting item part value => exact serveWriteSetting_safe p item part value s
  case writeKrKf c v => exact serveWriteSettingKrKf_safe p c v s
  case commitSettings => exact answerAtOnce_safe p (commitSettings_safe p s)
  case gaugeSet g a => exact answerAtOnce_safe p (gaugeSet_safe p g a s)
  case gaugeRelease g => exact answerAtOnce_safe p (gaugeRelease_safe p g s)
  case readFold page => exact answerAtOnce_safe p (readFold_safe p page s)
  case readRecord n page => exact underGrant_safe (workReadRecord_safe n page) p _ _ s
  case clearRecord n => exact underGrant_safe (workClearRecord_safe p n) p _ _ s
  case charterOpen => exact underGrant_safe (changeRecord_safe _ _ _ openCharter_safe) p _ _ s
  case charterClose => exact underGrant_safe (workCharterClose_safe p) p _ _ s
  case charterAck => exact underGrant_safe (changeRecord_safe _ _ _ (ackCharter_safe p)) p _ _ s
  case charterRelease => exact underGrant_safe (changeRecord_safe _ _ _ vacateCharter_safe) p _ _ s
  case odoPreset v => exact underGrant_safe (workOdoPreset_safe p v) p _ _ s
  case readDerived n => exact underGrant_safe (workReadDerived_safe p n) p _ _ s
  case setUnits c => exact answerAtOnce_safe p (setUnits_safe p c s)
  case readWarnings n => exact answerAtOnce_safe p (readWarnings_safe p n s)
  case ackWarning id => exact answerAtOnce_safe p (ackWarning_safe p id s)
  case rearCall => exact answerAtOnce_safe p (rearCall_safe p s)
  case setOverspeed n => exact answerAtOnce_safe p (setOverspeed_safe p n s)
  case warningTest id => exact answerAtOnce_safe p (warningTest_safe p id s)
  case playChime a b c => exact answerAtOnce_safe p (playChime_safe p a b c s)
  case cancelChimes => exact answerAtOnce_safe p (cancelChimes_safe p s)
  case rearQuiet a => exact answerAtOnce_safe p (setRearQuiet_safe p a s)
  case readService k page => exact answerAtOnce_safe p (readService_safe p k page s)
  case resetService k => exact answerAtOnce_safe p (resetService_safe p k s)
  case writeServiceItem k d => exact answerAtOnce_safe p (writeServiceItem_safe p k d s)
  case setClock n => exact underGrant_safe (workSetClock_safe p n) p _ _ s
  case trimClock n => exact underGrant_safe (workTrimClock_safe p n) p _ _ s
  case setAlarm n => exact answerAtOnce_safe p (setAlarm_safe p n s)
  case clearAlarm => exact answerAtOnce_safe p (clearAlarm_safe p s)
  case keepAwake n => exact answerAtOnce_safe p (keepAwake_safe n s)
  case readWakeCauses => exact answerAtOnce_safe p (emptyCauses_safe p s)
  case readStatus | readInputs | readGauges | readLive | readChimes | readClock => exact answerAtOnce_safe p (.rfl' s)

theorem dispatch_safe (p : Port) (code : Byte) (args : List Byte) (s : State) : Safe s (dispatch p code args s) := by
  unfold dispatch
  split
  · exact serve_safe p _ s
  · exact deliver_safe p _ s

theorem endSilence_safe (l : Link) (s : State) : Safe s (endSilence l s) :=
  (setLink_safe l _ s).trans (.when fun _ => dropMember_safe 23 _ _)

theorem takeIncoming_safe (l : Link) (out : Outgoing) (incoming : List Byte) (s : State) :
    Safe s (takeIncoming l out incoming s) := by
  unfold takeIncoming
  split
  · split
    · exact .rfl' s
    · exact .rfl' s
    · exact setLink_safe l _ s
  · exact deliver_safe _ _ s
  · exact (setLink_safe l _ s).trans (dispatch_safe _ _ _ _)

theorem closeTransaction_safe (l : Link) (s : State) : Safe s (closeTransaction l s) :=
  Safe.settle ((setLink_safe l _ s).trans <| (endSilence_safe l _).trans (activity_safe _)) s

theorem endTransaction_safe (l : Link) (incoming : List Byte) (s : State) : Safe s (endTransaction l incoming s) := by
  unfold endTransaction
  split
  · exact .rfl' s
  · exact .ite (fun _ => closeTransaction_safe l s) fun _ =>
      ((closeTransaction_safe l s).trans (takeIncoming_safe l _ incoming _)).settle _

theorem takeFrame_safe (bytes : List Byte) (s : State) : Safe s (takeFrame bytes s) := by
  unfold takeFrame
  split
  · exact .rfl' s
  · exact serviceReply_safe _ s
  · split
    · exact serviceReply_safe _ s
    · exact dispatch_safe _ _ _ s

theorem frameActivity_safe (s : State) : Safe s (frameActivity s) := by
  unfold frameActivity
  exact {}

theorem endFrame_safe (s : State) : Safe s (endFrame s) := by
  unfold endFrame
  split
  · exact .when fun _ => (withService_safe id).trans <| (frameActivity_safe _).trans (takeFrame_safe _ _)
  · exact .rfl' s
  · exact .rfl' s

theorem selectLink_safe (l : Link) (s : State) : Safe s (selectLink l s) := by
  unfold selectLink
  split
  · exact setLink_safe l _ s
  · exact .rfl' s

/-! ### Every command, and time -/

theorem stepGauges_safe (s : State) : Safe s (stepGauges s) := {}

/-- An outcome whose next state, if it has one, has a property. -/
def EndsIn (P : State → Prop) (x : Outcome) : Prop := ∀ t, x = .next t → P t

theorem EndsIn.next {P : State → Prop} {t : State} (h : P t) : EndsIn P (.next t) := fun _ ht => by cases ht; exact h

theorem EndsIn.ite {b : Prop} [Decidable b] {P : State → Prop} {x y : Outcome} (h : EndsIn P x) (k : EndsIn P y) :
    EndsIn P (if b then x else y) := by
  split_ifs
  · exact h
  · exact k

/-- A command that acts under a condition. -/
theorem EndsIn.when {b : Prop} [Decidable b] {P : State → Prop} {s t : State} (hs : P s) (h : P t) :
    EndsIn P (if b then .next t else .next s) := .ite (.next h) (.next hs)

/-- An outcome whose next state, if it has one, is safe. -/
abbrev SafeOutcome (s : State) (x : Outcome) : Prop := EndsIn (Safe s) x

/-- A command that acts under a condition. -/
theorem SafeOutcome.when {b : Prop} [Decidable b] {s t : State} (h : Safe s t) :
    SafeOutcome s (if b then .next t else .next s) := EndsIn.when (.rfl' s) h

theorem withTimers_safe (x : Timers) (s : State) : Safe s { s with timers := x } := {}

theorem noteBoundary_safe (sp : Speaker) (s : State) : SafeOutcome s (execNoteBoundary sp s) := by
  unfold execNoteBoundary
  refine .ite ?_ (.next (.rfl' s))
  split
  · exact .next (.rfl' s)
  · exact .next ((boundary_safe sp _ s).settle s)

theorem transmitStart_safe (s : State) : SafeOutcome s (execServiceTransmitStart s) := by
  unfold execServiceTransmitStart
  split
  · exact .next (.rfl' s)
  · exact .when (withService_safe id)

theorem subMissing_safe (s : State) : SafeOutcome s (execSubMissing s) :=
  .ite (.next (.rfl' s)) (.next (((withClock_safe ⟨id, id⟩).trans <| (notifyBoth_safe _ _).trans
    (handDegraded_safe _)).settle s))

theorem subBack_safe (s : State) : SafeOutcome s (execSubBack s) :=
  .when (((withClock_safe ⟨id, id⟩).trans <| (notifyBoth_safe _ _).trans (dropDegraded_safe _)).settle s)

/-- No check word covers the mark of a waiting fold. -/
theorem FoldSealed.waiting (f : FoldEngine) (h : FoldSealed f) : FoldSealed { f with waiting := false } := h

/-- The port and the request of a command that is a request at a port. -/
def commandRequest : Instr → Option (Port × Request)
  | .readInputs p page => some (p, .readInputs page)
  | .gaugeSet p g a => some (p, .gaugeSet g a)
  | .gaugeRelease p g => some (p, .gaugeRelease g)
  | .readGauges p page => some (p, .readGauges page)
  | .readFold p page => some (p, .readFold page)
  | .writeSettingKrKf p c v => some (p, .writeKrKf c v)
  | .readRecord p n page => some (p, .readRecord n page)
  | .clearRecord p n => some (p, .clearRecord n)
  | .charterOpen p => some (p, .charterOpen)
  | .charterClose p => some (p, .charterClose)
  | .charterAck p => some (p, .charterAck)
  | .charterRelease p => some (p, .charterRelease)
  | .odoPreset p v => some (p, .odoPreset v)
  | .readDerived p n => some (p, .readDerived n)
  | .readLive p => some (p, .readLive)
  | .setUnits p c => some (p, .setUnits c)
  | .readWarnings p n => some (p, .readWarnings n)
  | .ackWarning p id => some (p, .ackWarning id)
  | .rearCall p => some (p, .rearCall)
  | .setOverspeed p n => some (p, .setOverspeed n)
  | .warningTest p id => some (p, .warningTest id)
  | .playChime p a b c => some (p, .playChime a b c)
  | .cancelChimes p => some (p, .cancelChimes)
  | .rearQuiet p a => some (p, .rearQuiet a)
  | .readChimes p page => some (p, .readChimes page)
  | .readService p k page => some (p, .readService k page)
  | .resetService p k => some (p, .resetService k)
  | .writeServiceItem p k d => some (p, .writeServiceItem k d)
  | .setClock p n => some (p, .setClock n)
  | .trimClock p n => some (p, .trimClock n)
  | .readClock p => some (p, .readClock)
  | .setAlarm p n => some (p, .setAlarm n)
  | .clearAlarm p => some (p, .clearAlarm)
  | .keepAwake p n => some (p, .keepAwake n)
  | .readWakeCauses p => some (p, .readWakeCauses)
  | .readNotices p => some (p, .readNotices)
  | .readStatus p => some (p, .readStatus)
  | .readSetting p item page => some (p, .readSetting item page)
  | .writeSetting p item part value => some (p, .writeSetting item part value)
  | .commitSettings p => some (p, .commitSettings)
  | _ => none

/-- The requests after which nothing is left to settle. -/
def settled : Request → Bool
  | .readInputs .. | .readGauges .. | .readFold .. | .readLive | .setUnits .. | .readWarnings .. | .readChimes ..
  | .readService .. | .readClock | .setAlarm .. | .clearAlarm | .readWakeCauses | .readNotices | .readStatus
  | .readSetting .. => true
  | _ => false

/-- A request at a port is what its command executes; what it leaves is settled, but for the reads and the choices that no
other block looks at. -/
theorem exec_of_request {c : Instr} {p : Port} {r : Request} (h : commandRequest c = some (p, r)) (s : State) :
    exec c s = .next (if settled r then serve p r s else settle s (serve p r s)) := by
  cases c <;> cases h <;> rfl

theorem request_safe {c : Instr} {p : Port} {r : Request} (h : commandRequest c = some (p, r)) (s : State) :
    SafeOutcome s (exec c s) := by
  rw [exec_of_request h]
  exact .next (.ite (fun _ => serve_safe p r s) fun _ => (serve_safe p r s).settle s)

/-! ### The events -/

theorem execColdStart_safe (i : StartInputs) (s : State) : SafeOutcome s (execColdStart i s) :=
  .next ((coldStart_safe i s).trans (settleFrom_safe [] _))

theorem execRestart_safe (i : StartInputs) (s : State) : SafeOutcome s (execRestart i s) :=
  .next ((restart_safe i s).trans (settleFrom_safe [] _))

theorem execRoadPulseEdge_safe (s : State) : SafeOutcome s (execRoadPulseEdge s) :=
  .ite (.ite (.next (countPulse_safe s)) (.next ((countPulse_safe s).trans (withMeas_safe _ _)))) (.next (.rfl' s))

theorem execRoadAgeStale_safe (s : State) : SafeOutcome s (execRoadAgeStale s) :=
  .when (withMeas_safe _ s)

theorem execSpeedSampleExpiry_safe (s : State) : SafeOutcome s (execSpeedSampleExpiry s) :=
  .when ((withTimers_safe _ s).trans (withMeas_safe _ _))

theorem execEnginePulseEdge_safe (s : State) : SafeOutcome s (execEnginePulseEdge s) :=
  .when (withMeas_safe _ s)

theorem execEngineAgeStale_safe (s : State) : SafeOutcome s (execEngineAgeStale s) :=
  .when (withMeas_safe _ s)

theorem execRpmSampleExpiry_safe (s : State) : SafeOutcome s (execRpmSampleExpiry s) :=
  .when ((withTimers_safe _ s).trans (withMeas_safe _ _))

theorem execOpenTick_safe (s : State) : SafeOutcome s (execOpenTick s) :=
  .when ((withMeas_safe _ s).trans (countTick_safe _))

theorem execAnalogScanExpiry_safe (samples : Vector Byte 6) (s : State) : SafeOutcome s (execAnalogScanExpiry samples s) :=
  .when ((Safe.trans {} (analogScan_safe samples _)).settle s)

theorem execSwitchScanExpiry_safe (lines : BitVec 16) (s : State) : SafeOutcome s (execSwitchScanExpiry lines s) :=
  .when ((Safe.trans {} (switchScan_safe lines _)).settle s)

theorem execGaugeStepExpiry_safe (s : State) : SafeOutcome s (execGaugeStepExpiry s) :=
  .when ((withTimers_safe _ s).trans (stepGauges_safe _))

theorem execManualSilenceRelease_safe (s : State) : SafeOutcome s (execManualSilenceRelease s) :=
  .when {}

theorem execPwmFrameStart_safe (s : State) : SafeOutcome s (execPwmFrameStart s) :=
  .when {}

theorem execFlasherPhaseChange_safe (s : State) : SafeOutcome s (execFlasherPhaseChange s) :=
  .when ((withTimers_safe _ s).trans (withGauge_safe _ _))

theorem execBulbCheckEnd_safe (s : State) : SafeOutcome s (execBulbCheckEnd s) :=
  .when (withGauge_safe _ s)

theorem execLampTestEnd_safe (l : Fin 8) (s : State) : SafeOutcome s (execLampTestEnd l s) :=
  .when (withGauge_safe _ s)

theorem execFoldExpiry_safe (s : State) : SafeOutcome s (execFoldExpiry s) :=
  .when ((withTimers_safe _ s).trans (foldExpiry_safe _))

theorem foldTaken_safe (s : State) : Safe s (s.withFoldBare fun f => { f with waiting := false }) :=
  withFoldBare_safe (FoldSealed.waiting s.fold)

theorem execFold_safe (s : State) : SafeOutcome s (execFold s) :=
  .when (((performFold_safe s).trans (foldTaken_safe _)).settle s)

theorem execModelExpiry_safe (s : State) : SafeOutcome s (execModelExpiry s) :=
  .when ((withTimers_safe _ s).trans (correctTank_safe _))

theorem execTransferHoldEnd_safe (s : State) : SafeOutcome s (execTransferHoldEnd s) :=
  .when (withFoldBare_safe (f := fun f => { f with hold := endHold f.hold }) id)

theorem execRecordMarkApply_safe (s : State) : SafeOutcome s (execRecordMarkApply s) :=
  .when (((applyMarks_safe _ s).trans (withHeld_safe _ _)).settle s)

theorem execSlotWriteComplete_safe (s : State) : SafeOutcome s (execSlotWriteComplete s) :=
  .when ((slotWritten_safe s).settle s)

theorem execWarningExpiry_safe (s : State) : SafeOutcome s (execWarningExpiry s) :=
  .when (((withTimers_safe _ s).trans (sampleAll_safe _)).settle s)

theorem execRepeatTimerExpiry_safe (w : Fin 24) (sp : Speaker) (s : State) : SafeOutcome s (execRepeatTimerExpiry w sp s) :=
  .when ((repeatEnd_safe w sp s).settle s)

theorem execSecondEnd_safe (s : State) : SafeOutcome s (execSecondEnd s) :=
  .next (((tickSecond_safe s).trans <| (dayChange_safe _ _).trans (checkAlarm_safe _)).settle s)

theorem execCalibrationExpiry_safe (s : State) : SafeOutcome s (execCalibrationExpiry s) :=
  .when ((withTimers_safe _ s).trans (withClock_safe ⟨id, id⟩))

theorem execCalibrationComplete_safe (count : Nat) (s : State) : SafeOutcome s (execCalibrationComplete count s) :=
  .when (withClock_safe ⟨id, id⟩)

theorem execMainClockFaultStart_safe (s : State) : SafeOutcome s (execMainClockFaultStart s) :=
  .when ((faultStart_safe s).settle s)

theorem execMainClockFaultEnd_safe (s : State) : SafeOutcome s (execMainClockFaultEnd s) :=
  .when ((faultEnd_safe s).settle s)

theorem execParkDelayExpiry_safe (s : State) : SafeOutcome s (execParkDelayExpiry s) :=
  .when ((withPower_safe _ s).settle s)

theorem execAwakeLimitExpiry_safe (s : State) : SafeOutcome s (execAwakeLimitExpiry s) :=
  .when ((limitOut_safe s).settle s)

theorem execParkedEntry_safe (raw : BitVec 16) (s : State) : SafeOutcome s (execParkedEntry raw s) :=
  .when ((enterParked_safe raw s).settle s)

theorem execWakeSourceFires_safe (w : WakeSource) (s : State) : SafeOutcome s (execWakeSourceFires w s) :=
  .next (fireSource_safe w s)

theorem execWakeSequence_safe (i : StartInputs) (s : State) : SafeOutcome s (execWakeSequence i s) :=
  .when ((wake_safe i s).trans (settleFrom_safe [] _))

theorem execWakeLineEdge_safe (i : Fin 16) (s : State) : SafeOutcome s (execWakeLineEdge i s) :=
  .when (withPower_safe _ s)

theorem execLinkSelect_safe (l : Link) (s : State) : SafeOutcome s (execLinkSelect l s) :=
  .ite (.next (selectLink_safe l s)) (.next (fireSource_safe _ s))

theorem execLinkTransactionEnd_safe (l : Link) (incoming : List Byte) (s : State) : SafeOutcome s (execLinkTransactionEnd l incoming s) :=
  .when (endTransaction_safe l incoming s)

theorem execSilenceTimerExpiry_safe (l : Link) (s : State) : SafeOutcome s (execSilenceTimerExpiry l s) :=
  .when (((setLink_safe l _ s).trans (raise_safe 23 true _ _)).settle s)

theorem execServiceStartBit_safe (s : State) : SafeOutcome s (execServiceStartBit s) :=
  .ite (.next (((withService_safe id).trans (activity_safe _)).settle s)) (.next (fireSource_safe _ s))

theorem execServiceFrameEnd_safe (s : State) : SafeOutcome s (execServiceFrameEnd s) :=
  .when ((endFrame_safe s).settle s)

theorem execServiceByteReceived_safe (b : Byte) (good : Bool) (s : State) : SafeOutcome s (execServiceByteReceived b good s) :=
  .when (((endFrame_safe s).trans (withService_safe id)).settle s)

theorem execServiceQuietExpiry_safe (s : State) : SafeOutcome s (execServiceQuietExpiry s) :=
  .when ((withService_safe id).trans <| (frameActivity_safe _).trans (serviceReply_safe _ _))

theorem execServiceFrameSent_safe (s : State) : SafeOutcome s (execServiceFrameSent s) :=
  .when (withService_safe fun h => (List.length_drop.le.trans (Nat.sub_le _ 1)).trans h)

theorem execCommitComplete_safe (agrees : Bool) (s : State) : SafeOutcome s (execCommitComplete agrees s) :=
  .when ((commitWritten_safe agrees s).settle s)

theorem execSupplyLoss_safe (s : State) : SafeOutcome s (execSupplyLoss s) :=
  .next ((cutFlight_safe s).trans (withPower_safe _ _))

theorem event_safe {c : Instr} (h : commandRequest c = none) (s : State) : SafeOutcome s (exec c s) := by
  cases c
  case coldStart i => exact execColdStart_safe i s
  case restart i => exact execRestart_safe i s
  case roadPulseEdge => exact execRoadPulseEdge_safe s
  case roadAgeStale => exact execRoadAgeStale_safe s
  case speedSampleExpiry => exact execSpeedSampleExpiry_safe s
  case enginePulseEdge => exact execEnginePulseEdge_safe s
  case engineAgeStale => exact execEngineAgeStale_safe s
  case rpmSampleExpiry => exact execRpmSampleExpiry_safe s
  case openTick => exact execOpenTick_safe s
  case analogScanExpiry samples => exact execAnalogScanExpiry_safe samples s
  case switchScanExpiry lines => exact execSwitchScanExpiry_safe lines s
  case gaugeStepExpiry => exact execGaugeStepExpiry_safe s
  case manualSilenceRelease => exact execManualSilenceRelease_safe s
  case pwmFrameStart => exact execPwmFrameStart_safe s
  case flasherPhaseChange => exact execFlasherPhaseChange_safe s
  case bulbCheckEnd => exact execBulbCheckEnd_safe s
  case lampTestEnd k => exact execLampTestEnd_safe k s
  case foldExpiry => exact execFoldExpiry_safe s
  case fold => exact execFold_safe s
  case modelExpiry => exact execModelExpiry_safe s
  case transferHoldEnd => exact execTransferHoldEnd_safe s
  case recordMarkApply => exact execRecordMarkApply_safe s
  case slotWriteComplete => exact execSlotWriteComplete_safe s
  case warningExpiry => exact execWarningExpiry_safe s
  case noteBoundary sp => exact noteBoundary_safe sp s
  case repeatTimerExpiry w sp => exact execRepeatTimerExpiry_safe w sp s
  case secondEnd => exact execSecondEnd_safe s
  case subMissing => exact subMissing_safe s
  case subBack => exact subBack_safe s
  case calibrationExpiry => exact execCalibrationExpiry_safe s
  case calibrationComplete c => exact execCalibrationComplete_safe c s
  case mainClockFaultStart => exact execMainClockFaultStart_safe s
  case mainClockFaultEnd => exact execMainClockFaultEnd_safe s
  case parkDelayExpiry => exact execParkDelayExpiry_safe s
  case awakeLimitExpiry => exact execAwakeLimitExpiry_safe s
  case parkedEntry raw => exact execParkedEntry_safe raw s
  case wakeSourceFires w => exact execWakeSourceFires_safe w s
  case wakeSequence i => exact execWakeSequence_safe i s
  case wakeLineEdge k => exact execWakeLineEdge_safe k s
  case linkSelect l => exact execLinkSelect_safe l s
  case linkTransactionEnd l incoming => exact execLinkTransactionEnd_safe l incoming s
  case silenceTimerExpiry l => exact execSilenceTimerExpiry_safe l s
  case serviceStartBit => exact execServiceStartBit_safe s
  case serviceFrameEnd => exact execServiceFrameEnd_safe s
  case serviceByteReceived b good => exact execServiceByteReceived_safe b good s
  case serviceQuietExpiry => exact execServiceQuietExpiry_safe s
  case serviceTransmitStart => exact transmitStart_safe s
  case serviceFrameSent => exact execServiceFrameSent_safe s
  case commitComplete agrees => exact execCommitComplete_safe agrees s
  case supplyLoss => exact execSupplyLoss_safe s
  all_goals cases h

theorem command_safe (c : Instr) (s : State) : SafeOutcome s (exec c s) := by
  rcases h : commandRequest c with _ | ⟨p, r⟩
  · exact event_safe h s
  · exact request_safe h s

/-- A microsecond runs timers down. -/
theorem passTime_safe (e : Elapsed) (s : State) : Safe s (passTime e s) where
  store := .rfl' _
  units := id
  items := id
  settings := id
  list := ListSafe.map (Entry.pass e) (fun _ => rfl) (fun _ => rfl) _
  clock := ⟨id, id⟩
  queues sp h := by cases sp <;> exact h
  output := id
  fold := id
  limit := id

/-- The queue of commands is under no bound and no check word. -/
theorem withPending_safe (q : List Instr) (s : State) : Safe s { s with pending := q } := {}

theorem tick_safe (s : State) : Safe s (tick s) := by
  unfold tick
  exact (passTime_safe _ s).trans (withPending_safe _ _)

theorem step_safe {s t : State} (h : step s = .next t) : Safe s t := by
  unfold step at h
  split at h
  · rw [← Host.Outcome.next.inj h]
    exact tick_safe s
  · exact (withPending_safe _ s).trans (command_safe _ _ t h)

/-! ### The obligations -/

/-- Settles O5. -/
theorem countersStayInRange : Obligations.CountersStayInRange := by
  intro s t hs h
  obtain ⟨ho, ha, hb, hp, hc, hn⟩ := hs
  have hsafe := step_safe h
  obtain ⟨ho', ha', hb', hp', hc'⟩ := hsafe.store.distances ⟨ho, ha, hb, hp, hc⟩
  exact ⟨ho', ha', hb', hp', hc', hsafe.clock.seconds hn⟩

/-- Settles O6. -/
theorem queuesStayBounded : Obligations.QueuesStayBounded := by
  intro s t h
  have hsafe := step_safe h
  exact ⟨fun ⟨hf, hr, ho⟩ => ⟨hsafe.queues .front hf, hsafe.queues .rear hr, hsafe.output ho⟩, hsafe.store.order⟩

/-- Settles O7. -/
theorem activeListStaysOrdered : Obligations.ActiveListStaysOrdered := fun _ _ h =>
  ⟨(step_safe h).list.ordered, (step_safe h).list.details⟩

/-- Settles O9. -/
theorem retentionStaysSealed : Obligations.RetentionStaysSealed := by
  intro s t ⟨hr, hf, hu, hl, hi, ha, hw⟩ h
  have hsafe := step_safe h
  exact ⟨hsafe.store.records hr, hsafe.fold hf, hsafe.units hu, hsafe.limit hl, hsafe.items hi, hsafe.clock.alarm ha,
    hsafe.settings hw⟩

end Sys2Proof.Proofs.StepInvariants

/-! PROOFS. The lamps follow the active list: every event ends by working them from it, or changes neither the lamps nor the
list. -/

namespace Sys2Proof.Proofs.Lamps

open Sys2Proof Sys2Proof.Machine Sys2Proof.Proofs.StepInvariants

/-! ### The lamp states -/

theorem lampState_eq (l : List Entry) (k : Fin 8) : lampState l k =
    if ∃ e ∈ l, (warnDef e.w).lamp = some k ∧ 6 ≤ (warnDef e.w).cls ∧ e.ackFront = false then .flashing
    else if ∃ e ∈ l, (warnDef e.w).lamp = some k then .on else .off := by
  have hany : (l.filter fun e => (warnDef e.w).lamp == some k).any
      (fun e => decide (6 ≤ (warnDef e.w).cls) && !e.ackFront) = true
        ↔ ∃ e ∈ l, (warnDef e.w).lamp = some k ∧ 6 ≤ (warnDef e.w).cls ∧ e.ackFront = false := by
    simp
  have hempty : (l.filter fun e => (warnDef e.w).lamp == some k).isEmpty = true
        ↔ ¬ ∃ e ∈ l, (warnDef e.w).lamp = some k := by
    simp
  unfold lampState
  simp only [hany, hempty, ite_not]

theorem masterState_eq (l : List Entry) : masterState l =
    if ∃ e ∈ l, (((warnDef e.w).lamp = some 7 ∨ (warnDef e.w).lamp = none) ∧ 3 ≤ (warnDef e.w).cls)
        ∧ 6 ≤ (warnDef e.w).cls ∧ e.ackFront = false then .flashing
    else if ∃ e ∈ l, (((warnDef e.w).lamp = some 7 ∨ (warnDef e.w).lamp = none) ∧ 3 ≤ (warnDef e.w).cls)
        ∧ e.ackFront = false then .on else .off := by
  have hcounts (e : Entry) : countsForMaster e = true
      ↔ ((warnDef e.w).lamp = some 7 ∨ (warnDef e.w).lamp = none) ∧ 3 ≤ (warnDef e.w).cls := by
    simp [countsForMaster]
  have hany : (l.filter fun e => countsForMaster e && !e.ackFront).any (fun e => decide (6 ≤ (warnDef e.w).cls)) = true
        ↔ ∃ e ∈ l, countsForMaster e = true ∧ 6 ≤ (warnDef e.w).cls ∧ e.ackFront = false := by
    simp only [List.any_eq_true, List.mem_filter, Bool.and_eq_true, Bool.not_eq_true', decide_eq_true_eq]
    exact exists_congr fun e => by tauto
  have hempty : (l.filter fun e => countsForMaster e && !e.ackFront).isEmpty = true
        ↔ ¬ ∃ e ∈ l, countsForMaster e = true ∧ e.ackFront = false := by
    simp
  unfold masterState
  simp only [hany, hempty, ite_not, hcounts]

/-- The rule of R33 and R34 is the model's own working of the lamps. -/
theorem lampsFollow_iff (s : State) : LampsFollow s ↔ s.gauge.lamps = lampStates s.warn.list := by
  have hentry (k : Fin 8) : (lampStates s.warn.list)[k] = if k = 7 then masterState s.warn.list else lampState s.warn.list k := by
    simp [lampStates]
  constructor
  · intro ⟨hlamps, hmaster⟩
    have heach (k : Fin 8) : s.gauge.lamps[k] = (lampStates s.warn.list)[k] := by
      rw [hentry]
      by_cases h : k = 7
      · rw [if_pos h, masterState_eq, ← hmaster, h]
      · rw [if_neg h, lampState_eq, ← hlamps k h]
    exact Vector.ext fun k hk => heach ⟨k, hk⟩
  · intro h
    refine ⟨fun k hk => ?_, ?_⟩
    · rw [h, hentry, if_neg hk, lampState_eq]
    · rw [h, hentry, if_pos rfl, masterState_eq]

/-- Time changes nothing of an entry that a lamp shows. -/
theorem lampStates_pass (e : Elapsed) (l : List Entry) : lampStates (l.map (Entry.pass e)) = lampStates l := by
  have hlamp (k : Fin 8) : lampState (l.map (Entry.pass e)) k = lampState l k := by
    simp only [lampState_eq, List.mem_map, exists_exists_and_eq_and]
    rfl
  have hmaster : masterState (l.map (Entry.pass e)) = masterState l := by
    simp only [masterState_eq, List.mem_map, exists_exists_and_eq_and]
    rfl
  unfold lampStates
  simp only [hlamp, hmaster]

/-- What is settled has its lamps worked from its list. -/
theorem settleFrom_lamps (old : List Entry) (s : State) : LampsFollow (settleFrom old s) := by
  rw [lampsFollow_iff]
  unfold settleFrom
  rw [countViews_gauge, countViews_warn]
  rfl

theorem settle_lamps (s t : State) : LampsFollow (settle s t) := settleFrom_lamps _ t

/-! ### What leaves both as they are -/

/-- Neither the lamps nor the active list changed. -/
structure SameLamps (s t : State) : Prop where
  lamps : t.gauge.lamps = s.gauge.lamps := by simp
  list  : t.warn.list = s.warn.list := by simp

theorem SameLamps.rfl' (s : State) : SameLamps s s := ⟨rfl, rfl⟩

theorem SameLamps.trans {s t u : State} (h : SameLamps s t) (k : SameLamps t u) : SameLamps s u :=
  ⟨k.lamps.trans h.lamps, k.list.trans h.list⟩

theorem SameLamps.after {s t u : State} (k : SameLamps t u) (h : SameLamps s t) : SameLamps s u := h.trans k

theorem SameLamps.when {b : Prop} [Decidable b] {s t : State} (h : SameLamps s t) : SameLamps s (if b then t else s) := by
  split_ifs
  · exact h
  · exact .rfl' s

theorem SameLamps.follow {s t : State} (h : SameLamps s t) (hs : LampsFollow s) : LampsFollow t := by
  rw [lampsFollow_iff] at *
  rw [h.lamps, h.list, hs]

theorem answerAtOnce_sameLamps {f : State → Answer} {s : State} (p : Port) (h : SameLamps s (f s).1) :
    SameLamps s (answerAtOnce p f s) := by
  unfold answerAtOnce
  refine .when ?_
  split
  · exact h.trans {}
  · cases p
    · exact .rfl' s
    · exact .rfl' s
    · exact {}

theorem releaseAllManual_sameLamps (s : State) : SameLamps s (releaseAllManual s) := ⟨rfl, rfl⟩

theorem stepGauges_sameLamps (s : State) : SameLamps s (stepGauges s) := by
  unfold stepGauges countSilence
  split
  · exact ⟨rfl, rfl⟩
  · split_ifs
    · exact .trans (t := moveGauges s) ⟨rfl, rfl⟩ (releaseAllManual_sameLamps _)
    · exact ⟨rfl, rfl⟩

theorem countPulse_sameLamps (s : State) : SameLamps s (countPulse s) := .when {}

theorem countTick_sameLamps (s : State) : SameLamps s (countTick s) := .when {}

theorem correctTank_sameLamps (s : State) : SameLamps s (correctTank s) := .when {}

theorem foldExpiry_sameLamps (s : State) : SameLamps s (foldExpiry s) := ⟨rfl, rfl⟩

theorem serviceReply_sameLamps (r : Reply) (s : State) : SameLamps s (serviceReply r s) := {}

theorem fireSource_sameLamps (w : WakeSource) (s : State) : SameLamps s (fireSource w s) := {}

theorem selectLink_sameLamps (l : Link) (s : State) : SameLamps s (selectLink l s) := by
  unfold selectLink
  split
  · exact {}
  · exact .rfl' s

theorem readNotices_sameLamps (p : Port) (s : State) : SameLamps s (readNotices p s).1 := by
  cases p
  · exact ⟨rfl, rfl⟩
  · exact ⟨rfl, rfl⟩
  · exact .rfl' s

theorem emptyCauses_sameLamps (p : Port) (s : State) : SameLamps s (emptyCauses p s) := by
  cases p
  · exact ⟨rfl, rfl⟩
  · exact ⟨rfl, rfl⟩
  · exact .rfl' s

theorem fst_ite {b : Prop} [Decidable b] {s : State} {x y : Answer} (h : SameLamps s x.1) (k : SameLamps s y.1) :
    SameLamps s (if b then x else y).1 := by
  split_ifs
  · exact h
  · exact k

theorem setUnits_sameLamps (p : Port) (choice : Byte) (s : State) : SameLamps s (setUnits p choice s).1 :=
  fst_ite (.rfl' s) <| fst_ite (.rfl' s) <| fst_ite (.rfl' s) <| by
    dsimp only
    split_ifs
    · exact .rfl' s
    · exact ⟨rfl, rfl⟩

theorem setAlarm_sameLamps (p : Port) (seconds : BitVec 32) (s : State) : SameLamps s (setAlarm p seconds s).1 := by
  unfold setAlarm
  exact fst_ite (.rfl' s) <| fst_ite (.rfl' s) <| fst_ite (.rfl' s) <| fst_ite (.rfl' s) ⟨rfl, rfl⟩

theorem clearAlarm_sameLamps (p : Port) (s : State) : SameLamps s (clearAlarm p s).1 := by
  unfold clearAlarm
  exact fst_ite (.rfl' s) <| fst_ite (.rfl' s) ⟨rfl, rfl⟩

theorem readService_sameLamps (p : Port) (item page : Byte) (s : State) : SameLamps s (readService p item page s).1 := by
  unfold readService
  split_ifs
  · exact .rfl' s
  · exact .rfl' s

theorem readFold_sameLamps (p : Port) (page : Byte) (s : State) : SameLamps s (readFold p page s).1 := .when ⟨rfl, rfl⟩

theorem readWarnings_sameLamps (p : Port) (start : Byte) (s : State) : SameLamps s (readWarnings p start s).1 :=
  fst_ite (.rfl' s) (.rfl' s)

/-- A request after which nothing is settled leaves the lamps and the list as they are. -/
theorem serve_sameLamps (p : Port) {r : Request} (h : settled r = true) (s : State) : SameLamps s (serve p r s) := by
  cases r
  case readNotices => exact answerAtOnce_sameLamps p (readNotices_sameLamps p s)
  case readSetting item page => exact answerAtOnce_sameLamps p (fst_ite (.rfl' s) (.rfl' s))
  case readFold page => exact answerAtOnce_sameLamps p (readFold_sameLamps p page s)
  case setUnits c => exact answerAtOnce_sameLamps p (setUnits_sameLamps p c s)
  case readWarnings n => exact answerAtOnce_sameLamps p (readWarnings_sameLamps p n s)
  case readService k page => exact answerAtOnce_sameLamps p (readService_sameLamps p k page s)
  case setAlarm n => exact answerAtOnce_sameLamps p (setAlarm_sameLamps p n s)
  case clearAlarm => exact answerAtOnce_sameLamps p (clearAlarm_sameLamps p s)
  case readWakeCauses => exact answerAtOnce_sameLamps p (emptyCauses_sameLamps p s)
  case readStatus | readInputs | readGauges | readLive | readChimes | readClock =>
    exact answerAtOnce_sameLamps p (.rfl' s)
  all_goals cases h

/-! ### Every command, and time -/

/-- A command that leaves the lamps following the list when they did. -/
abbrev LampsOutcome (s : State) (x : Outcome) : Prop := EndsIn (fun t => LampsFollow s → LampsFollow t) x

theorem LampsOutcome.ite {b : Prop} [Decidable b] {s : State} {x y : Outcome} (h : LampsOutcome s x) (k : LampsOutcome s y) :
    LampsOutcome s (if b then x else y) := EndsIn.ite h k

theorem LampsOutcome.settled (s t : State) : LampsOutcome s (.next (settle s t)) := .next fun _ => settle_lamps s t

theorem LampsOutcome.kept {s t : State} (h : SameLamps s t) : LampsOutcome s (.next t) := .next h.follow

/-- A command that acts under a condition, and leaves both as they are. -/
theorem LampsOutcome.keptWhen {b : Prop} [Decidable b] {s t : State} (h : SameLamps s t) :
    LampsOutcome s (if b then .next t else .next s) := EndsIn.when id h.follow

/-- A command that acts under a condition, and ends by settling. -/
theorem LampsOutcome.settledWhen {b : Prop} [Decidable b] (s t : State) :
    LampsOutcome s (if b then .next (settle s t) else .next s) := EndsIn.when id fun _ => settle_lamps s t

theorem request_lamps {c : Instr} {p : Port} {r : Request} (h : commandRequest c = some (p, r)) (s : State) :
    LampsOutcome s (exec c s) := by
  rw [exec_of_request h]
  split_ifs with hr
  · exact .kept (serve_sameLamps p hr s)
  · exact .settled s _

theorem execRoadPulseEdge_lamps (s : State) : LampsOutcome s (execRoadPulseEdge s) :=
  .ite (.ite (.kept (countPulse_sameLamps s)) (.kept ((countPulse_sameLamps s).trans ⟨rfl, rfl⟩))) (.next id)

theorem execOpenTick_lamps (s : State) : LampsOutcome s (execOpenTick s) :=
  .keptWhen ((countTick_sameLamps _).after ⟨rfl, rfl⟩)

theorem execGaugeStepExpiry_lamps (s : State) : LampsOutcome s (execGaugeStepExpiry s) :=
  .keptWhen ((stepGauges_sameLamps _).after ⟨rfl, rfl⟩)

theorem execModelExpiry_lamps (s : State) : LampsOutcome s (execModelExpiry s) :=
  .keptWhen ((correctTank_sameLamps _).after ⟨rfl, rfl⟩)

theorem execNoteBoundary_lamps (sp : Speaker) (s : State) : LampsOutcome s (execNoteBoundary sp s) := by
  unfold execNoteBoundary
  refine .ite ?_ (.next id)
  split
  · exact .next id
  · exact .settled s _

theorem execTransmitStart_lamps (s : State) : LampsOutcome s (execServiceTransmitStart s) := by
  unfold execServiceTransmitStart
  split
  · exact .next id
  · exact .keptWhen ⟨rfl, rfl⟩

theorem endTransaction_lamps (l : Link) (incoming : List Byte) {s : State} (hs : LampsFollow s) :
    LampsFollow (endTransaction l incoming s) := by
  unfold endTransaction
  split
  · exact hs
  · dsimp only
    split_ifs
    · exact settle_lamps _ _
    · exact settle_lamps _ _

theorem event_lamps {c : Instr} (h : commandRequest c = none) (s : State) : LampsOutcome s (exec c s) := by
  cases c
  case coldStart i => exact .next fun _ => settleFrom_lamps _ _
  case restart i => exact .next fun _ => settleFrom_lamps _ _
  case wakeSequence i => exact EndsIn.when id fun _ => settleFrom_lamps _ _
  case roadPulseEdge => exact execRoadPulseEdge_lamps s
  case openTick => exact execOpenTick_lamps s
  case gaugeStepExpiry => exact execGaugeStepExpiry_lamps s
  case modelExpiry => exact execModelExpiry_lamps s
  case wakeSourceFires w => exact .kept (fireSource_sameLamps w s)
  case linkSelect l => exact .ite (.kept (selectLink_sameLamps l s)) (.kept (fireSource_sameLamps _ s))
  case linkTransactionEnd l incoming => exact EndsIn.when id (endTransaction_lamps l incoming)
  case serviceStartBit => exact .ite (.settled s _) (.kept (fireSource_sameLamps _ s))
  case serviceQuietExpiry => exact .keptWhen ((serviceReply_sameLamps _ _).after ⟨rfl, rfl⟩)
  case serviceTransmitStart => exact execTransmitStart_lamps s
  case noteBoundary sp => exact execNoteBoundary_lamps sp s
  case supplyLoss => exact .kept {}
  case secondEnd => exact .settled s _
  case subMissing => exact .ite (.next id) (.settled s _)
  case analogScanExpiry | switchScanExpiry | fold | recordMarkApply | slotWriteComplete | warningExpiry | repeatTimerExpiry
    | subBack | mainClockFaultStart | mainClockFaultEnd | parkDelayExpiry | awakeLimitExpiry | parkedEntry
    | silenceTimerExpiry | serviceFrameEnd | serviceByteReceived | commitComplete => exact .settledWhen s _
  case roadAgeStale | speedSampleExpiry | enginePulseEdge | engineAgeStale | rpmSampleExpiry | manualSilenceRelease
    | pwmFrameStart | flasherPhaseChange | bulbCheckEnd | lampTestEnd | foldExpiry | transferHoldEnd | calibrationExpiry
    | calibrationComplete | wakeLineEdge | serviceFrameSent => exact .keptWhen ⟨rfl, rfl⟩
  all_goals cases h

theorem command_lamps (c : Instr) (s : State) : LampsOutcome s (exec c s) := by
  rcases h : commandRequest c with _ | ⟨p, r⟩
  · exact event_lamps h s
  · exact request_lamps h s

theorem tick_lamps {s : State} (h : LampsFollow s) : LampsFollow (tick s) := by
  rw [lampsFollow_iff] at *
  rw [show (tick s).gauge.lamps = s.gauge.lamps from rfl, h]
  exact (lampStates_pass (elapse s) s.warn.list).symm

/-- Settles O8. -/
theorem lampsFollowTheList : Obligations.LampsFollowTheList := by
  intro s t hs h
  unfold step at h
  split at h
  · rw [← Host.Outcome.next.inj h]
    exact tick_lamps hs
  · exact command_lamps _ _ t h hs

end Sys2Proof.Proofs.Lamps

/-! PROOFS. Small facts that many proofs share: a statement by cases, and an answer at once that is then settled. -/

namespace Sys2Proof.Proofs.Basics

open Sys2Proof Sys2Proof.Machine

/-- A statement by cases holds when each case does. -/
theorem ite_intro {b : Prop} [Decidable b] {P Q : Prop} (h : b → P) (k : ¬ b → Q) : if b then P else Q := by
  split
  · exact h ‹_›
  · exact k ‹_›

/-- Settling leaves an answer delivered. -/
theorem answered_settled {p : Port} {r : Reply} {s t : State} (a : State)
    (h : t.port.service.output = s.port.service.output) : Answered p r s (settle a (deliver p r t)) :=
  (answered_settle _ _ _ _ _).2 (answered_deliver _ _ _ _ h)

end Sys2Proof.Proofs.Basics

/-! PROOFS. The pulses, the samples and the open tick (chapter 1). -/

namespace Sys2Proof.Proofs.Pulses

open Sys2Proof Sys2Proof.Machine

/-- A road edge changes the count of the pulses and nothing else of the fold engine. -/
theorem countPulse_eq (s : State) : ∃ c, countPulse s = { s with fold := { s.fold with
    buf := { s.fold.buf with pulses := if s.fold.buf.pulses < 65535 then s.fold.buf.pulses + 1 else s.fold.buf.pulses }
    check := c } } := by
  unfold countPulse
  split_ifs
  · exact ⟨_, rfl⟩
  · exact ⟨_, rfl⟩

/-- An open tick changes the count of the ticks and nothing else of the fold engine. -/
theorem countTick_eq (s : State) : ∃ c, countTick s = { s with fold := { s.fold with
    buf := { s.fold.buf with ticks := if s.fold.buf.ticks < 16777215 then s.fold.buf.ticks + 1 else s.fold.buf.ticks }
    check := c } } := by
  unfold countTick
  split_ifs
  · exact ⟨_, rfl⟩
  · exact ⟨_, rfl⟩

theorem roadPulseEdge_alive {s : State} (h : alive s = true) : ∃ t, exec .roadPulseEdge s = .next t
    ∧ t.fold.buf =
      { s.fold.buf with pulses := if s.fold.buf.pulses < 65535 then s.fold.buf.pulses + 1 else s.fold.buf.pulses }
    ∧ t.meas.road = (if s.clock.mainFault then s.meas.road else s.meas.road.edge roadStale)
    ∧ t = { s with
        meas := { s.meas with road := t.meas.road }
        fold := { s.fold with buf := t.fold.buf, check := t.fold.check } } := by
  obtain ⟨c, hcount⟩ := countPulse_eq s
  have hexec : exec .roadPulseEdge s = if (countPulse s).clock.mainFault then .next (countPulse s)
      else .next ((countPulse s).withMeas fun m => { m with road := m.road.edge roadStale }) := if_pos h
  rw [hcount] at hexec
  by_cases hfault : s.clock.mainFault = true
  · exact ⟨_, hexec.trans (if_pos hfault), rfl, (if_pos hfault).symm, rfl⟩
  · exact ⟨_, hexec.trans (if_neg hfault), rfl, (if_neg hfault).symm, rfl⟩

theorem openTick_clocked {s : State} (h : clocked s = true) : ∃ t, exec .openTick s = .next t
    ∧ t.meas = { s.meas with residue := 0 }
    ∧ t.fold.buf =
      { s.fold.buf with ticks := if s.fold.buf.ticks < 16777215 then s.fold.buf.ticks + 1 else s.fold.buf.ticks }
    ∧ t = { s with meas := t.meas, fold := { s.fold with buf := t.fold.buf, check := t.fold.check } } := by
  obtain ⟨c, hcount⟩ := countTick_eq (s.withMeas fun m => { m with residue := 0 })
  have hexec : exec .openTick s = .next (countTick (s.withMeas fun m => { m with residue := 0 })) := if_pos h
  exact ⟨_, hexec.trans (congrArg _ hcount), rfl, rfl, rfl⟩

/-- Settles O10. -/
theorem pulsesAreCountedTimedAndSampled : Obligations.PulsesAreCountedTimedAndSampled := by
  intro s
  refine ⟨roadPulseEdge_alive, fun h => if_neg (Bool.eq_false_iff.1 h), fun h => ?edges, fun h => ?still, fun h => ?samples⟩
  case edges => exact ⟨if_pos h, if_pos h, if_pos h, openTick_clocked h⟩
  case still =>
    have hn : ¬ clocked s = true := Bool.eq_false_iff.1 h
    exact ⟨if_neg hn, if_neg hn, if_neg hn, if_neg hn⟩
  case samples => exact ⟨⟨_, if_pos h, rfl, rfl⟩, if_pos h⟩

end Sys2Proof.Proofs.Pulses

/-! PROOFS. The gauge step, the frame start and the manual gauges (chapter 2). -/

namespace Sys2Proof.Proofs.Gauges

open Sys2Proof Sys2Proof.Machine Sys2Proof.Proofs.Basics

/-! ### The six gauges -/

@[simp] theorem mapGauges_get (f : Gauge → Gauge) (gs : Vector Gauge 6) (g : Fin 6) : (mapGauges f gs)[g] = f gs[g] := by
  simp [mapGauges]

theorem toList_all_iff {α : Type} {n : Nat} (v : Vector α n) (p : α → Bool) :
    v.toList.all p = true ↔ ∀ i : Fin n, p v[i] = true := by
  rw [List.all_eq_true]
  constructor
  · intro h i
    exact h _ (Vector.mem_toList_iff.2 (Vector.getElem_mem i.isLt))
  · intro h x hx
    obtain ⟨i, hi, rfl⟩ := Vector.getElem_of_mem (Vector.mem_toList_iff.1 hx)
    exact h ⟨i, hi⟩

theorem sweepAt_iff (gs : Vector Gauge 6) (ph : SweepPhase) (angle : Nat) : sweepAt gs ph angle = true
    ↔ ∀ g : Fin 6, gs[g].mode = .sweep → gs[g].phase = ph ∧ gs[g].commanded = angle := by
  unfold sweepAt
  rw [toList_all_iff]
  refine forall_congr' fun g => ?_
  simp [imp_iff_not_or]

theorem allAtRest_iff (gs : Vector Gauge 6) : allAtRest gs = true
    ↔ ∀ g : Fin 6, gs[g].mode = .off ∧ gs[g].latched = ⟨⟨0, false⟩, ⟨0, false⟩⟩ := by
  unfold allAtRest
  rw [toList_all_iff]
  refine forall_congr' fun g => ?_
  rw [Bool.and_eq_true, beq_iff_eq, beq_iff_eq]
  rfl

theorem anyManual_iff (gs : Vector Gauge 6) : anyManual gs = true ↔ ∃ g : Fin 6, gs[g].mode = .manual := by
  have hnone : anyManual gs = false ↔ ∀ g : Fin 6, ¬ gs[g].mode = .manual := by
    unfold anyManual
    rw [List.any_eq_not_all_not, Bool.not_eq_false', toList_all_iff]
    simp
  rw [← not_iff_not, Bool.not_eq_true, hnone, not_exists]

/-! ### One gauge -/

/-- R22: the commanded angle after a step. -/
def movedAngle (s : State) (g : Fin 6) (x : Gauge) : Nat :=
  if x.mode = .off then 0
  else if x.commanded ≤ gaugeTarget s g x then
    min (gaugeTarget s g x) (x.commanded + if x.mode = .ret then 16 else slewLimit g)
  else max (gaugeTarget s g x) (x.commanded - if x.mode = .ret then 16 else slewLimit g)

/-- R22, R23: a step of one gauge, as one update. -/
theorem stepGauge_eq (s : State) (g : Fin 6) (x : Gauge) : stepGauge s g x = { x with
    mode := if x.mode = .ret ∧ movedAngle s g x = 0 then .off else x.mode
    target := gaugeTarget s g x
    commanded := movedAngle s g x
    staged := if x.mode = .off ∨ (x.mode = .ret ∧ movedAngle s g x = 0) then ⟨⟨0, false⟩, ⟨0, false⟩⟩
      else dutyPair (movedAngle s g x) s.settings.work.offsets[g]
    fresh := true } := by
  rcases x with ⟨mode, phase, manualAngle, target, commanded, staged, fresh, latched⟩
  cases mode
  case follow => simp [stepGauge, movedAngle, slew]
  case sweep => simp [stepGauge, movedAngle, slew]
  case manual => simp [stepGauge, movedAngle, slew]
  case off => simp [stepGauge, movedAngle, gaugeTarget, DutyPair.zero]
  case ret =>
    simp only [stepGauge, movedAngle, slew, gaugeTarget, returnSlew, DutyPair.zero]
    by_cases hle : commanded ≤ 0
    · simp [hle]
    · by_cases hzero : commanded - 16 = 0
      · simp [hle, hzero]
      · simp [hle, hzero]

/-- R27, R29: what the end of a sweep phase and the release of the gauges in MANUAL make of a gauge that has stepped. -/
def endStep (up down released live : Bool) (y : Gauge) : Gauge :=
  match y.mode with
  | .sweep => if up then { y with phase := .down } else if down then { y with mode := .follow } else y
  | .manual => if released then { y with mode := if live then .follow else .ret } else y
  | .follow => y
  | .ret => y
  | .off => y

/-- The six gauges after each has stepped. -/
def steppedGauges (s : State) : Vector Gauge 6 := Vector.ofFn fun g => stepGauge s g s.gauge.gauges[g]

@[simp] theorem steppedGauges_get (s : State) (g : Fin 6) : (steppedGauges s)[g] = stepGauge s g s.gauge.gauges[g] := by
  simp [steppedGauges]

theorem endSweepPhase_get (gs : Vector Gauge 6) (g : Fin 6) :
    (endSweepPhase gs)[g] = endStep (sweepAt gs .up 1079) (sweepAt gs .down 0) false false gs[g] := by
  unfold endSweepPhase endStep
  split_ifs with hup hdown
  · rw [mapGauges_get]
    cases h : gs[g].mode <;> simp
  · rw [mapGauges_get]
    cases h : gs[g].mode <;> simp
  · cases h : gs[g].mode <;> simp

theorem releaseManual_endStep (up down live : Bool) (y : Gauge) :
    (endStep up down false false y).releaseManual live = endStep up down true live y := by
  rcases y with ⟨mode, phase, manualAngle, target, commanded, staged, fresh, latched⟩
  cases mode
  case sweep => cases up <;> cases down <;> rfl
  all_goals rfl

/-- R29: the manual silence count reaches 640 in this step. -/
def silenceEnds (u : GaugeUnit) : Bool := u.silence.any fun n => decide (640 ≤ n + 1)

/-- R27, R29: the six gauges at the end of a step. -/
def endedGauges (s : State) : Vector Gauge 6 := Vector.ofFn fun g =>
  endStep (sweepAt (steppedGauges s) .up 1079) (sweepAt (steppedGauges s) .down 0) (silenceEnds s.gauge) s.gauge.live
    (stepGauge s g s.gauge.gauges[g])

theorem endSweepPhase_stepped {s : State} (h : silenceEnds s.gauge = false) :
    endSweepPhase (steppedGauges s) = endedGauges s := by
  refine Vector.ext fun g hg => ?_
  have hget := endSweepPhase_get (steppedGauges s) ⟨g, hg⟩
  rw [steppedGauges_get] at hget
  refine hget.trans ?_
  unfold endedGauges
  rw [Vector.getElem_ofFn, h]
  rfl

theorem releaseManual_stepped {s : State} (h : silenceEnds s.gauge = true) :
    mapGauges (Gauge.releaseManual s.gauge.live) (endSweepPhase (steppedGauges s)) = endedGauges s := by
  refine Vector.ext fun g hg => ?_
  have hget := endSweepPhase_get (steppedGauges s) ⟨g, hg⟩
  rw [steppedGauges_get] at hget
  refine (mapGauges_get _ _ ⟨g, hg⟩).trans ?_
  unfold endedGauges
  rw [hget, releaseManual_endStep, Vector.getElem_ofFn, h]

/-- R22, R29: a gauge step is the update of the gauges, the silence count and the sweep setting. -/
theorem stepGauges_eq (s : State) : stepGauges s = { s with gauge := { s.gauge with
    gauges := endedGauges s
    silence := if silenceEnds s.gauge then none else s.gauge.silence.map (· + 1)
    sweepOn := s.settings.work.sweep } } := by
  have hmoved : moveGauges s = { s with gauge := { s.gauge with
      gauges := endSweepPhase (steppedGauges s), sweepOn := s.settings.work.sweep } } := rfl
  unfold stepGauges countSilence
  rw [hmoved]
  dsimp only
  cases hsilence : s.gauge.silence with
  | none =>
    have hends : silenceEnds s.gauge = false := by simp [silenceEnds, hsilence]
    simp [hends, endSweepPhase_stepped hends]
  | some n =>
    have hvalue : silenceEnds s.gauge = decide (640 ≤ n + 1) := by
      rw [silenceEnds, hsilence]
      rfl
    by_cases hend : 640 ≤ n + 1
    · have hends : silenceEnds s.gauge = true := hvalue.trans (decide_eq_true hend)
      simp only [if_pos hend, hends, ← releaseManual_stepped hends]
      rfl
    · have hends : silenceEnds s.gauge = false := hvalue.trans (decide_eq_false hend)
      simp only [if_neg hend, hends, ← endSweepPhase_stepped hends]
      rfl

/-- The ends of a sweep phase and of the manual silence change a gauge's mode and phase at most. -/
theorem endStep_eq (up down released live : Bool) (y : Gauge) : endStep up down released live y =
    { y with mode := (endStep up down released live y).mode, phase := (endStep up down released live y).phase } := by
  unfold endStep
  split
  · split_ifs <;> rfl
  · split_ifs <;> rfl
  all_goals rfl

/-- A gauge of the unit after a step, by the gauge that stepped. -/
theorem endedGauges_get (s : State) (g : Fin 6) : (endedGauges s)[g] = endStep (sweepAt (steppedGauges s) .up 1079)
    (sweepAt (steppedGauges s) .down 0) (silenceEnds s.gauge) s.gauge.live (stepGauge s g s.gauge.gauges[g]) := by
  simp [endedGauges]

theorem endedGauges_commanded (s : State) (g : Fin 6) :
    (endedGauges s)[g].commanded = movedAngle s g s.gauge.gauges[g] := by
  rw [endedGauges_get, endStep_eq, stepGauge_eq]

/-- R27: the gauges in SWEEP stand in a phase at an angle after the step. -/
theorem sweepAt_stepped (s : State) (ph : SweepPhase) (angle : Nat) : sweepAt (steppedGauges s) ph angle = true
    ↔ ∀ h : Fin 6, s.gauge.gauges[h].mode = .sweep →
      s.gauge.gauges[h].phase = ph ∧ (endedGauges s)[h].commanded = angle := by
  rw [sweepAt_iff]
  refine forall_congr' fun h => ?_
  rw [endedGauges_commanded, steppedGauges_get, stepGauge_eq]
  generalize s.gauge.gauges[h] = x
  have hmode : (if x.mode = .ret ∧ movedAngle s h x = 0 then GaugeMode.off else x.mode) = .sweep ↔ x.mode = .sweep := by
    split_ifs with hret
    · simp [hret]
    · rfl
  rw [hmode]

/-- The gauges in SWEEP stand in one phase only. -/
theorem sweepAt_stepped_exclusive {s : State} {g : Fin 6} (hmode : s.gauge.gauges[g].mode = .sweep) {a b : Nat}
    (hup : sweepAt (steppedGauges s) .up a = true) : sweepAt (steppedGauges s) .down b = false := by
  by_contra hdown
  have hphase := ((sweepAt_stepped s .up a).1 hup g hmode).1
  rw [((sweepAt_stepped s .down b).1 (Bool.eq_true_of_not_eq_false hdown) g hmode).1] at hphase
  cases hphase

theorem endStep_sweep (up down released live : Bool) {y : Gauge} (h : y.mode = .sweep) : endStep up down released live y =
    if up then { y with phase := .down } else if down then { y with mode := .follow } else y := by simp [endStep, h]

theorem endStep_manual (up down released live : Bool) {y : Gauge} (h : y.mode = .manual) : endStep up down released live y =
    if released then { y with mode := if live then .follow else .ret } else y := by simp [endStep, h]

theorem endStep_kept (up down released live : Bool) {y : Gauge} (h : y.mode ≠ .sweep) (k : y.mode ≠ .manual) :
    endStep up down released live y = y := by
  unfold endStep
  split
  · exact absurd ‹_› h
  · exact absurd ‹_› k
  all_goals rfl

theorem endStep_phase (up down released live : Bool) {y : Gauge} (h : y.mode ≠ .sweep) :
    (endStep up down released live y).phase = y.phase := by
  by_cases k : y.mode = .manual
  · rw [endStep_manual _ _ _ _ k]
    split_ifs <;> rfl
  · rw [endStep_kept _ _ _ _ h k]

/-- What a step makes of the mode and the phase of one gauge; `c` says that a return has ended at 0. -/
theorem endStep_modes {up down released live c : Bool} {x y : Gauge} (hmode : y.mode = if x.mode = .ret ∧ c = true then .off else x.mode)
    (hphase : y.phase = x.phase) (hone : x.mode = .sweep → up = true → down = false) :
    let z := endStep up down released live y
    (x.mode ≠ .sweep → z.phase = x.phase)
    ∧ (x.mode = .sweep → up = true → z.mode = .sweep ∧ z.phase = .down)
    ∧ (x.mode = .sweep → down = true → z.mode = .follow)
    ∧ (x.mode = .sweep → ¬ up = true → ¬ down = true → z.mode = .sweep ∧ z.phase = x.phase)
    ∧ (x.mode = .ret → z.mode = if c = true then .off else .ret)
    ∧ (x.mode = .manual → z.mode = if released then (if live then .follow else .ret) else .manual)
    ∧ (x.mode = .off → z.mode = .off) ∧ (x.mode = .follow → z.mode = .follow) := by
  have hsame (h : x.mode ≠ .ret) : y.mode = x.mode := hmode.trans (if_neg fun hret => h hret.1)
  have hret (h : x.mode = .ret) : y.mode = if c = true then .off else .ret := by rw [hmode, h]; simp
  refine ⟨fun h => ?phase, fun h hup => ?up, fun h hdown => ?down, fun h hup hdown => ?neither, fun h => ?ret, fun h => ?manual,
    fun h => ?off, fun h => ?follow⟩
  case phase =>
    rw [endStep_phase _ _ _ _ ?_, hphase]
    rw [hmode]
    split_ifs
    · simp
    · exact h
  case up =>
    have hy : y.mode = .sweep := (hsame (by simp [h])).trans h
    rw [endStep_sweep _ _ _ _ hy, if_pos hup]
    exact ⟨hy, rfl⟩
  case down =>
    have hy : y.mode = .sweep := (hsame (by simp [h])).trans h
    have hup : ¬ up = true := fun hup => by simp [hone h hup] at hdown
    rw [endStep_sweep _ _ _ _ hy, if_neg hup, if_pos hdown]
  case neither =>
    have hy : y.mode = .sweep := (hsame (by simp [h])).trans h
    rw [endStep_sweep _ _ _ _ hy, if_neg hup, if_neg hdown]
    exact ⟨hy, hphase⟩
  case ret =>
    rw [endStep_kept _ _ _ _ ?_ ?_, hret h]
    all_goals
      rw [hret h]
      split_ifs <;> simp
  case manual =>
    have hy : y.mode = .manual := (hsame (by simp [h])).trans h
    rw [endStep_manual _ _ _ _ hy]
    split_ifs
    · rfl
    · rfl
    · exact hy
  case off =>
    have hy : y.mode = .off := (hsame (by simp [h])).trans h
    rw [endStep_kept _ _ _ _ (by simp [hy]) (by simp [hy]), hy]
  case follow =>
    have hy : y.mode = .follow := (hsame (by simp [h])).trans h
    rw [endStep_kept _ _ _ _ (by simp [hy]) (by simp [hy]), hy]

/-- What a step makes of the mode and the phase of a gauge of the unit. -/
theorem endedGauges_modes (s : State) (g : Fin 6) :
    let x := s.gauge.gauges[g]
    let z := (endedGauges s)[g]
    (x.mode ≠ .sweep → z.phase = x.phase)
    ∧ (x.mode = .sweep → sweepAt (steppedGauges s) .up 1079 = true → z.mode = .sweep ∧ z.phase = .down)
    ∧ (x.mode = .sweep → sweepAt (steppedGauges s) .down 0 = true → z.mode = .follow)
    ∧ (x.mode = .sweep → ¬ sweepAt (steppedGauges s) .up 1079 = true → ¬ sweepAt (steppedGauges s) .down 0 = true →
        z.mode = .sweep ∧ z.phase = x.phase)
    ∧ (x.mode = .ret → z.mode = if movedAngle s g x = 0 then .off else .ret)
    ∧ (x.mode = .manual → z.mode = if silenceEnds s.gauge then (if s.gauge.live then .follow else .ret) else .manual)
    ∧ (x.mode = .off → z.mode = .off) ∧ (x.mode = .follow → z.mode = .follow) := by
  have hmode : (stepGauge s g s.gauge.gauges[g]).mode =
      if s.gauge.gauges[g].mode = .ret ∧ decide (movedAngle s g s.gauge.gauges[g] = 0) = true then .off
      else s.gauge.gauges[g].mode := by
    rw [stepGauge_eq]
    simp only [decide_eq_true_eq]
  have hphase : (stepGauge s g s.gauge.gauges[g]).phase = s.gauge.gauges[g].phase := by rw [stepGauge_eq]
  have hmodes := endStep_modes (released := silenceEnds s.gauge) (live := s.gauge.live) hmode hphase
    (fun h => sweepAt_stepped_exclusive (a := 1079) (b := 0) h)
  simpa only [decide_eq_true_eq, ← endedGauges_get] using hmodes

/-- What a step makes of a gauge but for its mode and phase. -/
theorem endedGauges_angles (s : State) (g : Fin 6) : (endedGauges s)[g] = { s.gauge.gauges[g] with
    mode := (endedGauges s)[g].mode
    phase := (endedGauges s)[g].phase
    target := gaugeTarget s g s.gauge.gauges[g]
    commanded := movedAngle s g s.gauge.gauges[g]
    staged := if s.gauge.gauges[g].mode = .off ∨ (s.gauge.gauges[g].mode = .ret ∧ movedAngle s g s.gauge.gauges[g] = 0) then
        ⟨⟨0, false⟩, ⟨0, false⟩⟩
      else dutyPair (movedAngle s g s.gauge.gauges[g]) s.settings.work.offsets[g]
    fresh := true } := by
  conv_lhs => rw [endedGauges_get, endStep_eq, ← endedGauges_get, stepGauge_eq]

theorem stepGauges_moves (s : State) (g : Fin 6) :
    let x := s.gauge.gauges[g]
    let y := (endedGauges s)[g]
    let goal := gaugeTarget s g x
    let limit := if x.mode = .ret then 16 else slewLimit g
    let moved :=
      if x.mode = .off then 0
      else if x.commanded ≤ goal then min goal (x.commanded + limit) else max goal (x.commanded - limit)
    let all (ph : SweepPhase) (angle : Nat) := ∀ h : Fin 6, s.gauge.gauges[h].mode = .sweep →
      s.gauge.gauges[h].phase = ph ∧ (endedGauges s)[h].commanded = angle
    y.commanded = moved ∧ y.target = goal ∧ y.latched = x.latched ∧ y.manualAngle = x.manualAngle ∧ y.fresh = true
    ∧ (x.mode ≠ .sweep → y.phase = x.phase)
    ∧ (x.mode = .sweep → all .up 1079 → y.mode = .sweep ∧ y.phase = .down)
    ∧ (x.mode = .sweep → all .down 0 → y.mode = .follow)
    ∧ (x.mode = .sweep → ¬ all .up 1079 → ¬ all .down 0 → y.mode = .sweep ∧ y.phase = x.phase)
    ∧ y.staged = (if x.mode = .off ∨ (x.mode = .ret ∧ moved = 0) then ⟨⟨0, false⟩, ⟨0, false⟩⟩
        else dutyPair moved s.settings.work.offsets[g])
    ∧ (x.mode = .ret → y.mode = if moved = 0 then .off else .ret)
    ∧ (x.mode = .manual → y.mode = if silenceEnds s.gauge then (if s.gauge.live then .follow else .ret) else .manual)
    ∧ (x.mode = .off → y.mode = .off) ∧ (x.mode = .follow → y.mode = .follow) := by
  have hangles := endedGauges_angles s g
  obtain ⟨hphase, hup, hdown, hneither, hret, hmanual, hoff, hfollow⟩ := endedGauges_modes s g
  simp only [sweepAt_stepped] at hup hdown hneither
  exact ⟨congrArg Gauge.commanded hangles, congrArg Gauge.target hangles, (congrArg Gauge.latched hangles :),
    (congrArg Gauge.manualAngle hangles :), congrArg Gauge.fresh hangles, hphase, hup, hdown, hneither,
    congrArg Gauge.staged hangles, hret, hmanual, hoff, hfollow⟩

/-- Settles O13. -/
theorem gaugeStepMovesWithinSlew : Obligations.GaugeStepMovesWithinSlew := by
  intro s g h
  refine ⟨stepGauges { s with timers := { s.timers with gauge := 15625 } }, if_pos h, ?_⟩
  rw [stepGauges_eq]
  exact ⟨rfl, rfl, stepGauges_moves { s with timers := { s.timers with gauge := 15625 } } g⟩

/-- Settles O14. -/
theorem gaugeAndLampEvents : Obligations.GaugeAndLampEvents := by
  intro s
  refine ⟨fun h => ⟨if_pos h, if_pos h, fun l => if_pos h, fun n hn => ?release⟩, fun h => ?frame⟩
  case release =>
    have hsome : (clocked s && s.gauge.silence.isSome) = true := by simp [h, hn]
    exact if_pos hsome
  case frame =>
    refine ⟨frameStart s, if_pos h, rfl, fun hlt => if_pos hlt, fun hle => if_neg (Nat.not_lt.2 hle), rfl, fun g => ?_, ?_⟩
    · exact mapGauges_get Gauge.latch s.gauge.gauges g
    · rw [← allAtRest_iff]
      simp [frameStart]

/-! ### GAUGE SET and GAUGE RELEASE -/

/-- What is left of an answer at once that touches the gauge unit alone, when no park entry is due. -/
theorem gaugeAnswer_settled {p : Port} {f : State → Answer} {s : State} (hfree : PortFree p s) (hpark : ParkNotDue s)
    (hf : (f s).1 = { s with gauge := (f s).1.gauge }) :
    let t := settle s (answerAtOnce p f s)
    Answered p (f s).2 s t ∧ t.gauge.gauges = (f s).1.gauge.gauges ∧ t.gauge.silence = (f s).1.gauge.silence
      ∧ t.meas = s.meas ∧ t.fold = s.fold ∧ SameRecords s t ∧ t.settings = s.settings ∧ t.units = s.units
      ∧ t.service = s.service ∧ t.clock = s.clock ∧ t.timers = s.timers := by
  have hnotDue : ParkNotDue (deliver p (f s).2 (f s).1) := by
    rw [ParkNotDue, deliver_power, hf]
    exact hpark
  have hout : (f s).1.port.service.output = s.port.service.output := by rw [hf]
  dsimp only
  rw [answerAtOnce_free p f s hfree, settle_gauge_notDue s _ hnotDue]
  refine ⟨answered_settled _ hout, by simp, by simp, ?_⟩
  simp only [settle_meas, settle_fold, settle_settings, settle_units, settle_service, settle_clock, settle_timers, SameRecords,
    settle_store_odo, settle_store_a, settle_store_b, settle_store_p, settle_store_charter, settle_store_held,
    settle_store_logPos, deliver_meas, deliver_fold, deliver_settings, deliver_units, deliver_service, deliver_clock,
    deliver_timers, deliver_store]
  rw [hf]
  simp

theorem gaugeSet_bad {gauge : Byte} (h : 5 < gauge.toNat) (p : Port) (angle : BitVec 16) (s : State) :
    gaugeSet p gauge angle s = (s, .bare .badArgument) := dif_neg (by omega)

/-- A GAUGE SET of an existing gauge. -/
theorem gaugeSet_eq {gauge : Byte} {g : Fin 6} (h : gauge.toNat = g.val) (p : Port) (angle : BitVec 16) (s : State) :
    gaugeSet p gauge angle s =
      if p ≠ .service then (s, ⟨.denied, gaugeField s.gauge.gauges[g]⟩)
      else if s.clock.mainFault then (s, ⟨.clockFault, gaugeField s.gauge.gauges[g]⟩)
      else if s.power.park.isSome then (s, ⟨.wrongState, gaugeField s.gauge.gauges[g]⟩)
      else (putManual g angle.toNat s, ⟨.ok, gaugeField (putManual g angle.toNat s).gauge.gauges[g]⟩) := by
  have hlt : gauge.toNat < 6 := by omega
  obtain rfl : g = ⟨gauge.toNat, hlt⟩ := Fin.ext h.symm
  exact dif_pos hlt

theorem gaugeSet_frame (p : Port) (gauge : Byte) (angle : BitVec 16) (s : State) :
    (gaugeSet p gauge angle s).1 = { s with gauge := (gaugeSet p gauge angle s).1.gauge } := by
  unfold gaugeSet
  dsimp only
  split_ifs <;> rfl

theorem gaugeRelease_frame (p : Port) (gauge : Byte) (s : State) :
    (gaugeRelease p gauge s).1 = { s with gauge := (gaugeRelease p gauge s).1.gauge } := by
  unfold gaugeRelease
  dsimp only
  split_ifs <;> rfl

/-- A GAUGE RELEASE of one gauge that its checks let by. -/
theorem gaugeRelease_one {gauge : Byte} {g : Fin 6} (h : gauge.toNat = g.val) {p : Port} {s : State} (hp : p = .service)
    (hfault : ¬ s.clock.mainFault = true) (hpark : ¬ s.power.park.isSome = true) : gaugeRelease p gauge s =
      if s.gauge.gauges[g].mode = .manual then (releaseOneManual g s, .bare .ok) else (s, .bare .wrongState) := by
  have hlt : gauge.toNat < 6 := by omega
  obtain rfl : g = ⟨gauge.toNat, hlt⟩ := Fin.ext h.symm
  unfold gaugeRelease
  rw [if_neg (by omega), if_neg (by simp [hp]), if_neg hfault, if_neg hpark, dif_pos hlt]

theorem gaugeRelease_all {gauge : Byte} (h : gauge.toNat = 6) {p : Port} {s : State} (hp : p = .service)
    (hfault : ¬ s.clock.mainFault = true) (hpark : ¬ s.power.park.isSome = true) :
    gaugeRelease p gauge s = (releaseAllManual s, .bare .ok) := by
  unfold gaugeRelease
  rw [if_neg (by omega), if_neg (by simp [hp]), if_neg hfault, if_neg hpark, dif_neg (by omega)]

/-- Settles O15. -/
theorem manualGaugesAreSetAndReleased : Obligations.ManualGaugesAreSetAndReleased := by
  intro p gauge angle s hfree hpark
  refine ⟨?set, ?release⟩
  case set =>
    obtain ⟨hans, hgauges, hsilence, hrest⟩ :=
      gaugeAnswer_settled hfree hpark (gaugeSet_frame p gauge angle s)
    refine ⟨settle s (answerAtOnce p (gaugeSet p gauge angle) s), rfl, fun h => ?_, fun g h => ?_, hrest⟩
    · rw [gaugeSet_bad h] at hans hgauges
      exact ⟨hans, hgauges⟩
    · rw [gaugeSet_eq h] at hans hgauges hsilence
      split_ifs at hans hgauges hsilence ⊢
      · exact ⟨hans, hgauges, hsilence⟩
      · exact ⟨hans, hgauges, hsilence⟩
      · exact ⟨hans, hgauges, hsilence⟩
      · refine ⟨hgauges, hsilence, ?_⟩
        dsimp only at hgauges
        rw [hgauges]
        exact hans
  case release =>
    obtain ⟨hans, hgauges, hsilence, hrest⟩ :=
      gaugeAnswer_settled hfree hpark (gaugeRelease_frame p gauge s)
    refine ⟨settle s (answerAtOnce p (gaugeRelease p gauge) s), rfl, ?_, hrest⟩
    refine ite_intro (fun hbad => ?_) fun hbad => ite_intro (fun hp => ?_) fun hp => ite_intro (fun hfault => ?_) fun hfault =>
      ite_intro (fun hparked => ?_) fun hparked => ?_
    · rw [gaugeRelease, if_pos hbad] at hans hgauges hsilence
      exact ⟨hans, hgauges, hsilence⟩
    · rw [gaugeRelease, if_neg hbad, if_pos hp] at hans hgauges hsilence
      exact ⟨hans, hgauges, hsilence⟩
    · rw [gaugeRelease, if_neg hbad, if_neg hp, if_pos hfault] at hans hgauges hsilence
      exact ⟨hans, hgauges, hsilence⟩
    · rw [gaugeRelease, if_neg hbad, if_neg hp, if_neg hfault, if_pos hparked] at hans hgauges hsilence
      exact ⟨hans, hgauges, hsilence⟩
    · refine ⟨fun h => ?all, fun g h => ?one⟩
      case all =>
        rw [gaugeRelease_all h (not_not.1 hp) hfault hparked] at hans hgauges hsilence
        exact ⟨hans, hsilence, fun g => by
          rw [hgauges]
          exact mapGauges_get (Gauge.releaseManual s.gauge.live) s.gauge.gauges g⟩
      case one =>
        rw [gaugeRelease_one h (not_not.1 hp) hfault hparked] at hans hgauges hsilence
        refine ite_intro (fun hmanual => ?_) fun hmanual => ?_
        · rw [if_pos hmanual] at hans hgauges hsilence
          have hset : (releaseOneManual g s).gauge.gauges =
              s.gauge.gauges.set g { s.gauge.gauges[g] with mode := if s.gauge.live then .follow else .ret } := by
            show s.gauge.gauges.set g ((s.gauge.gauges[g]).releaseManual s.gauge.live) = _
            rw [Gauge.releaseManual, if_pos hmanual]
          refine ⟨hans, hgauges.trans hset, ?_⟩
          rw [hsilence, hgauges]
          simp only [← anyManual_iff]
          rfl
        · rw [if_neg hmanual] at hans hgauges hsilence
          exact ⟨hans, hgauges, hsilence⟩

end Sys2Proof.Proofs.Gauges

/-! PROOFS. What the operations leave of the ports, and what a command does under a grant that it is given at once. -/

namespace Sys2Proof.Proofs.Grants

open Sys2Proof Sys2Proof.Machine Sys2Proof.Proofs.Basics

/-! ### Notices -/

theorem bit_or (x m n : BitVec 8) (h : x &&& n = n) : (x ||| m) &&& n = n := by
  ext i hi
  have hbit := congrArg (fun y : BitVec 8 => y[i]) h
  simp only [BitVec.getElem_and, BitVec.getElem_or] at hbit ⊢
  cases hx : x[i] <;> cases hn : n[i] <;> simp_all

/-- Of the ports, no more than the notice sets changed, and no flag was taken out of one. -/
structure PortsKept (s t : State) : Prop where
  frontSlot : t.port.front.slot = s.port.front.slot := by simp
  rearSlot  : t.port.rear.slot = s.port.rear.slot := by simp
  service   : t.port.service = s.port.service := by simp
  front     : ∀ n : Notice, s.port.front.notices &&& n.bit = n.bit → t.port.front.notices &&& n.bit = n.bit
  rear      : ∀ n : Notice, s.port.rear.notices &&& n.bit = n.bit → t.port.rear.notices &&& n.bit = n.bit

theorem PortsKept.of_port {s t : State} (h : t.port = s.port) : PortsKept s t where
  frontSlot := by rw [h]
  rearSlot := by rw [h]
  service := by rw [h]
  front _ := by rw [h]; exact id
  rear _ := by rw [h]; exact id

theorem PortsKept.rfl' (s : State) : PortsKept s s := .of_port rfl

theorem PortsKept.trans {s t u : State} (h : PortsKept s t) (k : PortsKept t u) : PortsKept s u where
  frontSlot := k.frontSlot.trans h.frontSlot
  rearSlot := k.rearSlot.trans h.rearSlot
  service := k.service.trans h.service
  front n := k.front n ∘ h.front n
  rear n := k.rear n ∘ h.rear n

theorem PortsKept.after {s t u : State} (k : PortsKept t u) (h : t.port = s.port) : PortsKept s u := (PortsKept.of_port h).trans k

theorem PortsKept.before {s t u : State} (h : PortsKept s t) (k : u.port = t.port) : PortsKept s u := h.trans (.of_port k)

theorem PortsKept.ite {b : Prop} [Decidable b] {s t u : State} (h : PortsKept s t) (k : PortsKept s u) :
    PortsKept s (if b then t else u) := by
  split_ifs
  · exact h
  · exact k

theorem PortsKept.when {b : Prop} [Decidable b] {s t : State} (h : PortsKept s t) : PortsKept s (if b then t else s) :=
  h.ite (.rfl' s)

theorem PortsKept.notified {s t : State} (h : PortsKept s t) {n : Notice} (hs : Notified n s) : Notified n t :=
  ⟨h.front n hs.1, h.rear n hs.2⟩

theorem PortsKept.waiting {s t : State} (h : PortsKept s t) (p : Port) : waitingRequest t p = waitingRequest s p := by
  cases p
  · unfold waitingRequest; rw [h.frontSlot]
  · unfold waitingRequest; rw [h.rearSlot]
  · unfold waitingRequest; rw [h.service]

theorem notify_portsKept (l : Link) (n : Notice) (s : State) : PortsKept s (notify l n s) where
  front m h := by
    cases l
    · exact bit_or _ _ _ h
    · exact h
  rear m h := by
    cases l
    · exact h
    · exact bit_or _ _ _ h

theorem notifyBoth_portsKept (n : Notice) (s : State) : PortsKept s (notifyBoth n s) :=
  (notify_portsKept .front n s).trans (notify_portsKept .rear n _)

theorem notifyBothIf_portsKept (b : Bool) (n : Notice) (s : State) : PortsKept s (notifyBothIf b n s) :=
  .when (notifyBoth_portsKept n s)

theorem bit_or_self (x n : BitVec 8) : (x ||| n) &&& n = n := by
  rw [BitVec.or_comm]
  exact bit_or n x n (BitVec.and_self)

/-- A flag set for both consoles stands in both sets. -/
theorem notified_notifyBoth (n : Notice) (s : State) : Notified n (notifyBoth n s) := ⟨bit_or_self _ _, bit_or_self _ _⟩

theorem notified_notifyBothIf {b : Bool} (h : b = true) (n : Notice) (s : State) : Notified n (notifyBothIf b n s) := by
  rw [notifyBothIf, if_pos h]
  exact notified_notifyBoth n s

theorem countViews_portsKept (old : List Entry) (s : State) : PortsKept s (countViews old s) := by
  unfold countViews
  dsimp only
  have hseq (x : WarningUnit) : PortsKept s { s with warn := x } := .of_port rfl
  refine PortsKept.ite ?_ ?_
  · exact (PortsKept.ite ((hseq _).trans (notify_portsKept _ _ _)) (hseq _)).trans (notify_portsKept _ _ _)
  · exact .ite ((hseq _).trans (notify_portsKept _ _ _)) (hseq _)

theorem settle_portsKept (a s : State) : PortsKept s (settle a s) :=
  (PortsKept.of_port (by simp)).trans (countViews_portsKept a.warn.list _)

/-! ### The operations of a fold, and of the service unit -/

theorem recordsNotified_portsKept (b : Bool) (n : Notice) (f : RecordStore → RecordStore) (s : State) :
    PortsKept s (notifyBothIf b n (s.withStore f)) := (notifyBothIf_portsKept b n _).after (withStore_port s f)

theorem reloadOdo_portsKept (s : State) : PortsKept s (reloadOdo s) :=
  (recordsNotified_portsKept _ _ _ s).before (raise_port _ _ _ _)

theorem verifyOdo_portsKept (s : State) : PortsKept s (verifyOdo s) := .when (reloadOdo_portsKept s)

theorem verifyCharter_portsKept (s : State) : PortsKept s (verifyCharter s) :=
  .when <| (recordsNotified_portsKept _ _ _ s).before (raise_port _ _ _ _)

theorem verifyRecord_portsKept (r : RecordNo) (s : State) : PortsKept s (verifyRecord r s) := by
  cases r
  · exact verifyOdo_portsKept s
  · exact .of_port (verifyTrip_port .a s)
  · exact .of_port (verifyTrip_port .b s)
  · exact .of_port (verifyTrip_port .p s)
  · exact verifyCharter_portsKept s

theorem foldOdo_portsKept (metres : Nat) (s : State) : PortsKept s (foldOdo metres s) := by
  refine (verifyOdo_portsKept s).trans ?_
  unfold foldOdo
  dsimp only
  exact .ite (.of_port rfl) (.of_port rfl)

theorem foldCharter_portsKept (metres ml run mov : Nat) (s : State) : PortsKept s (foldCharter metres ml run mov s) :=
  .when <| (verifyCharter_portsKept s).trans <| .when (.of_port rfl)

theorem foldRecords_portsKept (metres ml run mov : Nat) (s : State) : PortsKept s (foldRecords metres ml run mov s) := by
  refine (foldOdo_portsKept metres s).trans ?_
  unfold foldRecords
  exact (PortsKept.of_port (by simp)).trans (foldCharter_portsKept metres ml run mov _)

theorem storeItems_portsKept (old new : Vector Item 8) (s : State) : PortsKept s (storeItems old new s) :=
  (notifyBothIf_portsKept _ _ _).after rfl

theorem evaluateFrom_portsKept (old items : Vector Item 8) (s : State) : PortsKept s (evaluateFrom old items s) :=
  (storeItems_portsKept _ _ s).trans (.of_port (handItemSets_port _ _ _))

theorem evaluate_portsKept (s : State) : PortsKept s (evaluate s) := evaluateFrom_portsKept _ _ s

theorem performFold_portsKept (s : State) : PortsKept s (performFold s) := by
  refine (foldRecords_portsKept (trialMetres s) (trialMl s) s.fold.buf.run s.fold.buf.moving s).trans ?_
  unfold performFold deliverItems
  exact (evaluateFrom_portsKept _ _ _).before (withFold_port _ _)

theorem commandFold_portsKept (s : State) : PortsKept s (commandFold s) := by
  unfold commandFold
  split
  · exact performFold_portsKept s
  · exact ((performFold_portsKept _).after (withFoldBare_port _ _)).before (withFold_port _ _)

/-! ### A command under its grant -/

/-- The work of a command under the grant that it is given at once. -/
def workAtOnce (p : Port) (r : Request) (work : Bool → State → Answer) (s : State) : Answer :=
  work s.clock.mainFault (granted p r s)

/-- With no port waiting, settling grants nothing. -/
theorem settle_grant {s t : State} (h : ∀ q, waitingRequest t q = none) : (settle s t).store.grant = t.store.grant := by
  have hfind : t.store.order.find? (portWaits t) = none := by
    rw [List.find?_eq_none]
    intro q _
    simp [portWaits, h q]
  unfold settle
  rw [settleFrom_store_eq]
  unfold arbitrate
  have hchimes : portWaits (settleChimes t) = portWaits t :=
    funext fun q => congrArg Option.isSome ((PortsKept.of_port (settleChimes_port t)).waiting q)
  rw [settleChimes_store, hchimes, hfind]
  split_ifs <;> simp

/-- What a command leaves that was given its grant at once; `a` is its work. -/
structure Done (p : Port) (s : State) (a : Answer) (t : State) : Prop where
  answered : Answered p a.2 s t
  meas     : t.meas = a.1.meas
  fold     : t.fold = a.1.fold
  records  : SameRecords a.1 t
  grant    : t.store.grant = none
  settings : t.settings = a.1.settings
  units    : t.units = a.1.units
  service  : t.service = a.1.service
  clock    : t.clock = a.1.clock
  timers   : t.timers = a.1.timers
  ports    : ∀ n : Notice, Notified n a.1 → Notified n t

/-- A reply takes no flag out of a notice set. -/
theorem deliver_notified (p : Port) (r : Reply) {n : Notice} {s : State} (h : Notified n s) : Notified n (deliver p r s) := by
  cases p
  · exact h
  · exact h
  · unfold deliver serviceReply
    split_ifs <;> exact h

theorem underGrant_done {p : Port} {r : Request} {early : State → Option Status} {work : Bool → State → Answer} {s : State}
    (h : StoreFree p s) (he : early s = none) (hports : PortsKept (granted p r s) (workAtOnce p r work s).1) :
    Done p s (workAtOnce p r work s) (settle s (underGrant p r early work s)) := by
  have hrun : underGrant p r early work s = (deliver p (workAtOnce p r work s).2 (workAtOnce p r work s).1).withStore
      fun x => { x with grant := none } := underGrant_free p r early work s h he
  have hout : (workAtOnce p r work s).1.port.service.output = s.port.service.output := by
    rw [hports.service, granted_output]
  have hwait (q : Port) : waitingRequest ((deliver p (workAtOnce p r work s).2 (workAtOnce p r work s).1).withStore
      fun x => { x with grant := none }) q = none := by
    rw [(PortsKept.of_port (withStore_port _ _)).waiting q, waitingRequest_deliver, hports.waiting q]
    split_ifs with hq
    · rfl
    · show waitingRequest (holdRequest p r s) q = none
      rw [waitingRequest_hold, if_neg hq]
      exact h.2.1 q
  rw [hrun]
  exact
    { answered := (answered_settle _ _ _ _ _).2 (answered_deliver p _ s _ hout)
      meas := by simp
      fold := by simp
      records := by simp [SameRecords]
      grant := settle_grant hwait
      settings := by simp
      units := by simp
      service := by simp
      clock := by simp
      timers := by simp
      ports := fun n hn => (settle_portsKept s _).notified (deliver_notified p _ hn) }

end Sys2Proof.Proofs.Grants

/-! PROOFS. Where a fold goes, the fold expiry, the tank model, and the write of a calibration constant (chapter 3). -/

namespace Sys2Proof.Proofs.Folds

open Sys2Proof Sys2Proof.Machine Sys2Proof.Proofs.Basics Sys2Proof.Proofs.Grants Sys2Proof.Proofs.FoldConversion

/-! ### The array -/

/-- A pending write that starts changes what is pending and what is in flight. -/
theorem startWrite_nv (s : State) : (startWrite s).nv = { s.nv with
    flight := (startWrite s).nv.flight
    pendingSlot := (startWrite s).nv.pendingSlot
    pendingCommit := (startWrite s).nv.pendingCommit } := by
  unfold startWrite
  (repeat' split) <;> rfl

/-- A pending slot write stays pending, or goes in flight. -/
theorem startWrite_queued {n : Nat} {s : State} (h : s.nv.pendingSlot = some n) : SlotWriteQueued n (startWrite s) := by
  unfold startWrite
  split
  · rw [h]
    exact .inr ⟨_, _, rfl⟩
  · exact .inl h

/-- A park entry that begins queues a slot write of ODO as it stands. -/
theorem settlePark_nv (s : State) : (settlePark s).nv = s.nv
    ∨ (settlePark s).nv = { s.nv with pendingSlot := some (s.store.odo.distance / 100) } := by
  unfold settlePark
  split_ifs
  · exact .inr rfl
  · exact .inl rfl
  · exact .inr rfl
  · exact .inl rfl

theorem settle_nv (a s : State) : (settle a s).nv = (startWrite (settlePark (arbitrate (settleChimes s)))).nv := by
  simp [settle, settleFrom]

/-- Settling leaves the slots and the block. -/
theorem settle_array (a s : State) : (settle a s).nv.slots = s.nv.slots ∧ (settle a s).nv.block = s.nv.block := by
  have hpark := settlePark_nv (arbitrate (settleChimes s))
  rw [settle_nv, startWrite_nv]
  rcases hpark with hpark | hpark
  · simp [hpark]
  · simp [hpark]

/-- A slot write of ODO as it stands is still pending when the event is settled, or has gone in flight. -/
theorem settle_queued {n : Nat} {a s : State} (h : s.nv.pendingSlot = some n) (hn : n = s.store.odo.distance / 100) :
    SlotWriteQueued n (settle a s) := by
  have hpending : (settlePark (arbitrate (settleChimes s))).nv.pendingSlot = some n := by
    rcases settlePark_nv (arbitrate (settleChimes s)) with hpark | hpark
    · simpa [hpark] using h
    · rw [hpark, arbitrate_store]
      simp [hn]
  have hqueued := startWrite_queued hpending
  unfold SlotWriteQueued at hqueued ⊢
  rwa [settle_nv]

/-- A fold changes no more of the array than the pending slot write, which it sets when ODO crosses 1,000 m. -/
theorem performFold_nv {s : State} (h : RecordsSealed s.store) : (performFold s).nv = { s.nv with
    pendingSlot := if s.store.odo.distance / 1000 ≠ foldedOdo s / 1000 then some (foldedOdo s / 100) else s.nv.pendingSlot } := by
  have hnv : (performFold s).nv = (foldOdo (trialMetres s) s).nv := by simp [performFold, foldRecords]
  rw [hnv]
  unfold foldOdo
  rw [verifyOdo_sealed s h.1]
  dsimp only
  by_cases hcross : s.store.odo.distance / 1000 ≠ foldedOdo s / 1000
  · rw [if_pos hcross, if_pos]
    · rfl
    · exact decide_eq_true hcross
  · rw [if_neg hcross, if_neg]
    · rfl
    · exact fun h => hcross (of_decide_eq_true h)

/-! ### FOLD -/

/-- Settles O17. -/
theorem foldDelivers : Obligations.FoldDelivers := by
  intro s hgranted hsealed
  have hstore := performFold_store s hsealed
  have hnv := performFold_nv hsealed
  refine ⟨afterFold s, exec_fold_granted hgranted, afterFold_odo_distance hsealed, ?_, ?_, ?_, fun hcross => ?_,
    afterFold_a_body hsealed, ?_, ?_, ?_, ?_, ?_, ?_, ?_, ?_, ?_, ?_, ?_, ?_, ?_, ?_, ?_, ?_, ?_, ?_, ?_, ?_⟩
  · have hopen : (afterFold s).store.odo.allowanceOpen = (s.store.odo.allowanceOpen && decide (foldedOdo s < 100000)) := by
      simp only [afterFold, settle_store_odo, withFoldBare_store, hstore]
      rfl
    rw [hopen, Bool.and_eq_true, decide_eq_true_eq]
  · simp [afterFold, hstore]
  · simp [afterFold, hstore]
  · refine settle_queued ?_ ?_
    · rw [withFoldBare_nv, hnv, if_pos hcross]
    · simp [hstore]
  · simp [afterFold, hstore]
  · simp [afterFold, hstore]
  · simp [afterFold, hstore]
  · simp [afterFold, hstore]
  · simp [afterFold, hstore]
  · simp [afterFold, hstore]
  · simp [afterFold, hstore]
  · rw [afterFold_fold, performFold_fold]
    rfl
  · rw [afterFold_fold]
  · rw [afterFold_fold, performFold_fold]
    rfl
  · rw [afterFold_fold, performFold_fold]
    rfl
  · simp [afterFold]
  · simp [afterFold]
  · simp [afterFold]
  · simp [afterFold]
  · simp [afterFold]
  · simp [afterFold, hstore]
  · simp [afterFold, hstore]
  · rw [afterFold, (settle_array _ _).1, withFoldBare_nv, hnv]
  · rw [afterFold, (settle_array _ _).2, withFoldBare_nv, hnv]

/-! ### The service items (R140, R141) -/

theorem counts_iff (x : Item) : x.counts = true ↔ x.state = .ok ∨ x.state = .soon ∨ x.state = .due ∨ x.state = .overdue := by
  unfold Item.counts
  cases x.state <;> simp

/-- R140, R141: what a fold takes from an item. -/
theorem take_eq (d : ItemDef) (metres idle engine : Nat) (cold : Bool) (x : Item) :
    let y := x.take d metres idle engine cold
    let consumed := metres * (if cold then d.wc else d.wn) + x.rq
    let n := idle * d.wi + x.ri
    let e := engine + x.re
    (x.counts = true → 0 < d.km →
      y.dist = max (-99999000) (x.dist - (consumed / 4 : Nat) - (n / 240 : Nat)) ∧ y.rq = consumed % 4 ∧ y.ri = n % 240)
    ∧ (¬ (x.counts = true ∧ 0 < d.km) → y.dist = x.dist ∧ y.rq = x.rq ∧ y.ri = x.ri)
    ∧ (x.counts = true → 0 < d.hours → y.time = max (-3600000) (x.time - (e / 4 : Nat)) ∧ y.re = e % 4)
    ∧ (¬ (x.counts = true ∧ 0 < d.hours) → y.time = x.time ∧ y.re = x.re)
    ∧ y.due = x.due := by
  unfold Item.take
  by_cases hcounts : x.counts = true
  · by_cases hkm : 0 < d.km <;> by_cases hhours : 0 < d.hours <;>
      simp [hcounts, hkm, hhours, Item.takeDistance, Item.takeHours]
  · simp [hcounts]

theorem afterFold_item (s : State) (k : Fin 8) : ∃ st, (afterFold s).service.items[k] = { (s.service.items[k]).take
    s.settings.work.items[k] (trialMetres s) s.fold.buf.idle s.fold.buf.engine s.fold.buf.cold with state := st } := by
  have hservice : (afterFold s).service = (performFold s).service := by simp [afterFold]
  refine ⟨evalState s.settings.work.items[k] (today s) ((s.service.items[k]).take s.settings.work.items[k] (trialMetres s)
    s.fold.buf.idle s.fold.buf.engine s.fold.buf.cold), ?_⟩
  rw [hservice, performFold_service]
  simp [sealItems, evalItems]

/-- Settles O19. -/
theorem foldConsumesServiceItems : Obligations.FoldConsumesServiceItems := by
  intro s k hgranted _
  obtain ⟨st, hitem⟩ := afterFold_item s k
  refine ⟨afterFold s, exec_fold_granted hgranted, ?_⟩
  dsimp only
  rw [hitem]
  simp only [← counts_iff]
  exact take_eq _ _ _ _ _ _

/-! ### FOLD EXPIRY -/

/-- Settles O20. -/
theorem foldExpiryCounts : Obligations.FoldExpiryCounts := by
  intro s
  refine ⟨fun h => ⟨foldExpiry { s with timers := { s.timers with fold := 250000 } }, if_pos h, rfl, rfl, rfl, ?_, fun hg => ?_,
    fun g hg => ?_⟩, fun h => if_neg (Bool.eq_false_iff.1 h)⟩
  · have hcold : coolantCold s = decide (s.meas.channels[2].state = .fault ∨ s.meas.channels[2].value < s.settings.work.cold) := by
      simp [coolantCold]
      rfl
    show s.fold.buf.withQs (countQs s s.fold.buf.qs) = _
    simp only [FoldBuffer.withQs, countQs, hcold]
    rfl
  · show s.store.grant.map _ = none
    rw [hg]
    rfl
  · have hcold : coolantCold s = decide (s.meas.channels[2].state = .fault ∨ s.meas.channels[2].value < s.settings.work.cold) := by
      simp [coolantCold]
      rfl
    show s.store.grant.map (fun g => { g with since := countQs s g.since }) = _
    rw [hg, Option.map_some]
    simp only [countQs, hcold]
    rfl

/-! ### The tank model -/

theorem fuelFault_eq (s : State) :
    fuelFault s = false ↔ s.meas.channels[0].state ≠ .fault ∧ s.meas.channels[1].state ≠ .fault := by
  simp [fuelFault]

/-- R53: a correction changes the tank. -/
theorem correctTank_eq (s : State) : ∃ c, correctTank s = { s with fold := { s.fold with
    tank :=
      if (s.power.state = .run ∨ s.power.state = .acc) ∧ s.fold.tank.settled = true ∧ fuelFault s = false then
        { s.fold.tank with
          q := clampQ s (s.fold.tank.q + truncDiv (senderSum s - s.fold.tank.q) (correctionDivisor s)) }
      else s.fold.tank
    check := c } } := by
  unfold correctTank
  split_ifs
  · exact ⟨_, rfl⟩
  · exact ⟨_, rfl⟩

/-- R55: the end of transfer hold. -/
theorem exec_transferHoldEnd {s : State} (h : clocked s = true) :
    exec .transferHoldEnd s = .next { s with fold := { s.fold with hold := endHold s.fold.hold } } := if_pos h

/-- Settles O21. -/
theorem tankModelCorrects : Obligations.TankModelCorrects := by
  intro s h
  refine ⟨?correct, fun n hn => ?ends, fun hn => ?stays⟩
  case correct =>
    obtain ⟨c, heq⟩ := correctTank_eq { s with timers := { s.timers with model := 4000000 } }
    refine ⟨_, (if_pos h : exec .modelExpiry s = _).trans (congrArg _ heq), rfl, rfl, ?_⟩
    simp only [fuelFault_eq]
    rfl
  case ends =>
    rw [exec_transferHoldEnd h, hn]
    rfl
  case stays =>
    have hsame : endHold s.fold.hold = s.fold.hold := by
      cases hhold : s.fold.hold with
      | off => rfl
      | pumping => rfl
      | ending n => exact absurd hhold (hn n)
    rw [exec_transferHoldEnd h, hsame]

end Sys2Proof.Proofs.Folds

/-! PROOFS. A command fold under a grant that is given at once, and the write of a calibration constant (R41, R49, R63). -/

namespace Sys2Proof.Proofs.CommandFolds

open Sys2Proof Sys2Proof.Machine Sys2Proof.Proofs.Basics Sys2Proof.Proofs.Grants

/-- The state is that of `s` but for the record store, the fold engine and the blocks that a fold tells. -/
structure FoldedFrom (s t : State) : Prop where
  odo      : t.store.odo = takeOdo (trialMetres s) s.store.odo
  a        : t.store.a = takeTrip 1 (trialMetres s) (trialMl s) s.fold.buf.run s.fold.buf.moving s.store.a
  b        : t.store.b = takeTrip 2 (trialMetres s) (trialMl s) s.fold.buf.run s.fold.buf.moving s.store.b
  p        : t.store.p = takeTrip 3 (trialMetres s) (trialMl s) s.fold.buf.run s.fold.buf.moving s.store.p
  charter  : t.store.charter = takeCharter (trialMetres s) (trialMl s) s.fold.buf.run s.fold.buf.moving s.store.charter
  held     : t.store.held = s.store.held
  logPos   : t.store.logPos = s.store.logPos
  fold     : t.fold = (FoldEngine.finish s.settings.work.kr s.settings.work.kf (trialMetres s) (trialMl s) s.fold).seal
  meas     : t.meas = s.meas
  settings : t.settings = s.settings
  units    : t.units = s.units
  clock    : t.clock = s.clock
  timers   : t.timers = s.timers
  power    : t.power = s.power

theorem performFold_from {s : State} (h : RecordsSealed s.store) : FoldedFrom s (performFold s) := by
  have hstore := performFold_store s h
  exact
    { odo := by rw [hstore], a := by rw [hstore], b := by rw [hstore], p := by rw [hstore], charter := by rw [hstore]
      held := by rw [hstore], logPos := by rw [hstore], fold := performFold_fold s
      meas := by simp, settings := by simp, units := by simp, clock := by simp, timers := by simp, power := by simp }

theorem takeTrip_sealed {no metres ml run mov : Nat} {x : Trip} (h : x.check = tripCheck no x.body) :
    (takeTrip no metres ml run mov x).check = tripCheck no (takeTrip no metres ml run mov x).body := by
  unfold takeTrip
  split_ifs
  · exact h
  · rfl

theorem takeCharter_sealed {metres ml run mov : Nat} {c : Charter} (h : c.check = charterCheck c) :
    (takeCharter metres ml run mov c).check = charterCheck (takeCharter metres ml run mov c) := by
  unfold takeCharter
  split_ifs
  · rfl
  · exact h

theorem FoldedFrom.sealed {s t : State} (h : FoldedFrom s t) (hs : RecordsSealed s.store) : RecordsSealed t.store := by
  obtain ⟨ho, ha, hb, hp, hc⟩ := hs
  refine ⟨?_, ?_, ?_, ?_, ?_⟩
  · rw [h.odo]; rfl
  · rw [h.a]; exact takeTrip_sealed ha
  · rw [h.b]; exact takeTrip_sealed hb
  · rw [h.p]; exact takeTrip_sealed hp
  · rw [h.charter]; exact takeCharter_sealed hc

theorem FoldedFrom.odo_distance {s t : State} (h : FoldedFrom s t) : t.store.odo.distance = foldedOdo s := by
  rw [h.odo, takeOdo_distance]

theorem FoldedFrom.a_body {s t : State} (h : FoldedFrom s t) : t.store.a.body = foldedBody s s.store.a.body := by
  rw [h.a, takeTrip_body]

theorem FoldedFrom.b_body {s t : State} (h : FoldedFrom s t) : t.store.b.body = foldedBody s s.store.b.body := by
  rw [h.b, takeTrip_body]

theorem FoldedFrom.p_body {s t : State} (h : FoldedFrom s t) : t.store.p.body = foldedBody s s.store.p.body := by
  rw [h.p, takeTrip_body]

theorem FoldedFrom.charter_body {s t : State} (h : FoldedFrom s t) : t.store.charter.body = foldedCharter s := by
  rw [h.charter, takeCharter_body]

theorem FoldedFrom.trip_body {s t : State} (h : FoldedFrom s t) (k : TripNo) :
    (t.store.trip k).body = foldedBody s (s.store.trip k).body := by
  cases k
  · exact h.a_body
  · exact h.b_body
  · exact h.p_body

theorem FoldedFrom.buf {s t : State} (h : FoldedFrom s t) : t.fold.buf = ⟨0, 0, 0, 0, 0, 0, 0, false⟩ := by
  rw [h.fold]
  rfl

/-- What a port's grant takes for a fold is what the state had before it. -/
theorem granted_from {p : Port} {r : Request} {s t : State} (h : FoldedFrom (granted p r s) t) : FoldedFrom s t := by
  have hm : trialMetres (granted p r s) = trialMetres s := by simp [trialMetres]
  have hl : trialMl (granted p r s) = trialMl s := by simp [trialMl]
  obtain ⟨ho, ha, hb, hp, hc, hheld, hlog, hfold, hmeas, hsettings, hunits, hclock, htimers, hpower⟩ := h
  simp only [granted_fold, granted_settings, hm, hl] at ho ha hb hp hc hfold
  exact ⟨by simpa using ho, by simpa using ha, by simpa using hb, by simpa using hp, by simpa using hc, by simpa using hheld,
    by simpa using hlog, hfold, by simpa using hmeas, by simpa using hsettings, by simpa using hunits, by simpa using hclock,
    by rw [htimers]; simp [granted], by simpa using hpower⟩

theorem granted_sealed {p : Port} {r : Request} {s : State} (h : RecordsSealed s.store) : RecordsSealed (granted p r s).store := by
  simpa [RecordsSealed] using h

/-- R41: the command fold of a grant that is given at once is a whole fold. -/
theorem commandFold_granted (p : Port) (r : Request) (s : State) : commandFold (granted p r s) = performFold (granted p r s) :=
  commandFold_fresh (newGrant p s) _ (granted_grant p r s) (by simp [newGrant]) rfl

/-- R41: what a command fold under such a grant leaves. -/
theorem commandFold_from (p : Port) (r : Request) {s : State} (h : RecordsSealed s.store) :
    FoldedFrom s (commandFold (granted p r s)) := by
  rw [commandFold_granted]
  exact granted_from (performFold_from (granted_sealed h))

/-! ### A refusal at arrival -/

/-- A command that its arrival checks refuse has answered, and has changed no figure. -/
theorem refused_settled {p : Port} {r : Request} {early : State → Option Status} {work : Bool → State → Answer} {s : State}
    (h : StoreFree p s) {st : Status} (he : early s = some st) :
    Answered p ⟨st, []⟩ s (settle s (underGrant p r early work s))
      ∧ SameFigures s (settle s (underGrant p r early work s)) := by
  rw [underGrant_refused p r early work s ⟨h.1, h.2.1 p⟩ st he]
  exact ⟨answered_settled s rfl, by simp [SameFigures, SameRecords]⟩

/-! ### WRITE SETTING of Kr or Kf -/

theorem calInRange_iff (c : CalConstant) (v : Nat) : calInRange c v = true ↔
    match c with | .kr => 1000 ≤ v ∧ v ≤ 25000 | .kf => 1 ≤ v ∧ v ≤ 4000 := by
  cases c <;> simp [calInRange]

/-- What a write of a constant leaves, once it has its grant. -/
theorem workKrKf_granted (p : Port) (c : CalConstant) (v : BitVec 16) {s : State} (h : s.clock.mainFault = false) :
    workAtOnce p (.writeKrKf c v) (workKrKf c v) s
      = (installCal c v.toNat (commandFold (granted p (.writeKrKf c v) s)), .bare .ok) := by
  unfold workAtOnce workKrKf
  rw [h]
  rfl

theorem installCal_port (c : CalConstant) (v : Nat) (s : State) : (installCal c v s).port = s.port := by cases c <;> rfl

theorem installCal_meas (c : CalConstant) (v : Nat) (s : State) : (installCal c v s).meas = s.meas := by cases c <;> rfl

theorem installCal_units (c : CalConstant) (v : Nat) (s : State) : (installCal c v s).units = s.units := by cases c <;> rfl

theorem installCal_clock (c : CalConstant) (v : Nat) (s : State) : (installCal c v s).clock = s.clock := by cases c <;> rfl

theorem installCal_timers (c : CalConstant) (v : Nat) (s : State) : (installCal c v s).timers = s.timers := by cases c <;> rfl

theorem installCal_buf (c : CalConstant) (v : Nat) (s : State) : (installCal c v s).fold.buf = s.fold.buf := by cases c <;> rfl

theorem installCal_check (c : CalConstant) (v : Nat) (s : State) :
    (installCal c v s).settings.check = settingsCheck (installCal c v s).settings.work := by cases c <;> rfl

theorem installCal_store (c : CalConstant) (v : Nat) (s : State) : (installCal c v s).store = s.store := by cases c <;> rfl

/-- Settles O22. -/
theorem calibrationWriteFoldsFirst : Obligations.CalibrationWriteFoldsFirst := by
  intro p c v s hfree hsealed
  refine ⟨settle s (underGrant p (.writeKrKf c v) (earlyKrKf p c v) (workKrKf c v) s), rfl, ?_⟩
  refine ⟨fun hp => ?denied, fun hp hrange => ?range, fun hp hrange hfault => ?fault, fun hp hrange hfault => ?done⟩
  case denied => exact refused_settled hfree (by simp [earlyKrKf, hp])
  case range =>
    have hbad : calInRange c v.toNat = false := Bool.eq_false_iff.2 fun h => hrange ((calInRange_iff c v.toNat).1 h)
    exact refused_settled hfree (by simp [earlyKrKf, hp, hbad])
  case fault =>
    have hgood : calInRange c v.toNat = true := (calInRange_iff c v.toNat).2 hrange
    exact refused_settled hfree (by simp [earlyKrKf, faultRefusal, hp, hgood, hfault])
  case done =>
    have hgood : calInRange c v.toNat = true := (calInRange_iff c v.toNat).2 hrange
    have hnone : earlyKrKf p c v s = none := by simp [earlyKrKf, faultRefusal, hp, hgood, hfault]
    have hwork := workKrKf_granted p c v hfault
    have hfold := commandFold_from p (.writeKrKf c v) hsealed
    have hports : PortsKept (granted p (.writeKrKf c v) s) (workAtOnce p (.writeKrKf c v) (workKrKf c v) s).1 := by
      rw [hwork]
      exact (commandFold_portsKept _).before (installCal_port _ _ _)
    have hdone := underGrant_done hfree hnone hports
    rw [hwork] at hdone
    obtain ⟨hodo, ha, hb, hpp, hcharter, -, -⟩ := hdone.records
    rw [installCal_store] at hodo ha hb hpp hcharter
    refine ⟨hdone.answered, ?_, ?_, ?_, ?_, ?_, ?_, fun hc => ?_, fun hc => ?_, ?_, hdone.grant, ?_, ?_, ?_, ?_⟩
    · rw [hodo, hfold.odo_distance]
    · rw [ha, hfold.a_body]
    · rw [hb, hfold.b_body]
    · rw [hpp, hfold.p_body]
    · rw [hcharter, hfold.charter_body]
    · rw [hdone.fold, installCal_buf, hfold.buf]
    · subst hc
      rw [hdone.settings, hdone.fold]
      refine ⟨?_, rfl, ?_⟩
      · simp [installCal, State.withWork]
      · simp [installCal, hfold.fold, FoldEngine.seal, FoldEngine.finish, trialMl, Nat.mod_eq_sub_div_mul]
    · subst hc
      rw [hdone.settings, hdone.fold]
      refine ⟨?_, rfl, ?_⟩
      · simp [installCal, State.withWork]
      · simp [installCal, hfold.fold, FoldEngine.seal, FoldEngine.finish, trialMetres, Nat.mod_eq_sub_div_mul]
    · rw [hdone.settings, installCal_check]
    · rw [hdone.meas, installCal_meas, hfold.meas]
    · rw [hdone.units, installCal_units, hfold.units]
    · rw [hdone.clock, installCal_clock, hfold.clock]
    · rw [hdone.timers, installCal_timers, hfold.timers]

end Sys2Proof.Proofs.CommandFolds

/-! PROOFS. The commands that change a record (R70 to R74, R79): their refusals, and what they do after a command fold. -/

namespace Sys2Proof.Proofs.RecordCommands

open Sys2Proof Sys2Proof.Machine Sys2Proof.Proofs.Basics Sys2Proof.Proofs.Grants Sys2Proof.Proofs.Folds
open Sys2Proof.Proofs.CommandFolds

/-! ### What the answer of a record is read from -/

/-- The states agree in all that page 0 of a record is read from. -/
structure SameReading (s t : State) : Prop where
  records  : SameRecords s t
  fold     : t.fold = s.fold := by simp
  settings : t.settings = s.settings := by simp
  clock    : t.clock = s.clock := by simp

section
variable {s t : State} (h : SameReading s t) (r : RecordNo)
include h

theorem SameReading.bodyOf : Machine.bodyOf t r = Machine.bodyOf s r := by
  obtain ⟨-, ha, hb, hp, hc, -, -⟩ := h.records
  cases r <;> simp [Machine.bodyOf, ha, hb, hp, hc]

theorem SameReading.forwards : Machine.forwards t r = Machine.forwards s r := by
  obtain ⟨-, ha, hb, hp, hc, -, -⟩ := h.records
  cases r <;> simp [Machine.forwards, ha, hb, hp, hc]

theorem SameReading.distance : reportedDistance t r = reportedDistance s r := by
  simp only [reportedDistance, trialMetres, h.bodyOf, h.forwards, h.fold, h.settings, h.records.1]

theorem SameReading.fuel : reportedFuel t r = reportedFuel s r := by
  simp only [reportedFuel, trialMl, h.bodyOf, h.forwards, h.fold, h.settings]

theorem SameReading.elapsed : Machine.elapsed t r = Machine.elapsed s r := by
  obtain ⟨-, -, -, -, hc, -, -⟩ := h.records
  simp only [Machine.elapsed, h.bodyOf, h.clock, hc]

theorem SameReading.waiting : Machine.waiting t r = Machine.waiting s r := by
  simp only [Machine.waiting, h.bodyOf, h.elapsed]

theorem SameReading.head (page : Nat) : recordHead t r page = recordHead s r page := by
  obtain ⟨ho, -, -, -, hc, -, hlog⟩ := h.records
  have hmarks : recordMarks t r = recordMarks s r := by simp only [recordMarks, h.bodyOf, ho, hc]
  have hphase : phaseAcks t r = phaseAcks s r := by cases r <;> simp only [phaseAcks, hc, hlog]
  simp only [recordHead, hmarks, hphase]

/-- Page 0 of a record is read from the records, the fold engine, the settings and the time. -/
theorem SameReading.page0 : recordPage0 t r = recordPage0 s r := by
  simp only [recordPage0, h.head, h.bodyOf, h.distance, h.fuel, h.elapsed, h.waiting]

/-- Page 1 of a record is read from the same and from the odometer slots. -/
theorem SameReading.page1 (hslots : t.nv.slots = s.nv.slots) : recordPage1 t r = recordPage1 s r := by
  obtain ⟨-, -, -, -, hc, -, -⟩ := h.records
  simp only [recordPage1, h.head, h.bodyOf, hc, hslots]

end

theorem granted_reading (p : Port) (q : Request) (s : State) : SameReading s (granted p q s) where
  records := by simp [SameRecords]

theorem granted_timers (p : Port) (q : Request) (s : State) : (granted p q s).timers = s.timers := by simp [granted]

theorem Done.reading {p : Port} {s t : State} {a : Answer} (h : Done p s a t) : SameReading a.1 t :=
  ⟨h.records, h.fold, h.settings, h.clock⟩

/-! ### A change command under a grant that it is given at once -/

/-- A command that is given its grant at once and leaves the state as its grant found it has changed no figure. -/
theorem underGrant_unchanged {p : Port} {q : Request} {early : State → Option Status} {work : Bool → State → Answer}
    {s : State} (h : StoreFree p s) (he : early s = none) {x : Reply} (hw : workAtOnce p q work s = (granted p q s, x)) :
    Answered p x s (settle s (underGrant p q early work s)) ∧ SameFigures s (settle s (underGrant p q early work s))
      ∧ (settle s (underGrant p q early work s)).store.grant = none := by
  have hdone := underGrant_done (work := work) h he (by rw [hw]; exact .rfl' _)
  rw [hw] at hdone
  refine ⟨hdone.answered, ⟨?_, ?_, ?_, ?_, ?_, ?_, ?_, ?_⟩, hdone.grant⟩
  · rw [hdone.meas, granted_meas]
  · rw [hdone.fold, granted_fold]
  · simpa [SameRecords] using hdone.records
  · rw [hdone.settings, granted_settings]
  · rw [hdone.units, granted_units]
  · rw [hdone.service, granted_service]
  · rw [hdone.clock, granted_clock]
  · rw [hdone.timers, granted_timers]

theorem early_none_clock {s : State} (h : s.clock.mainFault = false) : faultRefusal s = none := by simp [faultRefusal, h]

theorem early_fault_clock {s : State} (h : s.clock.mainFault = true) : faultRefusal s = some .clockFault := by
  simp [faultRefusal, h]

section
variable {p : Port} {q : Request} {r : RecordNo} {allowed : Bool} {check : State → Option Status} {act : State → State}
  {early : State → Option Status} {work : Bool → State → Answer} {s : State}

/-- R63: the command is denied and answered as a read. -/
theorem changeRecord_denied (hsealed : RecordsSealed s.store) (ha : allowed = false) :
    changeRecord r allowed check act false (granted p q s) = (granted p q s, recordReply .denied r s) := by
  simp [changeRecord, verifyRecord_sealed r _ (granted_sealed hsealed), ha, recordReply, (granted_reading p q s).page0]

/-- R63: the command's state check refuses it, and it is answered as a read. -/
theorem changeRecord_checked (hsealed : RecordsSealed s.store) (ha : allowed = true) {st : Status}
    (hc : check (granted p q s) = some st) :
    changeRecord r allowed check act false (granted p q s) = (granted p q s, recordReply st r s) := by
  simp [changeRecord, verifyRecord_sealed r _ (granted_sealed hsealed), ha, hc, recordReply, (granted_reading p q s).page0]

/-- R63: the command does its work, and answers with its record. -/
theorem changeRecord_acted (hsealed : RecordsSealed s.store) (ha : allowed = true) (hc : check (granted p q s) = none) :
    changeRecord r allowed check act false (granted p q s)
      = (act (granted p q s), recordReply .ok r (act (granted p q s))) := by
  simp [changeRecord, verifyRecord_sealed r _ (granted_sealed hsealed), ha, hc]

/-- A change command that is denied under its grant has answered as a read and changed no figure. -/
theorem underGrant_denied (hfree : StoreFree p s) (hsealed : RecordsSealed s.store) (he : early s = none)
    (hfault : s.clock.mainFault = false) (ha : allowed = false) :
    Answered p (recordReply .denied r s) s (settle s (underGrant p q early (changeRecord r allowed check act) s))
      ∧ SameFigures s (settle s (underGrant p q early (changeRecord r allowed check act) s)) := by
  obtain ⟨hanswered, hfigures, -⟩ := underGrant_unchanged (q := q) (work := changeRecord r allowed check act) hfree he
    (by rw [workAtOnce, hfault]; exact changeRecord_denied hsealed ha)
  exact ⟨hanswered, hfigures⟩

/-- A change command that its state check refuses under its grant has answered as a read and changed no figure. -/
theorem underGrant_checked (hfree : StoreFree p s) (hsealed : RecordsSealed s.store) (he : early s = none)
    (hfault : s.clock.mainFault = false) (ha : allowed = true) {st : Status} (hc : check (granted p q s) = some st) :
    Answered p (recordReply st r s) s (settle s (underGrant p q early (changeRecord r allowed check act) s))
      ∧ SameFigures s (settle s (underGrant p q early (changeRecord r allowed check act) s)) := by
  obtain ⟨hanswered, hfigures, -⟩ := underGrant_unchanged (q := q) (work := changeRecord r allowed check act) hfree he
    (by rw [workAtOnce, hfault]; exact changeRecord_checked hsealed ha hc)
  exact ⟨hanswered, hfigures⟩

/-- What a change command has done when its event is settled. -/
structure Changed (p : Port) (r : RecordNo) (s u t : State) : Prop where
  done     : Done p s (u, recordReply .ok r u) t
  answered : Answered p ⟨.ok, recordPage0 t r⟩ s t

/-- A command that is given its grant at once, does its work there and answers with its record. -/
theorem underGrant_changed {u : State} (h : StoreFree p s) (he : early s = none)
    (hw : workAtOnce p q work s = (u, recordReply .ok r u)) (hports : PortsKept (granted p q s) u) :
    Changed p r s u (settle s (underGrant p q early work s)) := by
  have hdone := underGrant_done (work := work) h he (by rw [hw]; exact hports)
  rw [hw] at hdone
  refine ⟨hdone, ?_⟩
  have hanswered := hdone.answered
  rwa [recordReply, ← (Done.reading hdone).page0 r] at hanswered

end

theorem trip_of_records {s t : State} (h : SameRecords s t) (k : TripNo) : t.store.trip k = s.store.trip k := by
  obtain ⟨-, ha, hb, hp, -, -, -⟩ := h
  cases k
  · exact ha
  · exact hb
  · exact hp

/-! ### CLEAR RECORD -/

theorem tripOf_toNat {record : Byte} {k : TripNo} (h : record.toNat = k.toNat) : tripOf record = some k := by
  unfold tripOf
  rw [h]
  cases k <;> rfl

theorem tripOf_none {record : Byte} (h : record.toNat = 0 ∨ 3 < record.toNat) : tripOf record = none := by
  unfold tripOf
  split <;> simp_all

theorem mayClear_iff (p : Port) (k : TripNo) : mayClear p k = true ↔ (p = .service ∨ (p = .rear ↔ k = .p)) := by
  cases p <;> cases k <;> simp [mayClear]

theorem clearTrip_port (k : TripNo) (s : State) : (clearTrip k s).port = s.port := rfl

theorem clearTrip_store (k : TripNo) (s : State) : (clearTrip k s).store
    = s.store.setTrip k ((clearedBody s.clock.seconds s.store.odo.distance false).seal k.toNat) := rfl

/-- Settles O23. -/
theorem clearRecordRestartsTheTrip : Obligations.ClearRecordRestartsTheTrip := by
  intro p record s hfree hsealed
  refine ⟨settle s (serveClearRecord p record s), rfl, fun hbad => ?bad, fun k hk => ⟨fun hfault => ?fault, fun hfault hp => ?denied,
    fun hfault hp => ?done⟩⟩
  case bad => exact refused_settled hfree (by simp [earlyClearRecord, tripOf_none hbad])
  case fault => exact refused_settled hfree (by simp [earlyClearRecord, tripOf_toNat hk, early_fault_clock hfault])
  case denied =>
    have hnot : mayClear p k = false := Bool.eq_false_iff.2 fun h => hp ((mayClear_iff p k).1 h)
    have hnone : earlyClearRecord record s = none := by simp [earlyClearRecord, tripOf_toNat hk, early_none_clock hfault]
    have hwork : workAtOnce p (.clearRecord record) (workClearRecord p record) s
        = (granted p (.clearRecord record) s, recordReply .denied k.record s) := by
      simp only [workAtOnce, workClearRecord, tripOf_toNat hk, hfault]
      exact changeRecord_denied hsealed hnot
    obtain ⟨hanswered, hfigures, -⟩ := underGrant_unchanged hfree hnone hwork
    exact ⟨hanswered, hfigures⟩
  case done =>
    have hmay : mayClear p k = true := (mayClear_iff p k).2 hp
    have hnone : earlyClearRecord record s = none := by simp [earlyClearRecord, tripOf_toNat hk, early_none_clock hfault]
    have hfold := commandFold_from p (.clearRecord record) hsealed
    have hports := (commandFold_portsKept (granted p (.clearRecord record) s)).before (clearTrip_port k _)
    generalize hu : commandFold (granted p (.clearRecord record) s) = u at hfold hports
    have hwork : workAtOnce p (.clearRecord record) (workClearRecord p record) s
        = (clearTrip k u, recordReply .ok k.record (clearTrip k u)) := by
      simp only [workAtOnce, workClearRecord, tripOf_toNat hk, hfault, ← hu]
      exact changeRecord_acted hsealed hmay rfl
    have hchanged : Changed p k.record s (clearTrip k u) (settle s (serveClearRecord p record s)) :=
      underGrant_changed hfree hnone hwork hports
    generalize settle s (serveClearRecord p record s) = t at hchanged ⊢
    obtain ⟨hdone, hanswered⟩ := hchanged
    have htrip := trip_of_records hdone.records
    obtain ⟨hodo, -, -, -, hcharter, -, -⟩ := hdone.records
    simp only [clearTrip_store, setTrip_odo, setTrip_charter] at hodo hcharter htrip
    refine ⟨hanswered, ?_, ?_, fun o ho => ?_, ?_, ?_, ?_, hdone.grant, hdone.meas.trans hfold.meas,
      hdone.settings.trans hfold.settings, hdone.units.trans hfold.units, hdone.clock.trans hfold.clock,
      hdone.timers.trans hfold.timers⟩
    · rw [hodo, hfold.odo_distance]
    · rw [htrip, trip_setTrip_same, hfold.clock, hfold.odo_distance]
      rfl
    · rw [htrip, trip_setTrip_other _ _ _ _ ho, hfold.trip_body]
    · rw [hcharter, hfold.charter_body]
    · rw [hcharter, hfold.charter, takeCharter_phase]
    · exact (congrArg FoldEngine.buf hdone.fold).trans hfold.buf

/-! ### The charter -/

section
variable {p : Port} {r : RecordNo} {c : Charter} {s t u : State}

theorem putCharter_portsKept (c : Charter) (s : State) : PortsKept s (putCharter c s) :=
  (notifyBoth_portsKept _ _).after rfl

theorem Changed.charter_put (h : Changed p r s (putCharter c u) t) : t.store.charter = c.seal := by
  obtain ⟨-, -, -, -, hcharter, -, -⟩ := h.done.records
  rw [hcharter]
  rfl

theorem Changed.charter_notified (h : Changed p r s (putCharter c u) t) : Notified .charter t :=
  h.done.ports _ (notified_notifyBoth _ _)

/-- What a charter command leaves that folds first and then writes the charter. -/
theorem folded_of_put (hfold : FoldedFrom s u) (h : Changed p r s (putCharter c u) t) :
    t.store.odo.distance = foldedOdo s ∧ t.store.a.body = foldedBody s s.store.a.body
      ∧ t.store.b.body = foldedBody s s.store.b.body ∧ t.store.p.body = foldedBody s s.store.p.body
      ∧ t.fold.buf = ⟨0, 0, 0, 0, 0, 0, 0, false⟩ ∧ Notified .charter t ∧ t.store.grant = none
      ∧ t.meas = s.meas ∧ t.settings = s.settings ∧ t.units = s.units ∧ t.clock = s.clock ∧ t.timers = s.timers := by
  have hdone := h.done
  obtain ⟨hodo, ha, hb, hp, -, -, -⟩ := hdone.records
  refine ⟨?_, ?_, ?_, ?_, (congrArg FoldEngine.buf hdone.fold).trans hfold.buf, h.charter_notified, hdone.grant,
    hdone.meas.trans hfold.meas, hdone.settings.trans hfold.settings, hdone.units.trans hfold.units,
    hdone.clock.trans hfold.clock, hdone.timers.trans hfold.timers⟩
  · exact (congrArg Odo.distance hodo).trans hfold.odo_distance
  · exact (congrArg Trip.body ha).trans hfold.a_body
  · exact (congrArg Trip.body hb).trans hfold.b_body
  · exact (congrArg Trip.body hp).trans hfold.p_body

end

/-- R71: CHARTER OPEN of a VACANT charter under its grant. -/
theorem charterOpen_done {p : Port} {s : State} (hfree : StoreFree p s) (hsealed : RecordsSealed s.store)
    (hfault : s.clock.mainFault = false) (hp : p = .front) (hphase : s.store.charter.phase = .vacant)
    (hset : s.clock.unset = false) :
    ∃ u, FoldedFrom s u ∧ Changed p .charter s (putCharter
      ⟨clearedBody u.clock.seconds u.store.odo.distance false, .running, none, false, false, 0⟩ u)
        (settle s (serveCharterOpen p s)) := by
  refine ⟨commandFold (granted p .charterOpen s), commandFold_from p .charterOpen hsealed,
    underGrant_changed hfree (early_none_clock hfault) ?_ ((commandFold_portsKept _).trans (putCharter_portsKept _ _))⟩
  have hcheck : checkOpen (granted p .charterOpen s) = none := by simp [checkOpen, hphase, hset]
  rw [workAtOnce, hfault]
  exact changeRecord_acted hsealed (by simp [hp]) hcheck

/-- R72: CHARTER CLOSE of a RUNNING charter under its grant. -/
theorem charterClose_done {p : Port} {s : State} (hfree : StoreFree p s) (hsealed : RecordsSealed s.store)
    (hfault : s.clock.mainFault = false) (hp : p = .front) (hphase : s.store.charter.phase = .running) :
    ∃ u, FoldedFrom s u ∧ Changed p .charter s (putCharter { u.store.charter with
      phase := .closed, endStamp := some u.clock.seconds, ackFront := false, ackRear := false } u)
        (settle s (serveCharterClose p s)) := by
  have hfold := commandFold_from p .charterClose hsealed
  refine ⟨commandFold (granted p .charterClose s), hfold,
    underGrant_changed hfree (early_none_clock hfault) ?_ ((commandFold_portsKept _).trans (putCharter_portsKept _ _))⟩
  have hverify := verifyCharter_sealed _ (granted_sealed (p := p) (r := .charterClose) hsealed).2.2.2.2
  have hstill : (commandFold (granted p .charterClose s)).store.charter.phase = .running := by
    rw [hfold.charter, takeCharter_phase, hphase]
  simp only [workAtOnce, workCharterClose, hfault, hverify]
  rw [if_neg (by simp), if_neg (by simp [hp]), if_neg (by simp [hphase]), if_neg (by simp [hstill])]
  rfl

/-- Settles O24. -/
theorem charterOpensAndCloses : Obligations.CharterOpensAndCloses := by
  intro p s hfree hsealed
  refine ⟨⟨settle s (serveCharterOpen p s), rfl, ite_intro (fun hfault => ?openFault) fun hfault =>
      ite_intro (fun hp => ?openDenied) fun hp => ite_intro (fun hphase => ?openPhase) fun hphase =>
      ite_intro (fun hset => ?openUnset) fun hset => ?opened⟩,
    ⟨settle s (serveCharterClose p s), rfl, ite_intro (fun hfault => ?closeFault) fun hfault =>
      ite_intro (fun hp => ?closeDenied) fun hp => ite_intro (fun hphase => ?closePhase) fun hphase => ?closed⟩⟩
  case openFault => exact refused_settled hfree (early_fault_clock hfault)
  case closeFault => exact refused_settled hfree (early_fault_clock hfault)
  all_goals rw [Bool.not_eq_true] at hfault
  case openDenied =>
    exact underGrant_denied (r := .charter) hfree hsealed (early_none_clock hfault) hfault (beq_eq_false_iff_ne.2 hp)
  case openPhase =>
    exact underGrant_checked (r := .charter) hfree hsealed (early_none_clock hfault) hfault (beq_iff_eq.2 (not_not.1 hp))
      (show checkOpen _ = _ by simp [checkOpen, hphase])
  case openUnset =>
    exact underGrant_checked (r := .charter) hfree hsealed (early_none_clock hfault) hfault (beq_iff_eq.2 (not_not.1 hp))
      (show checkOpen _ = _ by simp [checkOpen, not_not.1 hphase, hset])
  case opened =>
    obtain ⟨u, hfold, hchanged⟩ := charterOpen_done hfree hsealed hfault (not_not.1 hp) (not_not.1 hphase)
      (Bool.not_eq_true _ ▸ hset)
    refine ⟨hchanged.answered, folded_of_put hfold hchanged, ?_⟩
    rw [hchanged.charter_put, hfold.clock, hfold.odo_distance]
    exact ⟨rfl, rfl, rfl, rfl, rfl⟩
  case closeDenied =>
    have hverify := verifyCharter_sealed _ (granted_sealed (p := p) (r := .charterClose) hsealed).2.2.2.2
    have hwork : workAtOnce p .charterClose (workCharterClose p) s
        = (granted p .charterClose s, recordReply .denied .charter s) := by
      simp [workAtOnce, workCharterClose, hfault, hverify, hp, recordReply, (granted_reading p .charterClose s).page0]
    obtain ⟨hanswered, hfigures, -⟩ := underGrant_unchanged hfree (early_none_clock hfault) hwork
    exact ⟨hanswered, hfigures⟩
  case closePhase =>
    obtain rfl := not_not.1 hp
    have hverify := verifyCharter_sealed _ (granted_sealed (p := .front) (r := .charterClose) hsealed).2.2.2.2
    have hwork : workAtOnce .front .charterClose (workCharterClose .front) s
        = (granted .front .charterClose s, recordReply .wrongState .charter s) := by
      simp [workAtOnce, workCharterClose, hfault, hverify, hphase, recordReply,
        (granted_reading .front .charterClose s).page0]
    obtain ⟨hanswered, hfigures, -⟩ := underGrant_unchanged hfree (early_none_clock hfault) hwork
    exact ⟨hanswered, hfigures⟩
  case closed =>
    obtain ⟨u, hfold, hchanged⟩ := charterClose_done hfree hsealed hfault (not_not.1 hp) (not_not.1 hphase)
    refine ⟨hchanged.answered, folded_of_put hfold hchanged, ?_⟩
    rw [hchanged.charter_put, hfold.clock]
    refine ⟨?_, rfl, rfl, rfl, rfl⟩
    refine hfold.charter_body.trans ?_
    rw [foldedCharter, if_pos (not_not.1 hphase)]

/-! ### CHARTER ACK and CHARTER RELEASE -/

/-- A command that writes its charter, and changes no more of the records than that. -/
structure CharterWritten (c : Charter) (s u : State) : Prop where
  charter  : u.store.charter = c.seal
  odo      : u.store.odo = s.store.odo := by simp
  a        : u.store.a = s.store.a := by simp
  b        : u.store.b = s.store.b := by simp
  p        : u.store.p = s.store.p := by simp
  fold     : u.fold = s.fold := by simp
  meas     : u.meas = s.meas := by simp
  settings : u.settings = s.settings := by simp
  units    : u.units = s.units := by simp
  service  : u.service = s.service := by simp
  clock    : u.clock = s.clock := by simp
  timers   : u.timers = s.timers := by simp

theorem putCharter_written (p : Port) (q : Request) (c : Charter) (s : State) :
    CharterWritten c s (putCharter c (granted p q s)) where
  charter := rfl
  odo := by simp [putCharter]
  a := by simp [putCharter]
  b := by simp [putCharter]
  p := by simp [putCharter]
  fold := by simp [putCharter]
  meas := by simp [putCharter]
  settings := by simp [putCharter]
  units := by simp [putCharter]
  service := by simp [putCharter]
  clock := by simp [putCharter]
  timers := by simp [putCharter, granted_timers]

/-- What CHARTER ACK and CHARTER RELEASE keep of the part. -/
abbrev CharterKept (p : Port) (s t : State) : Prop :=
  Answered p ⟨.ok, recordPage0 t .charter⟩ s t ∧ t.fold = s.fold
    ∧ t.store.odo = s.store.odo ∧ t.store.a = s.store.a ∧ t.store.b = s.store.b ∧ t.store.p = s.store.p
    ∧ t.store.charter.body = s.store.charter.body ∧ t.store.charter.endStamp = s.store.charter.endStamp ∧ t.store.grant = none
    ∧ t.meas = s.meas ∧ t.settings = s.settings ∧ t.units = s.units ∧ t.service = s.service ∧ t.clock = s.clock
    ∧ t.timers = s.timers

theorem Changed.charter_written {p : Port} {s u t : State} {c : Charter} (h : Changed p .charter s u t)
    (hw : CharterWritten c s u) (hbody : c.body = s.store.charter.body) (hend : c.endStamp = s.store.charter.endStamp) :
    CharterKept p s t ∧ t.store.charter.phase = c.phase ∧ t.store.charter.ackFront = c.ackFront
      ∧ t.store.charter.ackRear = c.ackRear := by
  have hdone := h.done
  obtain ⟨hodo, ha, hb, hp, hcharter, -, -⟩ := hdone.records
  have hsealed : t.store.charter = c.seal := hcharter.trans hw.charter
  refine ⟨⟨h.answered, hdone.fold.trans hw.fold, hodo.trans hw.odo, ha.trans hw.a, hb.trans hw.b, hp.trans hw.p, ?_, ?_,
    hdone.grant, hdone.meas.trans hw.meas, hdone.settings.trans hw.settings, hdone.units.trans hw.units,
    hdone.service.trans hw.service, hdone.clock.trans hw.clock, hdone.timers.trans hw.timers⟩, ?_, ?_, ?_⟩
  · rw [hsealed]; exact hbody
  · rw [hsealed]; exact hend
  · rw [hsealed]; rfl
  · rw [hsealed]; rfl
  · rw [hsealed]; rfl

/-- R73, R74: a CLOSED charter becomes VACANT. -/
abbrev CharterVacated (p : Port) (s t : State) : Prop :=
  CharterKept p s t ∧ t.store.charter.phase = .vacant ∧ t.store.charter.ackFront = false ∧ t.store.charter.ackRear = false
    ∧ Notified .charter t

theorem Changed.charter_vacated {p : Port} {q : Request} {s t : State}
    (h : Changed p .charter s (vacateCharter (granted p q s)) t) : CharterVacated p s t := by
  obtain ⟨hkept, hphase, hfront, hrear⟩ := h.charter_written (putCharter_written p q _ s) (by simp) (by simp)
  exact ⟨hkept, hphase, hfront, hrear, h.charter_notified⟩

theorem vacateCharter_portsKept (s : State) : PortsKept s (vacateCharter s) := putCharter_portsKept _ _

theorem ackCharter_portsKept (p : Port) (s : State) : PortsKept s (ackCharter p s) :=
  .ite (.rfl' s) (.ite (vacateCharter_portsKept s) (.of_port rfl))

theorem checkClosed_none {s : State} (h : s.store.charter.phase = .closed) : checkClosed s = none := by simp [checkClosed, h]

theorem checkClosed_some {s : State} (h : s.store.charter.phase ≠ .closed) : checkClosed s = some .wrongState := by
  simp [checkClosed, h]

/-- R73: what CHARTER ACK leaves of a charter that does not become VACANT. -/
def ackedCharter (p : Port) (c : Charter) : Charter :=
  { c with ackFront := c.ackFront || p == .front, ackRear := c.ackRear || p == .rear }

/-- R73: the second of the two acks makes the charter VACANT; before it the acks are written. -/
theorem ackCharter_granted (p : Port) {s : State} (hsealed : RecordsSealed s.store) :
    let c := s.store.charter
    let f := c.ackFront || p == .front
    let r := c.ackRear || p == .rear
    if (f && r) = true ∧ (c.ackFront && c.ackRear) = false then
      ackCharter p (granted p .charterAck s) = vacateCharter (granted p .charterAck s)
    else CharterWritten (ackedCharter p c) s (ackCharter p (granted p .charterAck s)) := by
  intro c f r
  have hc : (granted p .charterAck s).store.charter = c := granted_charter p _ s
  by_cases hsame : f = c.ackFront ∧ r = c.ackRear
  · have hstays : ackCharter p (granted p .charterAck s) = granted p .charterAck s := by
      unfold ackCharter
      rw [hc]
      exact if_pos hsame
    rw [if_neg (by rw [hsame.1, hsame.2]; rintro ⟨htrue, hfalse⟩; simp [htrue] at hfalse), hstays]
    refine { charter := hc.trans ?_, timers := granted_timers _ _ _ }
    have hcheck : c.check = charterCheck c := hsealed.2.2.2.2
    have hacked : ackedCharter p c = c := by
      show { c with ackFront := f, ackRear := r } = c
      rw [hsame.1, hsame.2]
    rw [hacked, Charter.seal, ← hcheck]
  · have hwrites : ackCharter p (granted p .charterAck s) = if f && r then vacateCharter (granted p .charterAck s)
        else (granted p .charterAck s).withStore fun x => { x with charter := (ackedCharter p c).seal } := by
      unfold ackCharter
      rw [hc]
      exact if_neg hsame
    rw [hwrites]
    by_cases hboth : (f && r) = true
    · have hnew : (c.ackFront && c.ackRear) = false := by
        rw [Bool.eq_false_iff]
        intro hold
        obtain ⟨hf, hr⟩ := Bool.and_eq_true_iff.1 hold
        exact hsame ⟨by simp [f, hf], by simp [r, hr]⟩
      rw [if_pos ⟨hboth, hnew⟩, if_pos hboth]
    · rw [if_neg fun h => hboth h.1, if_neg hboth]
      exact { charter := rfl, timers := granted_timers _ _ _ }

/-- R74: what the front's release asks of the grant that it is given at once. -/
theorem frontMayRelease_granted (p : Port) (q : Request) (s : State) : frontMayRelease (granted p q s) = true ↔
    (∃ e ∈ s.warn.list, e.w = 23 ∧ (e.detail.getD 0).getLsbD 1 = true)
      ∨ ∃ e, s.store.charter.endStamp = some e ∧ e + 300 ≤ s.clock.seconds := by
  simp [frontMayRelease, granted_grant, newGrant, rearSilentStands, Grant.letsFrontRelease, Option.any_eq_true]

/-- Settles O25. -/
theorem charterAckAndRelease : Obligations.CharterAckAndRelease := by
  intro p s hfree hsealed
  refine ⟨⟨settle s (serveCharterAck p s), rfl, ite_intro (fun hfault => ?ackFault) fun hfault =>
      ite_intro (fun hp => ?ackDenied) fun hp => ite_intro (fun hphase => ?ackPhase) fun hphase => ?acked⟩,
    ⟨settle s (serveCharterRelease p s), rfl, fun hfault => ?fault, fun hfault hp => ?denied, fun hfault hp hphase => ?phase,
      fun hfault hp hphase hshut => ?shut, fun hfault hp hphase hopen => ?released⟩⟩
  case ackFault => exact refused_settled hfree (early_fault_clock hfault)
  case fault => exact refused_settled hfree (early_fault_clock hfault)
  case ackDenied =>
    exact underGrant_denied (r := .charter) hfree hsealed (early_none_clock (Bool.eq_false_iff.2 hfault))
      (Bool.eq_false_iff.2 hfault) (by simp [hp])
  case ackPhase =>
    exact underGrant_checked (r := .charter) hfree hsealed (early_none_clock (Bool.eq_false_iff.2 hfault))
      (Bool.eq_false_iff.2 hfault) (by simpa using hp) (checkClosed_some (by simpa using hphase))
  case acked =>
    rw [Bool.not_eq_true] at hfault
    have hchecks : checkClosed (granted p .charterAck s) = none := checkClosed_none (by simpa using hphase)
    have hchanged : Changed p .charter s (ackCharter p (granted p .charterAck s)) (settle s (serveCharterAck p s)) :=
      underGrant_changed hfree (early_none_clock hfault)
        (by rw [workAtOnce, hfault]; exact changeRecord_acted hsealed (by simpa using hp) hchecks)
        (ackCharter_portsKept p _)
    have hacked := ackCharter_granted p hsealed
    refine ite_intro (fun hboth => ?_) fun hboth => ?_
    · rw [(if_pos hboth).mp hacked] at hchanged
      exact hchanged.charter_vacated
    · obtain ⟨hkept, hclosed, hfront, hrear⟩ := hchanged.charter_written ((if_neg hboth).mp hacked) rfl rfl
      exact ⟨hkept, hclosed.trans (not_not.1 hphase), hfront, hrear⟩
  case denied =>
    exact underGrant_denied (r := .charter) hfree hsealed (early_none_clock hfault) hfault (by simp [hp])
  case phase =>
    exact underGrant_checked (r := .charter) hfree hsealed (early_none_clock hfault) hfault (by simpa using hp)
      (show checkRelease p _ = _ by simp [checkRelease, hphase])
  case shut =>
    have hmay : frontMayRelease (granted p .charterRelease s) = false :=
      Bool.eq_false_iff.2 fun h => hshut ((frontMayRelease_granted _ _ _).1 h)
    have hchecks : checkRelease p (granted p .charterRelease s) = some .wrongState := by
      rw [checkRelease, granted_charter, if_neg (not_not.2 hphase), if_pos ⟨hp, hmay⟩]
    exact underGrant_checked (r := .charter) hfree hsealed (early_none_clock hfault) hfault (by simp [hp]) hchecks
  case released =>
    have hchecks : checkRelease p (granted p .charterRelease s) = none := by
      have hmay (hfront : p = .front) := (frontMayRelease_granted p .charterRelease s).2 (hopen hfront)
      simpa [checkRelease, hphase] using hmay
    have hchanged : Changed p .charter s (vacateCharter (granted p .charterRelease s)) (settle s (serveCharterRelease p s)) :=
      underGrant_changed hfree (early_none_clock hfault)
        (by rw [workAtOnce, hfault]; exact changeRecord_acted hsealed (by simpa using hp) hchecks)
        (vacateCharter_portsKept _)
    exact hchanged.charter_vacated

/-! ### ODO PRESET -/

/-- A command that is given its grant at once and queues a slot write of ODO as it leaves it has it pending or in flight. -/
theorem underGrant_queued {p : Port} {q : Request} {early : State → Option Status} {work : Bool → State → Answer} {s : State}
    (h : StoreFree p s) (he : early s = none) {n : Nat} (hn : (workAtOnce p q work s).1.nv.pendingSlot = some n)
    (hodo : n = (workAtOnce p q work s).1.store.odo.distance / 100) :
    SlotWriteQueued n (settle s (underGrant p q early work s)) := by
  rw [underGrant_free p q early work s h he]
  exact settle_queued (by simpa [runGranted, workAtOnce] using hn) (by simpa [runGranted, workAtOnce] using hodo)

theorem presetOdo_port (n : Nat) (s : State) : (presetOdo n s).port = (commandFold s).port := rfl

theorem presetOdo_fold (n : Nat) (s : State) : (presetOdo n s).fold = (commandFold s).fold := rfl

theorem presetOdo_meas (n : Nat) (s : State) : (presetOdo n s).meas = (commandFold s).meas := rfl

theorem presetOdo_settings (n : Nat) (s : State) : (presetOdo n s).settings = (commandFold s).settings := rfl

theorem presetOdo_units (n : Nat) (s : State) : (presetOdo n s).units = (commandFold s).units := rfl

theorem presetOdo_clock (n : Nat) (s : State) : (presetOdo n s).clock = (commandFold s).clock := rfl

theorem presetOdo_timers (n : Nat) (s : State) : (presetOdo n s).timers = (commandFold s).timers := rfl

/-- R81: the preset queues a slot write of its value. -/
theorem presetOdo_pendingSlot (n : Nat) (s : State) : (presetOdo n s).nv.pendingSlot = some n := by
  show some (n * 100 / 100) = some n
  rw [Nat.mul_div_cancel _ (by omega)]

theorem presetOdo_charter (n : Nat) (s : State) : (presetOdo n s).store.charter = (commandFold s).store.charter := rfl

theorem presetOdo_odo (n : Nat) (s : State) : (presetOdo n s).store.odo = Odo.seal ⟨n * 100, false, true, false, 0⟩ := rfl

theorem presetOdo_trip (n : Nat) (s : State) (k : TripNo) :
    ((presetOdo n s).store.trip k).body = freshBody (commandFold s).clock.seconds (n * 100) := by cases k <;> rfl

theorem presetOdo_distance (n : Nat) (s : State) : (presetOdo n s).store.odo.distance = n * 100 := rfl

/-- Settles O26. -/
theorem odoPresetSetsTheOdometer : Obligations.OdoPresetSetsTheOdometer := by
  intro p value s hfree hsealed
  refine ⟨settle s (serveOdoPreset p value s), rfl, ite_intro (fun hbig => ?big) fun hbig =>
    ite_intro (fun hfault => ?fault) fun hfault => ite_intro (fun hdenied => ?denied) fun hdenied =>
    ite_intro (fun hmoving => ?moving) fun hmoving => ite_intro (fun hphase => ?phase) fun hphase => ?preset⟩
  case big => exact refused_settled hfree (by simp [earlyOdoPreset, hbig])
  case fault => exact refused_settled hfree (by simp [earlyOdoPreset, hbig, early_fault_clock hfault])
  all_goals
    rw [Bool.not_eq_true] at hfault
    have hnone : earlyOdoPreset value s = none := by simp [earlyOdoPreset, hbig, early_none_clock hfault]
    have hwork : workOdoPreset p value = changeRecord .odo (p == .service) checkPreset (presetOdo value.toNat) := by
      funext seen u
      exact if_neg hbig
    unfold serveOdoPreset
    rw [hwork]
  case denied =>
    by_cases hp : p = .service
    · have hopen : s.store.odo.allowanceOpen = false := hdenied.resolve_left (not_not.2 hp)
      exact underGrant_checked hfree hsealed hnone hfault (by simp [hp])
        (show checkPreset _ = _ by simp [checkPreset, hopen])
    · exact underGrant_denied hfree hsealed hnone hfault (by simpa using hp)
  all_goals
    obtain ⟨hp, hopen⟩ := not_or.1 hdenied
    rw [not_not] at hp
    rw [Bool.not_eq_false] at hopen
  case moving =>
    exact underGrant_checked hfree hsealed hnone hfault (by simp [hp])
      (show checkPreset _ = _ by simp [checkPreset, hopen, moving, hmoving])
  case phase =>
    exact underGrant_checked hfree hsealed hnone hfault (by simp [hp])
      (show checkPreset _ = _ by simp [checkPreset, hopen, moving, hmoving, hphase])
  case preset =>
    have hchecks : checkPreset (granted p (.odoPreset value) s) = none := by
      simp [checkPreset, hopen, moving, hmoving, not_not.1 hphase]
    have hworked : workAtOnce p (.odoPreset value) (changeRecord .odo (p == .service) checkPreset (presetOdo value.toNat)) s
        = (presetOdo value.toNat (granted p (.odoPreset value) s),
          recordReply .ok .odo (presetOdo value.toNat (granted p (.odoPreset value) s))) := by
      rw [workAtOnce, hfault]
      exact changeRecord_acted hsealed (by simp [hp]) hchecks
    have hfold := commandFold_from p (.odoPreset value) hsealed
    have hports := (commandFold_portsKept (granted p (.odoPreset value) s)).before
      (presetOdo_port value.toNat _)
    obtain ⟨hdone, hanswered⟩ := underGrant_changed hfree hnone hworked hports
    have hqueued : SlotWriteQueued value.toNat (settle s (underGrant p (.odoPreset value) (earlyOdoPreset value)
        (changeRecord .odo (p == .service) checkPreset (presetOdo value.toNat)) s)) := by
      refine underGrant_queued hfree hnone ?_ ?_
      · rw [hworked, presetOdo_pendingSlot]
      · rw [hworked, presetOdo_distance, Nat.mul_div_cancel _ (by omega)]
    generalize settle s (underGrant p _ _ _ s) = t at hdone hanswered hqueued ⊢
    have htrip := trip_of_records hdone.records
    obtain ⟨hodo, -, -, -, hcharter, -, -⟩ := hdone.records
    rw [presetOdo_odo] at hodo
    have hvacant : t.store.charter = s.store.charter := by
      rw [hcharter, presetOdo_charter, hfold.charter, takeCharter, if_neg]
      simp [not_not.1 hphase]
    refine ⟨hanswered, ?_, ?_, ?_, ?_, fun k => ?_, hqueued, hvacant, ?_, hdone.grant, ?_, ?_, ?_, ?_, ?_⟩
    · rw [hodo]; rfl
    · rw [hodo]; rfl
    · rw [hodo]; rfl
    · rw [hodo]; rfl
    · rw [htrip, presetOdo_trip, hfold.clock]
    · rw [hdone.fold, presetOdo_fold, hfold.buf]
    · rw [hdone.meas, presetOdo_meas, hfold.meas]
    · rw [hdone.settings, presetOdo_settings, hfold.settings]
    · rw [hdone.units, presetOdo_units, hfold.units]
    · rw [hdone.clock, presetOdo_clock, hfold.clock]
    · rw [hdone.timers, presetOdo_timers, hfold.timers]

end Sys2Proof.Proofs.RecordCommands

/-! PROOFS. The reads of a record (R45, R67, R87), and the held marks and slot writes (R64, R78, R81). -/

namespace Sys2Proof.Proofs.RecordReads

open Sys2Proof Sys2Proof.Machine Sys2Proof.Proofs.Basics Sys2Proof.Proofs.Grants Sys2Proof.Proofs.Folds
open Sys2Proof.Proofs.CommandFolds Sys2Proof.Proofs.RecordCommands

/-! ### Reading a record -/

/-- The figures of a record are read from what page 0 is read from. -/
theorem derivedContent_congr {s t : State} (h : SameReading s t) (r : RecordNo) (unit : Nat) :
    derivedContent t r unit = derivedContent s r unit := by
  obtain ⟨ho, -, -, -, hc, -, hlog⟩ := h.records
  have hmarks : recordMarks t r = recordMarks s r := by simp only [recordMarks, h.bodyOf, ho, hc]
  have hphase : phaseAcks t r = phaseAcks s r := by cases r <;> simp only [phaseAcks, hc, hlog]
  have htimes : noTimes t r = noTimes s r := by cases r <;> simp only [noTimes, hc]
  have hderived : derived t r unit = derived s r unit := by
    simp only [derived, h.distance, h.fuel, h.elapsed, h.waiting, h.bodyOf, htimes]
  simp only [derivedContent, hmarks, hphase, hderived]

theorem recordOf_recordNumber (r : RecordNo) : recordOf (recordNumber r) = some r := by cases r <;> rfl

theorem recordNumber_le (r : RecordNo) : recordNumber r ≤ 4 := by cases r <;> decide

/-- The numbers up to 4 are those of the records. -/
theorem exists_recordNumber {n : Nat} (h : n ≤ 4) : ∃ r, n = recordNumber r := by
  interval_cases n
  · exact ⟨.odo, rfl⟩
  · exact ⟨.a, rfl⟩
  · exact ⟨.b, rfl⟩
  · exact ⟨.p, rfl⟩
  · exact ⟨.charter, rfl⟩

theorem recordNumber_injective {r o : RecordNo} (h : recordNumber r = recordNumber o) : r = o := by
  have hsome := congrArg recordOf h
  rwa [recordOf_recordNumber, recordOf_recordNumber, Option.some.injEq] at hsome

/-- A request that is refused at arrival leaves the grant free. -/
theorem refused_grant {p : Port} {r : Request} {early : State → Option Status} {work : Bool → State → Answer} {s : State}
    (h : StoreFree p s) {st : Status} (he : early s = some st) : (settle s (underGrant p r early work s)).store.grant = none := by
  rw [underGrant_refused p r early work s ⟨h.1, h.2.1 p⟩ st he, settle_grant, deliver_store]
  · exact h.2.2.1
  · intro q
    rw [waitingRequest_deliver, h.2.1 q, ite_self]

section
variable {p : Port} {record page : Byte} {s : State} {r : RecordNo}

theorem workReadRecord_granted (hsealed : RecordsSealed s.store) (hr : record.toNat = recordNumber r) :
    workAtOnce p (.readRecord record page) (workReadRecord record page) s
      = (granted p (.readRecord record page) s, ⟨.ok, if page = 0 then recordPage0 s r else recordPage1 s r⟩) := by
  have hreading := granted_reading p (.readRecord record page) s
  simp only [workAtOnce, workReadRecord, hr, recordOf_recordNumber, verifyRecord_sealed r _ (granted_sealed hsealed),
    hreading.page0, hreading.page1 r (congrArg NvArray.slots (granted_nv p _ s))]

theorem workReadDerived_granted (hsealed : RecordsSealed s.store) (hr : record.toNat = recordNumber r) :
    workAtOnce p (.readDerived record) (workReadDerived p record) s
      = (granted p (.readDerived record) s, ⟨.ok, derivedContent s r (unitOf s p)⟩) := by
  have hunit : unitOf (granted p (.readDerived record) s) p = unitOf s p := by simp [unitOf]
  simp only [workAtOnce, workReadDerived, hr, recordOf_recordNumber, verifyRecord_sealed r _ (granted_sealed hsealed),
    derivedContent_congr (granted_reading p _ s), hunit]

end

/-- Settles O27. -/
theorem recordReadsForward : Obligations.RecordReadsForward := by
  intro p record page s hfree hsealed
  refine ⟨⟨settle s (serveReadRecord p record page s), rfl, ?read⟩, ⟨settle s (serveReadDerived p record s), rfl, ?derived⟩, rfl,
    fun r x hx => ?figures⟩
  case read =>
    by_cases hbad : 4 < record.toNat ∨ 1 < page.toNat
    · have hearly : earlyReadRecord record page s = some .badArgument := if_pos hbad
      obtain ⟨hanswered, hfigures⟩ := refused_settled (work := workReadRecord record page) (r := .readRecord record page)
        hfree hearly
      refine ⟨hfigures, refused_grant hfree hearly, fun _ => hanswered, fun r hr hpage => ?_, fun r hr hpage => ?_⟩
      · have hle := recordNumber_le r
        rw [hr, hpage] at hbad
        exact absurd hbad (by simp [hle])
      · have hle := recordNumber_le r
        rw [hr, hpage] at hbad
        exact absurd hbad (by simp [hle])
    · obtain ⟨r, hr⟩ := exists_recordNumber (Nat.not_lt.1 fun h => hbad (.inl h))
      obtain ⟨hanswered, hfigures, hgrant⟩ := underGrant_unchanged hfree (show earlyReadRecord record page s = none from if_neg hbad)
        (workReadRecord_granted hsealed hr)
      refine ⟨hfigures, hgrant, fun h => absurd h hbad, fun o ho hpage => ?_, fun o ho hpage => ?_⟩
      · obtain rfl := recordNumber_injective (hr.symm.trans ho)
        rw [if_pos hpage] at hanswered
        exact hanswered
      · obtain rfl := recordNumber_injective (hr.symm.trans ho)
        rw [if_neg (by rw [hpage]; decide)] at hanswered
        exact hanswered
  case derived =>
    by_cases hbad : 4 < record.toNat
    · have hearly : earlyReadDerived record s = some .badArgument := if_pos hbad
      obtain ⟨hanswered, hfigures⟩ := refused_settled (work := workReadDerived p record) (r := .readDerived record) hfree hearly
      refine ⟨hfigures, refused_grant hfree hearly, fun _ => hanswered, fun r hr => ?_⟩
      exact absurd (hr ▸ recordNumber_le r) (Nat.not_le.2 hbad)
    · obtain ⟨r, hr⟩ := exists_recordNumber (Nat.not_lt.1 hbad)
      obtain ⟨hanswered, hfigures, hgrant⟩ := underGrant_unchanged hfree (show earlyReadDerived record s = none from if_neg hbad)
        (workReadDerived_granted hsealed hr)
      refine ⟨hfigures, hgrant, fun h => absurd h hbad, fun o ho => ?_⟩
      obtain rfl := recordNumber_injective (hr.symm.trans ho)
      exact hanswered
  case figures =>
    have hforwards : forwards s r = true ↔ x.damaged = false ∧ (r = .charter → s.store.charter.phase = .running) := by
      cases r <;> cases hx <;> simp [forwards, and_comm]
    simp only [reportedDistance, reportedFuel, hx, ← hforwards]
    exact ⟨rfl, rfl⟩

/-! ### The held marks -/

/-- R78: the marks of the clock supervisor in a counting record. -/
def markedBody (m : HeldMarks) (x : TripBody) : TripBody := if x.damaged then x else x.mark m

theorem markTrip_trip (m : HeldMarks) (k o : TripNo) (r : RecordStore) :
    ((markTrip m k r).trip o).body = if o = k then markedBody m (r.trip o).body else (r.trip o).body := by
  unfold markTrip markedBody
  by_cases ho : o = k
  · subst ho
    rw [if_pos rfl]
    by_cases hdamaged : (r.trip o).body.damaged = true
    · rw [if_pos (.inl hdamaged), if_pos hdamaged]
    · by_cases hmarked : (r.trip o).body.mark m = (r.trip o).body
      · rw [if_pos (.inr hmarked), if_neg hdamaged, hmarked]
      · rw [if_neg (not_or.2 ⟨hdamaged, hmarked⟩), if_neg hdamaged, trip_setTrip_same]
        rfl
  · rw [if_neg ho]
    dsimp only
    split_ifs
    · rfl
    · rw [trip_setTrip_other _ _ _ _ ho]

theorem markTrip_odo (m : HeldMarks) (k : TripNo) (r : RecordStore) : (markTrip m k r).odo = r.odo := by
  unfold markTrip
  dsimp only
  split_ifs
  · rfl
  · exact setTrip_odo _ _ _

theorem markTrip_charter (m : HeldMarks) (k : TripNo) (r : RecordStore) : (markTrip m k r).charter = r.charter := by
  unfold markTrip
  dsimp only
  split_ifs
  · rfl
  · exact setTrip_charter _ _ _

theorem markTrip_logPos (m : HeldMarks) (k : TripNo) (r : RecordStore) : (markTrip m k r).logPos = r.logPos := by
  unfold markTrip
  dsimp only
  split_ifs
  · rfl
  · exact setTrip_logPos _ _ _

theorem markCharter_trip (m : HeldMarks) (o : TripNo) (r : RecordStore) : (markCharter m r).trip o = r.trip o := by
  unfold markCharter
  split_ifs
  · cases o <;> rfl
  · rfl

theorem markCharter_odo (m : HeldMarks) (r : RecordStore) : (markCharter m r).odo = r.odo := by
  unfold markCharter
  split_ifs
  · rfl
  · rfl

theorem markCharter_logPos (m : HeldMarks) (r : RecordStore) : (markCharter m r).logPos = r.logPos := by
  unfold markCharter
  split_ifs
  · rfl
  · rfl

theorem markCharter_phase (m : HeldMarks) (r : RecordStore) : (markCharter m r).charter.phase = r.charter.phase := by
  unfold markCharter
  split_ifs
  · rfl
  · rfl

theorem markCharter_body (m : HeldMarks) (r : RecordStore) : (markCharter m r).charter.body =
    if r.charter.phase = .running then markedBody m r.charter.body else r.charter.body := by
  unfold markCharter markedBody
  by_cases hphase : r.charter.phase = .running
  · rw [if_pos hphase]
    by_cases hdamaged : r.charter.body.damaged = true
    · rw [if_neg (by simp [hdamaged]), if_pos hdamaged]
    · rw [if_neg hdamaged]
      by_cases hmarked : r.charter.body.mark m = r.charter.body
      · rw [if_neg (by simp [hmarked]), hmarked]
      · rw [if_pos ⟨hphase, Bool.eq_false_iff.2 hdamaged, hmarked⟩]
        rfl
  · rw [if_neg (fun h => hphase h.1), if_neg hphase]

/-- R78: the records with the marks of the clock supervisor. -/
def markedStore (m : HeldMarks) (r : RecordStore) : RecordStore := markCharter m (markTrip m .p (markTrip m .b (markTrip m .a r)))

theorem markedStore_trip (m : HeldMarks) (r : RecordStore) (k : TripNo) :
    ((markedStore m r).trip k).body = markedBody m (r.trip k).body := by
  rw [markedStore, markCharter_trip]
  cases k <;> simp [markTrip_trip]

theorem markedStore_charter (m : HeldMarks) (r : RecordStore) : (markedStore m r).charter.body =
    if r.charter.phase = .running then markedBody m r.charter.body else r.charter.body := by
  simp only [markedStore, markCharter_body, markTrip_charter]

theorem applyHeld_eq (s : State) : applyHeld s = { s with store := { markedStore s.store.held s.store with held := ⟨false, false⟩ } } :=
  rfl

/-! ### The slot log -/

section
variable {s : State} (hclock : clocked s = true) (hflight : s.nv.flight = none)
include hclock hflight

/-- R185: the idle array starts the pending slot write. -/
theorem startWrite_slot {n : Nat} (h : s.nv.pendingSlot = some n) : startWrite s = { s with nv := { s.nv with
    flight := some (.slot n (nextSlot s.store.logPos).slot (nextSlot s.store.logPos).seq slotWritePeriod)
    pendingSlot := none } } := by
  simp [startWrite, hclock, hflight, h]

/-- R185: with no slot write pending, the idle array starts the pending commit. -/
theorem startWrite_commit (h : s.nv.pendingSlot = none) (hc : s.nv.pendingCommit = true) : startWrite s = { s with nv := { s.nv with
    flight := some (.commit s.settings.work commitPeriod), pendingCommit := false } } := by
  simp [startWrite, hclock, hflight, h, hc]

omit hclock hflight in
theorem startWrite_idle (h : s.nv.pendingSlot = none) (hc : s.nv.pendingCommit = false) : startWrite s = s := by
  simp [startWrite, h, hc]

end

/-- R81: a slot holds its snapshot, and the log stands at it. -/
def slotStored (snap no seq : Nat) (s : State) : State :=
  { s with
    nv := { s.nv with flight := none, slots := s.nv.slots.setIfInBounds no ⟨snap, seq, slotCheck no snap seq⟩ }
    store := { s.store with logPos := some ⟨no, seq⟩ } }

theorem slotWritten_eq {s : State} {snap no seq left : Nat} (h : s.nv.flight = some (.slot snap no seq left)) :
    slotWritten s = slotStored snap no seq s := by
  unfold slotWritten
  rw [h]
  rfl

/-- Where no park entry is about to begin, settling does no more to the array than to start a pending write. -/
theorem settle_nv_notDue {a s : State} (h : ParkNotDue s) :
    ∃ t, (settle a s).nv = (startWrite t).nv ∧ t.nv = s.nv ∧ t.store.logPos = s.store.logPos ∧ t.settings = s.settings
      ∧ clocked t = clocked s := by
  have hlog : (arbitrate (settleChimes s)).store.logPos = s.store.logPos := by
    rw [arbitrate_store]
    simp
  refine ⟨arbitrate (settleChimes s), ?_, by simp, hlog, by simp, by simp [clocked, alive]⟩
  rw [settle_nv, settlePark_notDue]
  simpa [ParkNotDue] using h

/-- Settles O28. -/
theorem marksApplyAndSlotWritesComplete : Obligations.MarksApplyAndSlotWritesComplete := by
  intro s
  refine ⟨fun halive hheld hgrant => ?marks, fun snap no seq left hclock hpark hflight => ?slot⟩
  case marks =>
    have hexec : exec .recordMarkApply s = .next (settle s (applyHeld s)) := by
      show execRecordMarkApply s = _
      rw [execRecordMarkApply, if_pos]
      simp [halive, hheld, hgrant]
    refine ⟨_, hexec, ?_⟩
    rw [applyHeld_eq]
    refine ⟨by simp, ?_, ⟨fun k => ?_, ?_⟩, ?_, ?_, by simp, by simp, by simp, by simp, by simp, by simp, by simp⟩
    · rw [settle_store_odo]
      simp only [markedStore, markCharter_odo, markTrip_odo]
    · rw [trip_of_records (settle_sameRecords _ _)]
      exact (congrArg Trip.body (by cases k <;> rfl)).trans (markedStore_trip s.store.held s.store k)
    · rw [settle_store_charter]
      exact markedStore_charter s.store.held s.store
    · rw [settle_store_charter]
      simp only [markedStore, markCharter_phase, markTrip_charter]
    · rw [settle_store_logPos]
      simp only [markedStore, markCharter_logPos, markTrip_logPos]
  case slot =>
    have hexec : exec .slotWriteComplete s = .next (settle s (slotWritten s)) := if_pos hclock
    refine ⟨_, hexec, ?_⟩
    rw [slotWritten_eq hflight]
    have harray := settle_array s (slotStored snap no seq s)
    obtain ⟨t, hnv, htnv, hlog, hsettings, hclocked⟩ :=
      settle_nv_notDue (a := s) (s := slotStored snap no seq s) hpark
    have hc : clocked t = true := hclocked.trans hclock
    have hidle : t.nv.flight = none := congrArg NvArray.flight htnv
    have hpending : t.nv.pendingSlot = s.nv.pendingSlot := by
      rw [htnv]
      rfl
    have hcommit : t.nv.pendingCommit = s.nv.pendingCommit := by
      rw [htnv]
      rfl
    simp only [settle_store_odo, settle_store_a, settle_store_b, settle_store_p, settle_store_charter, settle_store_logPos,
      settle_meas, settle_fold, settle_settings, settle_units, settle_service, settle_clock, settle_timers]
    refine ⟨harray.1, rfl, harray.2, ?_, fun n hn => ?_, fun hn hq => ?_, fun hn hq => ?_, rfl, rfl, rfl, rfl, rfl,
      rfl, rfl, rfl, rfl, rfl, rfl, rfl⟩
    · rw [hnv]
      rcases hn : s.nv.pendingSlot with _ | n
      · rcases hq : s.nv.pendingCommit
        · rw [startWrite_idle (hpending.trans hn) (hcommit.trans hq), hpending, hn]
        · rw [startWrite_commit hc hidle (hpending.trans hn) (hcommit.trans hq)]
          exact hpending.trans hn
      · rw [startWrite_slot hc hidle (hpending.trans hn)]
    · rw [hnv, startWrite_slot hc hidle (hpending.trans hn), hlog]
      exact ⟨rfl, hcommit⟩
    · rw [hnv, startWrite_commit hc hidle (hpending.trans hn) (hcommit.trans hq), hsettings]
      exact ⟨rfl, rfl⟩
    · rw [hnv, startWrite_idle (hpending.trans hn) (hcommit.trans hq)]
      exact ⟨hidle, hcommit.trans hq⟩

end Sys2Proof.Proofs.RecordReads

/-! PROOFS. The requests that need the grant of the record store: how they wait, how the arbiter grants, and what a command
does under a grant that it waited for (R41, R46, R62 to R64, R74). -/

namespace Sys2Proof.Proofs.WaitingRequests

open Sys2Proof Sys2Proof.Machine Sys2Proof.Proofs.Basics Sys2Proof.Proofs.Grants Sys2Proof.Proofs.Folds
open Sys2Proof.Proofs.CommandFolds Sys2Proof.Proofs.RecordCommands

/-! ### The commands that need the grant -/

/-- A request is executed under the grant, with its arrival checks and its work. -/
abbrev RunsUnderGrant (p : Port) (r : Request) (early : State → Option Status) (work : Bool → State → Answer) : Prop :=
  ∀ s, exec (r.command p) s = .next (settle s (underGrant p r early work s))

/-- R63: a command that changes the store passes its arrival checks outside a main-clock fault, and is refused when its grant
came in one. -/
theorem changesStore_runs {p : Port} {r : Request} (h : changesStore p r = true) : ∃ early work, RunsUnderGrant p r early work
    ∧ (∀ s : State, s.clock.mainFault = false → early s = none)
    ∧ ∀ s : State, work true s = (s, .bare .clockFault) := by
  unfold changesStore at h
  split at h
  case h_1 => exact ⟨faultRefusal, workCharterOpen p, fun _ => rfl, fun _ => early_none_clock, fun _ => rfl⟩
  case h_2 => exact ⟨faultRefusal, workCharterClose p, fun _ => rfl, fun _ => early_none_clock, fun _ => rfl⟩
  case h_3 => exact ⟨faultRefusal, workCharterAck p, fun _ => rfl, fun _ => early_none_clock, fun _ => rfl⟩
  case h_4 => exact ⟨faultRefusal, workCharterRelease p, fun _ => rfl, fun _ => early_none_clock, fun _ => rfl⟩
  case h_5 k =>
    obtain ⟨hlow, hhigh⟩ := Bool.and_eq_true_iff.1 h
    have htrip : ∃ t, tripOf k = some t := by
      have hlow' := of_decide_eq_true hlow
      have hhigh' := of_decide_eq_true hhigh
      have hcases : k.toNat = 1 ∨ k.toNat = 2 ∨ k.toNat = 3 := by omega
      rcases hcases with hk | hk | hk
      · exact ⟨.a, tripOf_toNat hk⟩
      · exact ⟨.b, tripOf_toNat hk⟩
      · exact ⟨.p, tripOf_toNat hk⟩
    obtain ⟨t, ht⟩ := htrip
    refine ⟨earlyClearRecord k, workClearRecord p k, fun _ => rfl, fun s hs => ?_, fun s => ?_⟩
    · simp only [earlyClearRecord, ht, early_none_clock hs]
    · simp only [workClearRecord, ht, changeRecord, if_true]
  case h_6 v =>
    have hv : ¬ 9999999 < v.toNat := Nat.not_lt.2 (of_decide_eq_true h)
    refine ⟨earlyOdoPreset v, workOdoPreset p v, fun _ => rfl, fun s hs => ?_, fun s => ?_⟩
    · rw [earlyOdoPreset, if_neg hv, early_none_clock hs]
    · rw [workOdoPreset, if_neg hv]
      rfl
  case h_7 v => exact ⟨faultRefusal, workSetClock p v, fun _ => rfl, fun _ => early_none_clock, fun _ => rfl⟩
  case h_8 n =>
    refine ⟨earlyTrimClock n, workTrimClock p n, fun _ => rfl, fun s hs => ?_, fun _ => rfl⟩
    rw [earlyTrimClock, if_neg (bne_iff_ne.1 h), early_none_clock hs]
  case h_9 v =>
    refine ⟨earlyKrKf p .kr v, workKrKf .kr v, fun _ => rfl, fun s hs => ?_, fun _ => rfl⟩
    simp only [Bool.and_eq_true, beq_iff_eq, decide_eq_true_eq] at h
    have hrange : calInRange .kr v.toNat = true := (calInRange_iff _ _).2 ⟨h.1.2, h.2⟩
    simp [earlyKrKf, h.1.1, hrange, early_none_clock hs]
  case h_10 v =>
    refine ⟨earlyKrKf p .kf v, workKrKf .kf v, fun _ => rfl, fun s hs => ?_, fun _ => rfl⟩
    simp only [Bool.and_eq_true, beq_iff_eq, decide_eq_true_eq] at h
    have hrange : calInRange .kf v.toNat = true := (calInRange_iff _ _).2 ⟨h.1.2, h.2⟩
    simp [earlyKrKf, h.1.1, hrange, early_none_clock hs]
  case h_11 => cases h

/-- R63: a read of the store passes its arrival checks. -/
theorem readsStore_runs {p : Port} {r : Request} (h : readsStore r = true) : ∃ early work, RunsUnderGrant p r early work
    ∧ ∀ s : State, early s = none := by
  unfold readsStore at h
  split at h
  case h_1 k page =>
    obtain ⟨hk, hpage⟩ := Bool.and_eq_true_iff.1 h
    refine ⟨earlyReadRecord k page, workReadRecord k page, fun _ => rfl, fun s => if_neg (not_or.2 ⟨?_, ?_⟩)⟩
    · exact Nat.not_lt.2 (of_decide_eq_true hk)
    · exact Nat.not_lt.2 (of_decide_eq_true hpage)
  case h_2 k => exact ⟨earlyReadDerived k, workReadDerived p k, fun _ => rfl, fun s => if_neg (Nat.not_lt.2 (of_decide_eq_true h))⟩
  case h_3 => cases h

/-! ### Waiting -/

/-- R62: nothing is granted while a grant is held, FOLD waits or a mark is held. -/
theorem arbitrate_busy {s : State} (h : s.store.grant.isSome = true ∨ s.fold.waiting = true ∨ marksHeld s = true) :
    arbitrate s = s := by
  unfold arbitrate
  rw [if_neg]
  rcases h with h | h | h
  · simp [Option.isSome_iff_ne_none.1 h]
  · simp [h]
  · simp [h]

section
variable {p : Port} {r : Request} {early : State → Option Status} {work : Bool → State → Answer} {s : State}

/-- R62: a request that comes while the store is not free for it waits in its port. -/
theorem underGrant_waits (halive : alive s = true) (hw : waitingRequest s p = none) (he : early s = none)
    (hother : ∀ g, s.store.grant = some g → g.holder ≠ p)
    (hbusy : s.store.grant.isSome = true ∨ s.fold.waiting = true ∨ marksHeld s = true) :
    underGrant p r early work s = holdRequest p r s := by
  have hmarks : marksHeld (holdRequest p r s) = marksHeld s := by simp [marksHeld]
  have hstill : arbitrate (holdRequest p r s) = holdRequest p r s := by
    refine arbitrate_busy ?_
    rwa [holdRequest_store, holdRequest_fold, hmarks]
  unfold underGrant
  simp only [halive, hw, he, hstill, holdRequest_store, if_true]
  rcases hg : s.store.grant with _ | g
  · rfl
  · exact if_neg (hother g hg)

/-- R62: a request that waited does its work when its port holds the grant. -/
theorem underGrant_held (halive : alive s = true) (hw : waitingRequest s p = some r) {g : Grant} (hg : s.store.grant = some g)
    (hp : g.holder = p) : underGrant p r early work s = runGranted p g.faultSeen work s := by
  unfold underGrant
  simp [halive, hw, hg, hp]

end

theorem settle_waitingRequest (a s : State) (p : Port) : waitingRequest (settle a s) p = waitingRequest s p :=
  (settle_portsKept a s).waiting p

/-- What a command leaves that waited for its grant; `a` is its work. -/
structure Served (p : Port) (s : State) (a : Answer) (t : State) : Prop where
  answered : Answered p a.2 s t
  waiting  : waitingRequest t p = none
  reading  : SameReading a.1 t
  meas     : t.meas = a.1.meas
  units    : t.units = a.1.units
  service  : t.service = a.1.service
  timers   : t.timers = a.1.timers
  ports    : ∀ n : Notice, Notified n a.1 → Notified n t

theorem underGrant_served {p : Port} {r : Request} {early : State → Option Status} {work : Bool → State → Answer} {s : State}
    (halive : alive s = true) (hw : waitingRequest s p = some r) {g : Grant} (hg : s.store.grant = some g) (hp : g.holder = p)
    {a : Answer} (ha : work g.faultSeen s = a) (hports : PortsKept s a.1) :
    Served p s a (settle s (underGrant p r early work s)) := by
  have hrun : underGrant p r early work s = (deliver p a.2 a.1).withStore fun x => { x with grant := none } := by
    rw [underGrant_held halive hw hg hp, ← ha]
    rfl
  rw [hrun]
  exact
    { answered := (answered_settle _ _ _ _ _).2 (answered_deliver p _ s _ (by rw [hports.service]))
      waiting := by
        rw [settle_waitingRequest, (PortsKept.of_port (withStore_port _ _)).waiting p, waitingRequest_deliver, if_pos rfl]
      reading := { records := by simp [SameRecords] }
      meas := by simp
      units := by simp
      service := by simp
      timers := by simp
      ports := fun n hn => (settle_portsKept s _).notified (deliver_notified p _ hn) }

/-- A command that leaves the state as its grant found it has changed no figure. -/
theorem Served.figures {p : Port} {s t : State} {x : Reply} (h : Served p s (s, x) t) : SameFigures s t :=
  ⟨h.meas, h.reading.fold, h.reading.records, h.reading.settings, h.units, h.service, h.reading.clock, h.timers⟩

/-! ### The arbiter -/

/-- R62: the first waiting port of the port order is granted, and moves to the back. -/
theorem arbitrate_grants {p : Port} {s : State} {l₁ l₂ : List Port} (halive : alive s = true)
    (horder : s.store.order = l₁ ++ p :: l₂) (h₁ : p ∉ l₁) (h₂ : p ∉ l₂) (hgrant : s.store.grant = none)
    (hfold : s.fold.waiting = false) (hmarks : marksHeld s = false) (hbefore : ∀ q ∈ l₁, waitingRequest s q = none)
    (hw : waitingRequest s p ≠ none) :
    arbitrate s = { s with store := { s.store with grant := some (newGrant p s), order := l₁ ++ l₂ ++ [p] } } := by
  have hskip : l₁.find? (portWaits s) = none := by
    rw [List.find?_eq_none]
    intro q hq
    simp [portWaits, hbefore q hq]
  have hfirst : s.store.order.find? (portWaits s) = some p := by
    rw [horder, List.find?_append, hskip, Option.none_or, List.find?_cons_of_pos]
    exact Option.isSome_iff_ne_none.2 hw
  have hkeep {l : List Port} (h : p ∉ l) : l.filter (· != p) = l :=
    List.filter_eq_self.2 fun q hq => bne_iff_ne.2 fun hqp => h (hqp ▸ hq)
  have hback : s.store.order.filter (· != p) = l₁ ++ l₂ := by
    rw [horder, List.filter_append, List.filter_cons_of_neg (by simp), hkeep h₁, hkeep h₂]
  unfold arbitrate
  rw [if_pos (by simp [halive, hgrant, hfold, hmarks]), hfirst, ← hback]

/-! ### A fold of what a grant found -/

/-- R41, R46: the state as the grant found it for the fold. -/
def atGrant (g : Grant) (s : State) : State := s.withFoldBare fun f => { f with buf := g.found }

/-- R41, R46: a command fold is a fold of what the grant found, and leaves to the next fold what came since. -/
theorem commandFold_found {g : Grant} {s : State} (h : s.store.grant = some g) :
    commandFold s = (performFold (atGrant g s)).withFold fun f => { f with buf := s.fold.buf.sinceGrant g } := by
  unfold commandFold
  rw [h]
  rfl

theorem withFold_fields (f : FoldEngine → FoldEngine) (s : State) : (s.withFold f).fold.waiting = (f s.fold).waiting
    ∧ (s.withFold f).fold.merges = (f s.fold).merges ∧ (s.withFold f).fold.buf = (f s.fold).buf := ⟨rfl, rfl, rfl⟩

/-- R46: what came since the grant waits, with what the requests of FOLD are. -/
theorem commandFold_found_waiting {g : Grant} {s : State} (h : s.store.grant = some g) :
    (commandFold s).fold.waiting = s.fold.waiting ∧ (commandFold s).fold.merges = s.fold.merges
      ∧ (commandFold s).fold.buf = s.fold.buf.sinceGrant g := by
  have hfold := performFold_fold (atGrant g s)
  rw [commandFold_found h]
  obtain ⟨hwaiting, hmerges, hbuf⟩ :=
    withFold_fields (fun f => { f with buf := s.fold.buf.sinceGrant g }) (performFold (atGrant g s))
  rw [hfold] at hwaiting hmerges
  exact ⟨hwaiting, hmerges, hbuf⟩

/-- R46: the records take what the grant found. -/
theorem commandFold_found_store {g : Grant} {s : State} (h : s.store.grant = some g) :
    (commandFold s).store = (performFold (atGrant g s)).store := by
  rw [commandFold_found h, withFold_store]

/-- R70: what CLEAR RECORD does of an allowed trip. -/
theorem workClearRecord_allowed {p : Port} {record : Byte} {k : TripNo} {s : State} (htrip : tripOf record = some k)
    (hmay : mayClear p k = true) (hsealed : RecordsSealed s.store) : workClearRecord p record false s
      = (clearTrip k (commandFold s), recordReply .ok k.record (clearTrip k (commandFold s))) := by
  unfold workClearRecord
  rw [htrip]
  simp [changeRecord, hmay, verifyRecord_sealed k.record s hsealed]

/-- R74: what the front's release asks of its grant. -/
theorem frontMayRelease_iff {g : Grant} {s : State} (h : s.store.grant = some g) : frontMayRelease s = true ↔
    g.rearSilent = true ∨ ∃ e, s.store.charter.endStamp = some e ∧ e + 300 ≤ g.now := by
  simp [frontMayRelease, h, Grant.letsFrontRelease, Option.any_eq_true]

/-- R74: what the front's release does of a CLOSED charter. -/
theorem workCharterRelease_front {s : State} (hsealed : RecordsSealed s.store) (hphase : s.store.charter.phase = .closed) :
    workCharterRelease .front false s = if frontMayRelease s then (vacateCharter s, recordReply .ok .charter (vacateCharter s))
      else (s, recordReply .wrongState .charter s) := by
  cases hmay : frontMayRelease s
  · simp [workCharterRelease, changeRecord, verifyRecord_sealed .charter s hsealed, checkRelease, hphase, hmay]
  · simp [workCharterRelease, changeRecord, verifyRecord_sealed .charter s hsealed, checkRelease, hphase, hmay]

/-- Settles O29. -/
theorem storeRequestsWaitTheirTurn : Obligations.StoreRequestsWaitTheirTurn := by
  intro p s halive
  refine ⟨fun r hr hw hclock hother hbusy => ?waits, fun r g hr hw hg hp hseen => ?fault,
    fun l₁ l₂ horder h₁ h₂ hgrant hfold hmarks hbefore hw =>
      arbitrate_grants halive horder h₁ h₂ hgrant hfold hmarks hbefore hw,
    fun g hw hp hg hholder hseen hsealed => ?clears, fun g hw hg hholder hseen hsealed hphase => ?releases⟩
  case waits =>
    have hruns : ∃ early work, RunsUnderGrant p r early work ∧ early s = none := by
      rcases hr with hr | hr
      · obtain ⟨early, work, hruns, hearly, -⟩ := changesStore_runs hr
        exact ⟨early, work, hruns, hearly s (hclock hr)⟩
      · obtain ⟨early, work, hruns, hearly⟩ := readsStore_runs (p := p) hr
        exact ⟨early, work, hruns, hearly s⟩
    obtain ⟨early, work, hruns, hearly⟩ := hruns
    refine ⟨_, hruns s, ?_⟩
    rw [underGrant_waits halive hw hearly hother hbusy]
    refine ⟨?_, by simp [SameFigures, SameRecords]⟩
    rw [settle_waitingRequest, waitingRequest_hold, if_pos rfl]
  case fault =>
    obtain ⟨early, work, hruns, -, hwork⟩ := changesStore_runs hr
    have hrefused : work g.faultSeen s = (s, .bare .clockFault) := hseen ▸ hwork s
    have hserved := underGrant_served (early := early) halive hw hg hp hrefused (.rfl' s)
    exact ⟨_, hruns s, hserved.answered, hserved.waiting, hserved.figures⟩
  case clears =>
    have hmay : mayClear p .a = true := by cases p <;> first | rfl | exact absurd rfl hp
    have hwork : workClearRecord p 1 g.faultSeen s
        = (clearTrip .a (commandFold s), recordReply .ok .a (clearTrip .a (commandFold s))) := by
      rw [hseen]
      exact workClearRecord_allowed (tripOf_toNat rfl) hmay hsealed
    have hserved := underGrant_served (early := earlyClearRecord 1) halive hw hg hholder hwork
      ((commandFold_portsKept s).before (clearTrip_port _ _))
    have hfrom : FoldedFrom (atGrant g s) (performFold (atGrant g s)) := performFold_from hsealed
    obtain ⟨hwaiting, hmerges, hbuf⟩ := commandFold_found_waiting hg
    have hstore := commandFold_found_store hg
    have hclock : (commandFold s).clock = s.clock := by simp
    generalize commandFold s = u at hserved hwaiting hmerges hbuf hstore hclock
    have hreading := hserved.reading
    refine ⟨_, rfl, ?_⟩
    change Served p s (clearTrip .a u, _) (settle s (serveClearRecord p 1 s)) at hserved
    have hnone := hserved.waiting
    change SameReading (clearTrip .a u) (settle s (serveClearRecord p 1 s)) at hreading
    generalize settle s (serveClearRecord p 1 s) = t at hreading hnone ⊢
    obtain ⟨hodo, ha, hb, hpp, -, -, -⟩ := hreading.records
    have hfold : t.fold = u.fold := hreading.fold
    simp only [clearTrip_store, setTrip_odo] at hodo
    have ha : t.store.a = (clearedBody u.clock.seconds u.store.odo.distance false).seal 1 := ha
    have hb : t.store.b = u.store.b := hb
    have hpp : t.store.p = u.store.p := hpp
    rw [hfold, hodo, ha, hb, hpp, hstore]
    refine ⟨hwaiting, hmerges, hbuf, ⟨hfrom.odo_distance, hfrom.b_body, hfrom.p_body, ?_⟩, hnone⟩
    rw [hfrom.odo_distance, hclock]
    rfl
  case releases =>
    have hwork := workCharterRelease_front hsealed hphase
    rw [← hseen] at hwork
    refine ⟨settle s (serveCharterRelease .front s), rfl, ?_⟩
    by_cases hmay : frontMayRelease s = true
    · rw [if_pos hmay] at hwork
      have hserved : Served .front s _ (settle s (serveCharterRelease .front s)) :=
        underGrant_served halive hw hg hholder hwork (vacateCharter_portsKept s)
      generalize settle s (serveCharterRelease .front s) = t at hserved ⊢
      obtain ⟨-, -, -, -, hcharter, -, -⟩ := hserved.reading.records
      have hanswered : Answered .front ⟨.ok, recordPage0 t .charter⟩ s t := by
        rw [hserved.reading.page0]
        exact hserved.answered
      refine ⟨hserved.waiting, fun _ => ⟨hanswered, ?_, ?_, ?_, hserved.ports _ (notified_notifyBoth _ _)⟩,
        fun h => absurd ((frontMayRelease_iff hg).1 hmay) h⟩
      · rw [hcharter]; rfl
      · rw [hcharter]; rfl
      · rw [hcharter]; rfl
    · rw [if_neg hmay] at hwork
      have hserved : Served .front s _ (settle s (serveCharterRelease .front s)) :=
        underGrant_served halive hw hg hholder hwork (.rfl' s)
      exact ⟨hserved.waiting, fun h => absurd ((frontMayRelease_iff hg).2 h) hmay,
        fun _ => ⟨hserved.answered, hserved.figures⟩⟩

end Sys2Proof.Proofs.WaitingRequests

/-! PROOFS. The unit choices, the figures of the trip computer and the reads that answer at once (chapters 5 and 10). -/

namespace Sys2Proof.Proofs.Reads

open Sys2Proof Sys2Proof.Machine Sys2Proof.Proofs.Basics Sys2Proof.Proofs.DistanceAndSpeed

/-- A command of a free port that is answered at once leaves what its owner leaves, with the reply delivered. -/
theorem next_answerAtOnce {p : Port} {f : State → Answer} {s t : State} {r : Reply} (h : PortFree p s) (hf : f s = (t, r)) :
    (Host.Outcome.next (answerAtOnce p f s) : Outcome) = .next (deliver p r t) := by
  rw [answerAtOnce_free p f s h, hf]

theorem alive_deliver (p : Port) (r : Reply) (s : State) : alive (deliver p r s) = alive s := by simp [alive]

theorem portFree_deliver {p : Port} {s : State} (h : alive s = true) (r : Reply) : PortFree p (deliver p r s) :=
  ⟨(alive_deliver p r s).trans h, by rw [waitingRequest_deliver, if_pos rfl]⟩

/-! ### SET UNITS -/

/-- The part with a console's choice stored. -/
def withChoice (p : Port) (n : Nat) (s : State) : State := { s with units := s.units.store p n }

theorem setUnits_stores {p : Port} {choice : Byte} {s : State} (hc : choice.toNat ≤ 2) (hp : p ≠ .service)
    (hclock : s.clock.mainFault = false) : setUnits p choice s =
      (if unitOf s p = choice.toNat then s else withChoice p choice.toNat s, ⟨.ok, [choice]⟩) := by
  rw [setUnits, if_neg (Nat.not_lt.2 hc), if_neg hp, if_neg (by simp [hclock])]
  rfl

theorem unitOf_withChoice {p : Port} (hp : p ≠ .service) (n : Nat) (s : State) : unitOf (withChoice p n s) p = n := by
  cases p
  · rfl
  · rfl
  · exact absurd rfl hp

theorem withChoice_check {p : Port} (hp : p ≠ .service) (n : Nat) (s : State) : (withChoice p n s).units.check =
    ((withChoice p n s).units.front + (withChoice p n s).units.rear + 5) % 65536 := by
  cases p
  · rfl
  · rfl
  · exact absurd rfl hp

/-- Settles O31. -/
theorem setUnitsStoresTheChoice : Obligations.SetUnitsStoresTheChoice := by
  intro p choice s hfree
  refine ⟨fun hbig => ?big, fun hc hp => ?denied, fun hc hp hclock => ?fault,
    fun hc hp hclock => ⟨fun hsame => ?same, fun hnew => ?new⟩⟩
  case big => exact next_answerAtOnce hfree (if_pos hbig)
  case denied => exact next_answerAtOnce hfree (by rw [setUnits, if_neg (Nat.not_lt.2 hc), if_pos hp]; rfl)
  case fault =>
    exact next_answerAtOnce hfree (by rw [setUnits, if_neg (Nat.not_lt.2 hc), if_neg hp, if_pos hclock]; rfl)
  case same => exact next_answerAtOnce hfree (by rw [setUnits_stores hc hp hclock, if_pos hsame])
  case new =>
    refine ⟨_, next_answerAtOnce hfree (by rw [setUnits_stores hc hp hclock, if_neg hnew]), ?_⟩
    generalize ht : deliver p ⟨.ok, [choice]⟩ (withChoice p choice.toNat s) = t
    have hunits : t.units = (withChoice p choice.toNat s).units := by rw [← ht, deliver_units]
    have hunit : unitOf t p = choice.toNat := by
      rw [← unitOf_withChoice hp choice.toNat s]
      simp only [unitOf, hunits]
    have hlive : PortFree p t := ht ▸ portFree_deliver (s := withChoice p choice.toNat s) hfree.1 _
    refine ⟨?_, hunit, ?_, ?_, ?_, ?_⟩
    · rw [hunits]
      exact ht.symm
    · rintro rfl
      rw [hunits]
      exact ⟨rfl, rfl⟩
    · rintro rfl
      rw [hunits]
      exact ⟨rfl, rfl⟩
    · rw [hunits]
      exact withChoice_check hp _ s
    · exact next_answerAtOnce hlive (by rw [readLive, hunit])

/-! ### The trip computer -/

theorem fuelUnits_eq (unit ml : Nat) (h : unit ≤ 2) : fuelUnits unit ml =
    if unit = 0 then ml / 100 else if unit = 1 then ml * 264172 / 100000000 else ml * 219969 / 100000000 := by
  interval_cases unit <;> rfl

theorem economy_eq (unit d f : Nat) (h : unit ≤ 2) : economy unit d f =
    if unit = 0 then (2 * (1000 * f) + d) / (2 * d)
    else if unit = 1 then (2 * (d * 235215) + f * 10000) / (2 * (f * 10000))
    else (2 * (d * 282481) + f * 10000) / (2 * (f * 10000)) := by
  interval_cases unit <;> rfl

theorem instantFlow_eq (unit f w : Nat) (h : unit ≤ 2) : instantFlow unit f w =
    if w = 0 then .absent else heldAt 999 false
      (if unit = 0 then (2 * (144 * f) + w) / (2 * w)
       else if unit = 1 then (2 * (144 * f * 264172) + w * 1000000) / (2 * (w * 1000000))
       else (2 * (144 * f * 219969) + w * 1000000) / (2 * (w * 1000000))) := by
  interval_cases unit <;> rfl

/-- R68: the seconds since a start, modulo 2^32. -/
theorem sinceStart_eq (now start : Nat) : sinceStart now start = (((now : Int) - start) % 4294967296).toNat := by
  unfold sinceStart clockModulus
  omega

section
variable {s : State} {r : RecordNo} {x : TripBody} (hx : bodyOf s r = some x)
include hx

/-- R87: the figures of a record with a body. -/
theorem derived_of_body (unit : Nat) : derived s r unit =
    ⟨⟨distanceFigure unit (reportedDistance s r), .valid⟩, fuelFigure unit (reportedFuel s r) x.fuelIncomplete,
      averageSpeed unit (reportedDistance s r) x.runQs x.fuelIncomplete,
      averageEconomy unit (reportedDistance s r) (reportedFuel s r) x.fuelIncomplete,
      timeFigure (noTimes s r) x.timeDegraded (elapsed s r),
      timeFigure (noTimes s r) (x.timeDegraded || x.fuelIncomplete) (waiting s r)⟩ := by
  simp only [derived, hx]

theorem waiting_of_body : waiting s r = elapsed s r - x.movingQs / 4 := by simp only [waiting, hx]

/-- R68: the elapsed seconds run to the present, or of a charter that is not RUNNING to its end. -/
theorem elapsed_of_body {now : Nat} (hnow : (¬ (r = .charter ∧ s.store.charter.phase ≠ .running) ∧ now = s.clock.seconds)
      ∨ ((r = .charter ∧ s.store.charter.phase ≠ .running) ∧ s.store.charter.endStamp = some now)) :
    elapsed s r = (((now : Int) - x.start) % 4294967296).toNat := by
  simp only [elapsed, hx]
  rcases hnow with ⟨hruns, rfl⟩ | ⟨hstopped, hend⟩
  · rw [if_neg hruns, sinceStart_eq]
  · rw [if_pos hstopped, hend, ← sinceStart_eq]

theorem noTimes_of_body {now : Nat} (hnow : (¬ (r = .charter ∧ s.store.charter.phase ≠ .running) ∧ now = s.clock.seconds)
      ∨ ((r = .charter ∧ s.store.charter.phase ≠ .running) ∧ s.store.charter.endStamp = some now)) :
    noTimes s r = false := by
  cases r
  case odo => cases hx
  case charter =>
    rcases hnow with ⟨hruns, -⟩ | ⟨-, hend⟩
    · simp_all [noTimes]
    · simp [noTimes, hend]
  all_goals rfl

end

/-- R186: a READ LIVE reply, field by field. -/
theorem liveContent_fields (s : State) (unit : Nat) : ∃ rest, liveContent s unit =
    BitVec.ofNat 8 unit :: BitVec.ofNat 8 (packBits [moving s, s.clock.mainFault, !instantEconomyKind s])
      :: BitVec.ofNat 8 (packMarks [.valid, (instantFigure s unit).mark, (rangeFigure s unit).mark, (fuelRemaining s unit).mark])
      :: (enc 2 (speedFigure unit s.meas.speed) ++ (enc 2 s.meas.rpm ++ (enc 2 (instantFigure s unit).number
        ++ (enc 2 (rangeFigure s unit).number ++ (enc 2 (fuelRemaining s unit).number
        ++ (encInt 2 (temperature unit s.meas.channels[5].value)
        ++ (encInt 2 (temperature unit s.meas.channels[2].value) ++ rest))))))) :=
  ⟨_, by
    simp only [liveContent, enc_one, List.append_assoc, List.cons_append, List.nil_append]
    rfl⟩

@[simp] theorem encInt_length (w : Nat) (v : Int) : (encInt w v).length = w := by simp [encInt]

/-- A field of two bytes is passed over. -/
theorem drop_enc_two (m n : Nat) (rest : List Byte) : (enc 2 m ++ rest).drop (n + 2) = rest.drop n := by
  rw [List.drop_append, enc_length, List.drop_eq_nil_of_le (by simp), List.nil_append]
  rfl

theorem packBits_third (a b c : Bool) : (BitVec.ofNat 8 (packBits [a, b, c])).getLsbD 2 = c := by
  cases a <;> cases b <;> cases c <;> decide

theorem packMarks_four (i r f : Mark) : packMarks [.valid, i, r, f] = 4 * i.toNat + 16 * r.toNat + 64 * f.toNat := by
  show 0 + 4 * (i.toNat + 4 * (r.toNat + 4 * (f.toNat + 4 * 0))) = _
  omega

theorem fuelFault_decide (s : State) :
    fuelFault s = decide (s.meas.channels[0].state = .fault ∨ s.meas.channels[1].state = .fault) := by
  simp [fuelFault, Bool.decide_or, beq_eq_decide]

theorem temperature_eq (unit : Nat) (c : Int) : temperature unit c = if unit = 1 then (18 * c + 5) / 10 + 32 else c := by
  unfold temperature roundSigned
  split_ifs
  · congr 2
    ring
  · rfl

/-- Settles O33. -/
theorem tripComputerFigures : Obligations.TripComputerFigures := by
  intro s unit hunit half gone plain held volume economy'
  have hvolume (ml : Nat) : fuelUnits unit ml = volume ml := fuelUnits_eq unit ml hunit
  have heconomy (d f : Nat) : economy unit d f = economy' d f := economy_eq unit d f hunit
  refine ⟨fun r x hx => ?record, ⟨rfl, rfl, rfl, rfl, rfl⟩, ?live⟩
  case record =>
    dsimp only
    rw [derived_of_body hx]
    refine ⟨?_, rfl, ?_, fun hnone => ?_, fun now hnow => ?_⟩
    · show fuelFigure unit _ _ = _
      rw [fuelFigure, hvolume]
      rfl
    · show averageEconomy unit _ _ _ = _
      rw [averageEconomy, heconomy]
      rfl
    · obtain ⟨rfl, hvacant, hend⟩ := hnone
      have hgone : noTimes s .charter = true := by simp [noTimes, hvacant, hend]
      rw [hgone]
      exact ⟨rfl, rfl⟩
    · rw [noTimes_of_body hx hnow, waiting_of_body hx, elapsed_of_body hx hnow]
      exact ⟨rfl, rfl⟩
  case live =>
    intro dw fw w byRoad instant dr fr ring q metres broken range fuel degrees reply
    have hinstant : instantFigure s unit = instant := by
      rw [instantFigure, instantEconomy, heconomy, instantFlow_eq _ _ _ hunit]
      rfl
    have hrange : rangeFigure s unit = range := by
      rw [rangeFigure, fuelFault_decide]
      rfl
    have hfuel : fuelRemaining s unit = fuel := by
      rw [fuelRemaining, fuelFault_decide, hvolume]
      rfl
    have hdegrees (c : Int) : temperature unit c = degrees c := temperature_eq unit c
    obtain ⟨rest, hreply⟩ := liveContent_fields s unit
    rw [hinstant, hrange, hfuel, hdegrees, hdegrees] at hreply
    have hreply : reply = _ := hreply
    rw [hreply]
    refine ⟨packBits_third _ _ _, ?_, ?_, ?_, ?_, ?_, ?_⟩
    · exact congrArg (BitVec.ofNat 8) (packMarks_four _ _ _)
    all_goals simp [drop_enc_two]

/-! ### The reads that change nothing -/

theorem readService_item {p : Port} {item page : Byte} {s : State} {k : Fin 8} (h : item.toNat = k.val) :
    readService p item page s = (s, pagedReply (enc 1 k.val) page (serviceFields s p k)) := by
  have hlt : item.toNat < 8 := h ▸ k.isLt
  have hk : (⟨item.toNat, hlt⟩ : Fin 8) = k := Fin.ext h
  rw [readService, dif_pos hlt, hk]
  rfl

theorem clearRefuelMark_fold (p : Port) (s : State) : (clearRefuelMark p s).fold =
    { s.fold with tank := (clearRefuelMark p s).fold.tank, check := foldCheck (clearRefuelMark p s).fold } := rfl

/-- R57: the asker's mark is cleared, and the others stay. -/
theorem refuelMark_clear (p o : Port) (s : State) :
    refuelMark (clearRefuelMark p s) o = if o = p then false else refuelMark s o := by
  cases p <;> cases o <;> rfl

theorem clearRefuelMark_tank (p : Port) (s : State) : (clearRefuelMark p s).fold.tank.q = s.fold.tank.q
    ∧ (clearRefuelMark p s).fold.tank.settled = s.fold.tank.settled := by cases p <;> exact ⟨rfl, rfl⟩

theorem refuelMark_of_fold {s t : State} (h : t.fold = s.fold) (p : Port) : refuelMark t p = refuelMark s p := by
  simp only [refuelMark, h]

/-- Settles O34. -/
theorem readsAnswerAtOnce : Obligations.ReadsAnswerAtOnce := by
  intro p a b s hfree
  refine ⟨next_answerAtOnce hfree rfl, next_answerAtOnce hfree rfl, next_answerAtOnce hfree rfl, next_answerAtOnce hfree rfl,
    next_answerAtOnce hfree rfl, next_answerAtOnce hfree rfl, fun k hk => ?item, fun hbig => ?noItem, fun ha hb => ?setting,
    fun hbad => ?noSetting, fun hkept => ?foldKept, fun ha hmark => ?foldCleared⟩
  case item => exact next_answerAtOnce hfree (readService_item hk)
  case noItem => exact next_answerAtOnce hfree (dif_neg (Nat.not_lt.2 hbig))
  case setting =>
    exact next_answerAtOnce hfree (if_neg (not_or.2 ⟨Nat.not_lt.2 ha, Nat.not_le.2 hb⟩))
  case noSetting => exact next_answerAtOnce hfree (if_pos hbad)
  case foldKept =>
    have hstays : ¬ (a = 0 ∧ refuelMark s p = true) := by
      rintro ⟨ha, hmark⟩
      rcases hkept with hpage | hclear
      · exact hpage ha
      · rw [hmark] at hclear
        cases hclear
    exact next_answerAtOnce hfree (by rw [readFold, if_neg hstays])
  case foldCleared =>
    refine ⟨_, next_answerAtOnce hfree (by rw [readFold, if_pos ⟨ha, hmark⟩]), ?_⟩
    generalize ht : deliver p (pagedReply [] a (foldFields s p)) (clearRefuelMark p s) = t
    have hfold : t.fold = (clearRefuelMark p s).fold := by rw [← ht, deliver_fold]
    refine ⟨?_, ?_, ?_, ?_, ?_, fun o ho => ?_⟩
    · rw [hfold]
      exact ht.symm
    · rw [hfold]
      exact clearRefuelMark_fold p s
    · rw [hfold, (clearRefuelMark_tank p s).1]
    · rw [hfold, (clearRefuelMark_tank p s).2]
    · rw [refuelMark_of_fold hfold, refuelMark_clear, if_pos rfl]
    · rw [refuelMark_of_fold hfold, refuelMark_clear, if_neg ho]

/-! ### READ WARNINGS -/

/-- R114: the entries that are given are the longest run of whole entries that fits. -/
theorem fitEntries_longest (l : List (List Byte)) (budget : Nat) : ∃ n ≤ l.length, fitEntries budget l = (l.take n).flatten
    ∧ (l.take n).flatten.length ≤ budget ∧ ∀ m ≤ l.length, (l.take m).flatten.length ≤ budget → m ≤ n := by
  induction l generalizing budget with
  | nil => exact ⟨0, le_rfl, rfl, Nat.zero_le _, fun m hm _ => hm⟩
  | cons f fs ih =>
    by_cases hf : f.length ≤ budget
    · obtain ⟨n, hn, hfits, hlength, hlongest⟩ := ih (budget - f.length)
      refine ⟨n + 1, Nat.succ_le_succ hn, ?_, ?_, fun m hm hlen => ?_⟩
      · rw [fitEntries, if_pos hf, hfits, List.take_succ_cons, List.flatten_cons]
      · rw [List.take_succ_cons, List.flatten_cons, List.length_append]
        omega
      · rcases m with _ | m
        · exact Nat.zero_le _
        · rw [List.take_succ_cons, List.flatten_cons, List.length_append] at hlen
          exact Nat.succ_le_succ (hlongest m (Nat.le_of_succ_le_succ hm) (by omega))
    · refine ⟨0, Nat.zero_le _, ?_, Nat.zero_le _, fun m hm hlen => ?_⟩
      · rw [fitEntries, if_neg hf]
        rfl
      · rcases m with _ | m
        · exact le_rfl
        · rw [List.take_succ_cons, List.flatten_cons, List.length_append] at hlen
          omega

/-- R113: what a port's view shows. -/
theorem viewList_eq (p : Port) (l : List Entry) :
    viewList p l = if p = .rear then l.filter (fun e => (warnDef e.w).shownRear) else l := by
  cases p <;> rfl

/-! ### READ WAKE CAUSES -/

theorem emptyCauses_eq (p : Port) (s : State) : emptyCauses p s = { s with power := { s.power with
    causeFront := if p = .front then 0 else s.power.causeFront
    causeRear := if p = .rear then 0 else s.power.causeRear } } := by
  cases p <;> rfl

theorem enc_one_power (x : PowerState) :
    enc 1 x.toNat = [match x with | .run => 0 | .acc => 1 | .awake => 2 | .parked => 3] := by
  cases x <;> decide

theorem encOpt_park (x : Option ParkCause) : encOpt 1 (x.map ParkCause.toNat) =
    match x with | none => [0, 0] | some .delay => [1, 0] | some .limit => [1, 1] := by
  rcases x with _ | (_ | _)
  · decide
  · decide
  · decide

theorem enc_shownSeconds (x : Option Nat) :
    enc 2 (shownSeconds x) = match x with | none => [0, 0] | some n => enc 2 (n / 32768) := by
  rcases x with _ | n
  · decide
  · rfl

theorem reasonSet_eq (s : State) : reasonSet s =
    (if chimeBusy s then 1 else 0) + (if nvBusy s then 2 else 0) + (if keyOrLights s then 4 else 0) := by
  unfold reasonSet
  cases chimeBusy s <;> cases nvBusy s <;> cases keyOrLights s <;> decide

/-! ### Pages -/

/-- R173: fields cut into runs of whole fields, as many in each as fit; the run being filled has begun with `cur`. -/
def cutRuns (budget : Nat) : List (List Byte) → List (List Byte) → List (List (List Byte))
  | [], cur => [cur]
  | f :: fs, cur =>
    if cur.flatten.length + f.length ≤ budget then cutRuns budget fs (cur ++ [f]) else cur :: cutRuns budget fs [f]

theorem paginate_cutRuns (budget : Nat) (fields cur : List (List Byte)) :
    paginate budget fields cur.flatten = (cutRuns budget fields cur).map List.flatten := by
  induction fields generalizing cur with
  | nil => rfl
  | cons f fs ih =>
    rw [paginate, cutRuns]
    split_ifs
    · rw [← ih, List.flatten_append, List.flatten_singleton]
    · rw [List.map_cons, ← ih, List.flatten_singleton]

theorem cutRuns_flatten (budget : Nat) (fields cur : List (List Byte)) :
    (cutRuns budget fields cur).flatten = cur ++ fields := by
  induction fields generalizing cur with
  | nil => simp [cutRuns]
  | cons f fs ih =>
    rw [cutRuns]
    split_ifs
    · rw [ih, List.append_assoc, List.singleton_append]
    · rw [List.flatten_cons, ih, List.singleton_append]

theorem cutRuns_fit {budget : Nat} {fields cur : List (List Byte)} (h : ∀ f ∈ fields, f.length ≤ budget)
    (hc : cur.flatten.length ≤ budget) : ∀ r ∈ cutRuns budget fields cur, r.flatten.length ≤ budget := by
  induction fields generalizing cur with
  | nil => simpa [cutRuns] using hc
  | cons f fs ih =>
    obtain ⟨hf, hfs⟩ := List.forall_mem_cons.1 h
    rw [cutRuns]
    split_ifs with hfits
    · exact ih hfs (by rwa [List.flatten_append, List.flatten_singleton, List.length_append])
    · exact List.forall_mem_cons.2 ⟨hc, ih hfs (by rwa [List.flatten_singleton])⟩

theorem cutRuns_ne_nil {budget : Nat} {fields cur : List (List Byte)} (h : cur ≠ []) :
    ∀ r ∈ cutRuns budget fields cur, r ≠ [] := by
  induction fields generalizing cur with
  | nil => simpa [cutRuns] using h
  | cons f fs ih =>
    rw [cutRuns]
    split_ifs
    · exact ih (by simp)
    · exact List.forall_mem_cons.2 ⟨h, ih (by simp)⟩

/-- The first run begins with the fields that it had. -/
theorem cutRuns_head {budget : Nat} {fields cur : List (List Byte)} :
    ∃ more rest, cutRuns budget fields cur = (cur ++ more) :: rest := by
  induction fields generalizing cur with
  | nil => exact ⟨[], [], by simp [cutRuns]⟩
  | cons f fs ih =>
    rw [cutRuns]
    split_ifs
    · obtain ⟨more, rest, heq⟩ := ih (cur := cur ++ [f])
      exact ⟨[f] ++ more, rest, by rw [heq, List.append_assoc]⟩
    · exact ⟨[], _, by rw [List.append_nil]⟩

/-- R173: a run ends where its next field does not fit. -/
theorem cutRuns_full {budget : Nat} {fields cur : List (List Byte)} {before after : List (List (List Byte))}
    {r fs : List (List Byte)} {f : List Byte} (h : cutRuns budget fields cur = before ++ r :: (f :: fs) :: after) :
    budget < r.flatten.length + f.length := by
  induction fields generalizing cur before with
  | nil =>
    have hlength := congrArg List.length h
    simp [cutRuns] at hlength
    omega
  | cons g gs ih =>
    rw [cutRuns] at h
    split_ifs at h with hfits
    · exact ih h
    · rcases before with _ | ⟨b, before⟩
      · obtain ⟨rfl, hrest⟩ := List.cons.inj h
        obtain ⟨more, rest, hhead⟩ := cutRuns_head (budget := budget) (fields := gs) (cur := [g])
        rw [hhead] at hrest
        obtain ⟨hfirst, -⟩ := List.cons.inj hrest
        obtain ⟨rfl, -⟩ := List.cons.inj hfirst
        exact Nat.not_le.1 hfits
      · exact ih (List.cons.inj h).2

/-- Settles O35. -/
theorem readsThatEmptyAndPages : Obligations.ReadsThatEmptyAndPages := by
  refine ⟨fun p start s hfree => ⟨fun hbig => ?noStart, fun hstart => ?warnings, fun hp => ?denied, fun hp => ?front, fun hp => ?rear,
    ?causes⟩, fun budget fields hfields => ?runs, fun head page fields => ?page⟩
  case noStart => exact next_answerAtOnce hfree (if_pos hbig)
  case warnings =>
    dsimp only
    rw [← viewList_eq p s.warn.list]
    obtain ⟨n, hn, hfits, hlength, hlongest⟩ :=
      fitEntries_longest ((((viewList p s.warn.list).drop start.toNat).take 4).map (entryField p)) 26
    have hgiven (m : Nat) (hm : m ≤ 4) : (((((viewList p s.warn.list).drop start.toNat).take 4).map (entryField p)).take m)
        = ((viewList p s.warn.list).drop start.toNat |>.take m).map (entryField p) := by
      rw [← List.map_take, List.take_take, min_eq_left hm]
    rw [List.length_map, List.length_take, le_min_iff] at hn
    rw [hgiven n hn.1] at hfits hlength
    refine ⟨n, ⟨hn.1, hn.2, hlength⟩, fun m hm => ?_, ?_⟩
    · refine hlongest m ?_ ?_
      · rw [List.length_map, List.length_take, le_min_iff]
        exact ⟨hm.1, hm.2.1⟩
      · rw [hgiven m hm.1]
        exact hm.2.2
    · rw [← hfits]
      exact next_answerAtOnce hfree (if_neg (Nat.not_lt.2 hstart))
  case denied =>
    subst hp
    exact next_answerAtOnce hfree rfl
  case front =>
    subst hp
    exact next_answerAtOnce hfree rfl
  case rear =>
    subst hp
    exact next_answerAtOnce hfree rfl
  case causes =>
    refine next_answerAtOnce hfree ?_
    rw [readWakeCauses, emptyCauses_eq, enc_one_power, encOpt_park, enc_shownSeconds, enc_shownSeconds, reasonSet_eq]
    rfl
  case runs =>
    refine ⟨cutRuns budget fields [], ?_, ?_, cutRuns_fit hfields (Nat.zero_le _), fun hne => ?_, fun _ _ _ _ _ => cutRuns_full⟩
    · rw [cutRuns_flatten, List.nil_append]
    · exact paginate_cutRuns budget fields []
    · rcases fields with _ | ⟨f, fs⟩
      · exact absurd rfl hne
      · rw [cutRuns, if_pos (by simpa using hfields f)]
        exact cutRuns_ne_nil (by simp)
  case page =>
    unfold pagedReply
    dsimp only
    split_ifs with h
    · rw [List.getElem?_eq_getElem h]
    · rw [List.getElem?_eq_none (Nat.not_lt.1 h)]
      rfl

end Sys2Proof.Proofs.Reads

/-! PROOFS. What a change of the active list makes of its service view, which shows everything of an entry but its chime states
(R113): the chime unit and the settling of an event change nothing of it; ACTIVE entries after a raise and a release. -/

namespace Sys2Proof.Proofs.Views

open Sys2Proof Sys2Proof.Machine Sys2Proof.Proofs.RaiseOfDefinition

/-! ### The service view -/

theorem view_service (l : List Entry) : view .service l = l.map (viewEntry .service) := rfl

/-- The two lists are the same but for the chime states. -/
abbrev SameShown (s t : State) : Prop := view .service t.warn.list = view .service s.warn.list

theorem SameShown.of_list {s t : State} (h : t.warn.list = s.warn.list) : SameShown s t := congrArg (view .service) h

theorem SameShown.of_warn {s t : State} (h : t.warn = s.warn) : SameShown s t := .of_list (congrArg WarningUnit.list h)

theorem SameShown.ite {b : Prop} [Decidable b] {s t u : State} (h : SameShown s t) (k : SameShown s u) :
    SameShown s (if b then t else u) := by
  split_ifs
  · exact h
  · exact k

/-- A change of entries that the service view does not show leaves the view. -/
theorem view_map_unshown {f : Entry → Entry} (h : ∀ e, viewEntry .service (f e) = viewEntry .service e) (l : List Entry) :
    view .service (l.map f) = view .service l := by
  rw [view_service, List.map_map]
  exact List.map_congr_left fun e _ => h e

theorem viewEntry_setChime (e : Entry) (sp : Speaker) (m : Option ChimeMark) :
    viewEntry .service (e.setChime sp m) = viewEntry .service e := by cases sp <;> rfl

theorem setChime_shown (w : Fin 24) (sp : Speaker) (m : ChimeMark) (s : State) : SameShown s (setChime w sp m s) := by
  refine view_map_unshown (fun e => ?_) s.warn.list
  split_ifs
  · exact viewEntry_setChime _ _ _
  · rfl

theorem viewEntry_quieted (e : Entry) : viewEntry .service e.quieted = viewEntry .service e := by
  unfold Entry.quieted
  split_ifs
  · exact viewEntry_setChime _ _ _
  · rfl

theorem settleQuiet_shown (s : State) : SameShown s (settleQuiet s) := by
  unfold settleQuiet
  exact .ite rfl (view_map_unshown viewEntry_quieted s.warn.list)

theorem takeCandidate_shown (sp : Speaker) (c : Candidate) (s : State) : SameShown s (takeCandidate sp c s) := by
  cases c
  · exact setChime_shown _ _ _ s
  · rfl

theorem choose_shown (sp : Speaker) (s : State) : SameShown s (choose sp s) := by
  unfold choose
  split
  · rfl
  · exact takeCandidate_shown _ _ s

theorem chooseIfIdle_shown (sp : Speaker) (s : State) : SameShown s (chooseIfIdle sp s) := by
  unfold chooseIfIdle
  split
  · exact choose_shown sp s
  · rfl

theorem chooseBoth_shown (s : State) : SameShown s (chooseBoth s) :=
  (chooseIfIdle_shown .rear _).trans (chooseIfIdle_shown .front s)

theorem settleChimes_shown (s : State) : SameShown s (settleChimes s) := by
  unfold settleChimes
  exact .ite ((chooseBoth_shown _).trans (settleQuiet_shown s)) (settleQuiet_shown s)

/-- The list that settling leaves is the one that the chime unit leaves. -/
theorem settle_list (a s : State) : (settle a s).warn.list = (settleChimes s).warn.list := by
  unfold settle settleFrom
  rw [countViews_warn]
  simp

theorem settle_shown (a s : State) : SameShown s (settle a s) :=
  (congrArg (view .service) (settle_list a s)).trans (settleChimes_shown s)

theorem deliver_shown (p : Port) (r : Reply) (s : State) : SameShown s (deliver p r s) := .of_warn (deliver_warn p r s)

/-! ### What is read from the service view -/

/-- What holds of some entry, and is shown, holds of some entry of a list with the same view. -/
theorem exists_of_view {P : Entry → Prop} (hP : ∀ e, P (viewEntry .service e) ↔ P e) {l m : List Entry}
    (h : view .service m = view .service l) : (∃ e ∈ m, P e) ↔ ∃ e ∈ l, P e := by
  have hview (l : List Entry) : (∃ e ∈ l, P e) ↔ ∃ e ∈ view .service l, P e := by
    rw [view_service]
    constructor
    · rintro ⟨e, he, hp⟩
      exact ⟨_, List.mem_map_of_mem he, (hP e).2 hp⟩
    · rintro ⟨x, hx, hp⟩
      obtain ⟨e, he, rfl⟩ := List.mem_map.1 hx
      exact ⟨e, he, (hP e).1 hp⟩
  rw [hview m, hview l, h]

theorem activeEntry_of_shown {s t : State} (h : SameShown s t) (w : Fin 24) : ActiveEntry w t ↔ ActiveEntry w s :=
  exists_of_view (P := fun e => e.w = w ∧ e.cleared = false) (fun _ => Iff.rfl) h

/-- The entry of a definition, as the service view shows it, is found in the view. -/
theorem findEntry_view (w : Fin 24) (l : List Entry) :
    findEntry w (view .service l) = (findEntry w l).map (viewEntry .service) := by
  rw [view_service, findEntry, List.find?_map]
  rfl

theorem findEntry_of_view {l m : List Entry} (h : view .service m = view .service l) {w : Fin 24} {e : Entry}
    (he : findEntry w l = some e) : ∃ x, findEntry w m = some x ∧ viewEntry .service x = viewEntry .service e := by
  have hfound := findEntry_view w m
  rw [h, findEntry_view, he, Option.map_some] at hfound
  exact Option.map_eq_some_iff.1 hfound.symm

/-- An entry is given to a port from what its view shows of it. -/
theorem entryField_of_view {x e : Entry} (h : viewEntry .service x = viewEntry .service e) (p : Port) :
    entryField p x = entryField p e := by
  have hview (e : Entry) : entryField p (viewEntry .service e) = entryField p e := by
    cases p <;> rfl
  rw [← hview x, ← hview e, h]

/-! ### ACTIVE entries after a raise and a release -/

theorem activeStands_iff (s : State) (w : Fin 24) : activeStands s w = true ↔ ActiveEntry w s := by
  simp [activeStands, ActiveEntry]

theorem activeEntry_insert (w : Fin 24) (e : Entry) (l : List Entry) :
    (∃ x ∈ insertEntry e l, x.w = w ∧ x.cleared = false) ↔ (e.w = w ∧ e.cleared = false)
      ∨ ∃ x ∈ l, x.w = w ∧ x.cleared = false := by
  simp only [mem_insertEntry, or_and_right, exists_or, exists_eq_left]

theorem exists_dropEntry {w v : Fin 24} (h : w ≠ v) (l : List Entry) :
    (∃ x ∈ dropEntry v l, x.w = w ∧ x.cleared = false) ↔ ∃ x ∈ l, x.w = w ∧ x.cleared = false := by
  constructor
  · rintro ⟨x, hx, hw, hc⟩
    exact ⟨x, (mem_dropEntry.1 hx).1, hw, hc⟩
  · rintro ⟨x, hx, hw, hc⟩
    exact ⟨x, mem_dropEntry.2 ⟨hx, hw ▸ h⟩, hw, hc⟩

/-- A change of the entry of one definition leaves whether another stands ACTIVE. -/
theorem exists_mapEntry {w v : Fin 24} (h : w ≠ v) {f : Entry → Entry} (hf : ∀ e, (f e).w = e.w) (l : List Entry) :
    (∃ x ∈ mapEntry v f l, x.w = w ∧ x.cleared = false) ↔ ∃ x ∈ l, x.w = w ∧ x.cleared = false := by
  unfold mapEntry
  simp only [List.mem_map, exists_exists_and_eq_and]
  refine exists_congr fun e => and_congr_right fun _ => ?_
  split_ifs with he
  · rw [hf]
    exact ⟨fun hw => absurd (hw.1.symm.trans he) h, fun hw => absurd (hw.1.symm.trans he) h⟩
  · rfl

theorem raiseList_active (v : Fin 24) (add : Bool) (d : BitVec 8) (stamp : Nat) (l : List Entry) :
    ∃ x ∈ raiseList v add d stamp l, x.w = v ∧ x.cleared = false := by
  unfold raiseList
  rcases hfound : findEntry v l with _ | e
  · exact ⟨freshEntry v stamp d, (mem_insertEntry _ _ _).2 (.inl rfl), rfl, rfl⟩
  · obtain ⟨hmem, hw⟩ := findEntry_some hfound
    dsimp only
    split_ifs with hc
    · exact ⟨freshEntry v stamp d, (mem_insertEntry _ _ _).2 (.inl rfl), rfl, rfl⟩
    · refine ⟨e.updateDetail add d, List.mem_map.2 ⟨e, hmem, if_pos hw⟩, hw, Bool.eq_false_iff.2 hc⟩

theorem raiseList_other {w v : Fin 24} (h : w ≠ v) (add : Bool) (d : BitVec 8) (stamp : Nat) (l : List Entry) :
    (∃ x ∈ raiseList v add d stamp l, x.w = w ∧ x.cleared = false) ↔ ∃ x ∈ l, x.w = w ∧ x.cleared = false := by
  have hfresh (l : List Entry) : (∃ x ∈ insertEntry (freshEntry v stamp d) l, x.w = w ∧ x.cleared = false)
      ↔ ∃ x ∈ l, x.w = w ∧ x.cleared = false := by
    rw [activeEntry_insert]
    exact or_iff_right fun hw => h hw.1.symm
  unfold raiseList
  rcases findEntry v l with _ | e
  · exact hfresh l
  · dsimp only
    split_ifs
    · rw [hfresh, exists_dropEntry h]
    · exact exists_mapEntry h (f := fun x => x.updateDetail add d) (fun _ => rfl) l

/-- R107: after a raise the definition stands ACTIVE, and the others as they stood. -/
theorem activeEntry_raise (w v : Fin 24) (add : Bool) (d : BitVec 8) (s : State) :
    ActiveEntry w (raise v add d s) ↔ w = v ∨ ActiveEntry w s := by
  by_cases h : w = v
  · subst h
    exact ⟨fun _ => .inl rfl, fun _ => raiseList_active _ _ _ _ _⟩
  · rw [or_iff_right h]
    exact raiseList_other h _ _ _ _

theorem releaseList_gone (v : Fin 24) {l : List Entry} (hl : ListOrdered l) :
    ¬ ∃ x ∈ releaseList v l, x.w = v ∧ x.cleared = false := by
  rintro ⟨x, hx, hw, hc⟩
  unfold releaseList at hx
  rcases hfound : findEntry v l with _ | e
  · rw [hfound] at hx
    exact findEntry_none.1 hfound x hx hw
  · rw [hfound] at hx
    dsimp only at hx
    split_ifs at hx with hcleared hlatched
    · have hx' := findEntry_of_mem hl hx
      rw [hw, hfound, Option.some.injEq] at hx'
      rw [hx', hc] at hcleared
      cases hcleared
    · obtain ⟨y, -, rfl⟩ := List.mem_map.1 hx
      split_ifs at hc hw with hy
      · cases hc
      · exact hy hw
    · exact (mem_dropEntry.1 hx).2 hw

theorem releaseList_other {w v : Fin 24} (h : w ≠ v) (l : List Entry) :
    (∃ x ∈ releaseList v l, x.w = w ∧ x.cleared = false) ↔ ∃ x ∈ l, x.w = w ∧ x.cleared = false := by
  unfold releaseList
  rcases findEntry v l with _ | e
  · rfl
  · dsimp only
    split_ifs
    · rfl
    · exact exists_mapEntry h (f := Entry.clear) (fun _ => rfl) l
    · exact exists_dropEntry h l

/-- R108: after a release the definition does not stand ACTIVE, and the others stand as they stood. -/
theorem activeEntry_release (w v : Fin 24) {s : State} (hl : ListOrdered s.warn.list) :
    ActiveEntry w (release v s) ↔ w ≠ v ∧ ActiveEntry w s := by
  by_cases h : w = v
  · subst h
    exact ⟨fun ha => absurd ha (releaseList_gone w hl), fun ha => absurd rfl ha.1⟩
  · rw [and_iff_right h]
    exact releaseList_other h _

end Sys2Proof.Proofs.Views

/-! PROOFS. The warning expiry, ACK WARNING, REAR CALL and SET OVERSPEED (chapter 6). -/

namespace Sys2Proof.Proofs.Warnings

open Sys2Proof Sys2Proof.Machine Sys2Proof.Proofs.Basics Sys2Proof.Proofs.Grants Sys2Proof.Proofs.Views
open Sys2Proof.Proofs.RaiseOfDefinition Sys2Proof.Proofs.Reads

/-! ### One sampled definition (R103) -/

/-- Whether a definition stands ACTIVE and its counts are the same. -/
structure SameStanding (w : Fin 24) (s t : State) : Prop where
  qualify : t.warn.qualify[w] = s.warn.qualify[w]
  release : t.warn.release[w] = s.warn.release[w]
  active  : ActiveEntry w t ↔ ActiveEntry w s

theorem SameStanding.rfl' (w : Fin 24) (s : State) : SameStanding w s s := ⟨rfl, rfl, Iff.rfl⟩

theorem SameStanding.trans {w : Fin 24} {s t u : State} (h : SameStanding w s t) (k : SameStanding w t u) : SameStanding w s u :=
  ⟨k.qualify.trans h.qualify, k.release.trans h.release, k.active.trans h.active⟩

/-- R103: what a warning expiry makes of a sampled definition. -/
def Sampled (w : Fin 24) (x : Sample) (s t : State) : Prop :=
  if x.gate = false then t.warn.qualify[w] = 0 ∧ t.warn.release[w] = 0 ∧ ¬ ActiveEntry w t
  else if x.holds = true then
    t.warn.qualify[w] = min x.qualify (s.warn.qualify[w] + 1) ∧ t.warn.release[w] = 0
    ∧ (ActiveEntry w t ↔ ActiveEntry w s ∨ x.qualify ≤ s.warn.qualify[w] + 1)
  else if x.releases = true then
    t.warn.qualify[w] = 0 ∧ t.warn.release[w] = min x.release (s.warn.release[w] + 1)
    ∧ (ActiveEntry w t ↔ ActiveEntry w s ∧ s.warn.release[w] + 1 < x.release)
  else t.warn.qualify[w] = 0 ∧ t.warn.release[w] = 0 ∧ (ActiveEntry w t ↔ ActiveEntry w s)

theorem Sampled.of_standing {w : Fin 24} {x : Sample} {s s' t t' : State} (h : Sampled w x s t) (hs : SameStanding w s s')
    (ht : SameStanding w t t') : Sampled w x s' t' := by
  unfold Sampled at h ⊢
  rwa [ht.qualify, ht.release, ht.active, hs.qualify, hs.release, hs.active]

theorem setCounts_qualify (w v : Fin 24) (q r : Nat) (s : State) :
    (setCounts w q r s).warn.qualify[v] = if w = v then q else s.warn.qualify[v] := by
  simp [setCounts, Vector.getElem_setIfInBounds, Fin.ext_iff]

theorem setCounts_release (w v : Fin 24) (q r : Nat) (s : State) :
    (setCounts w q r s).warn.release[v] = if w = v then r else s.warn.release[v] := by
  simp [setCounts, Vector.getElem_setIfInBounds, Fin.ext_iff]

theorem setCounts_active (w v : Fin 24) (q r : Nat) (s : State) : ActiveEntry v (setCounts w q r s) ↔ ActiveEntry v s := Iff.rfl

/-- What a sampling step leaves: the blocks but the warning unit, and of that the counters and the limit. -/
structure SampledFrom (s t : State) : Prop where
  same    : t = { s with warn := { s.warn with list := t.warn.list, qualify := t.warn.qualify, release := t.warn.release } }
  ordered : ListOrdered s.warn.list → ListOrdered t.warn.list

theorem SampledFrom.rfl' (s : State) : SampledFrom s s := ⟨rfl, id⟩

theorem SampledFrom.trans {s t u : State} (h : SampledFrom s t) (k : SampledFrom t u) : SampledFrom s u where
  same := by rw [k.same, h.same]
  ordered := k.ordered ∘ h.ordered

theorem SampledFrom.ite {b : Prop} [Decidable b] {s t u : State} (h : SampledFrom s t) (k : SampledFrom s u) :
    SampledFrom s (if b then t else u) := by
  split_ifs
  · exact h
  · exact k

theorem setCounts_sampledFrom (w : Fin 24) (q r : Nat) (s : State) : SampledFrom s (setCounts w q r s) := ⟨rfl, id⟩

theorem raise_sampledFrom (w : Fin 24) (d : BitVec 8) (s : State) : SampledFrom s (raise w false d s) :=
  ⟨rfl, raise_ordered w false d s⟩

theorem release_sampledFrom (w : Fin 24) (s : State) : SampledFrom s (release w s) := ⟨rfl, release_ordered w s⟩

theorem sampleOne_sampledFrom (s : State) (w : Fin 24) : SampledFrom s (sampleOne s w) := by
  unfold sampleOne
  rcases sample s w with _ | x
  · exact .rfl' s
  · refine .ite ((setCounts_sampledFrom w _ _ s).trans (release_sampledFrom w _)) (.ite ?_ (.ite ?_ (setCounts_sampledFrom w _ _ s)))
    · exact .ite ((setCounts_sampledFrom w _ _ s).trans (raise_sampledFrom w _ _)) (setCounts_sampledFrom w _ _ s)
    · exact .ite ((setCounts_sampledFrom w _ _ s).trans (release_sampledFrom w _)) (setCounts_sampledFrom w _ _ s)

/-- R103: the samples are of the state that the expiry found. -/
theorem SampledFrom.sample_eq {s t : State} (h : SampledFrom s t) (w : Fin 24) : sample t w = sample s w := by
  rw [h.same]
  rfl

section
variable {s : State} {w v : Fin 24} (hl : ListOrdered s.warn.list)
include hl

theorem release_standing (h : v ≠ w) : SameStanding v s (release w s) :=
  ⟨rfl, rfl, (activeEntry_release v w hl).trans (and_iff_right h)⟩

omit hl in
theorem raise_standing (h : v ≠ w) (d : BitVec 8) : SameStanding v s (raise w false d s) :=
  ⟨rfl, rfl, (activeEntry_raise v w false d s).trans (or_iff_right h)⟩

omit hl in
theorem setCounts_standing (h : v ≠ w) (q r : Nat) : SameStanding v s (setCounts w q r s) :=
  ⟨by rw [setCounts_qualify, if_neg h.symm], by rw [setCounts_release, if_neg h.symm], Iff.rfl⟩

/-- R103: sampling one definition leaves the others. -/
theorem sampleOne_standing (h : v ≠ w) : SameStanding v s (sampleOne s w) := by
  have hset (q r : Nat) : SameStanding v s (setCounts w q r s) := setCounts_standing h q r
  have hrelease (q r : Nat) : SameStanding v s (release w (setCounts w q r s)) := (hset q r).trans (release_standing hl h)
  unfold sampleOne
  rcases sample s w with _ | x
  · exact .rfl' v s
  · dsimp only
    split_ifs
    · exact hrelease 0 0
    · exact (hset _ 0).trans (raise_standing h _)
    · exact hset _ 0
    · exact hrelease 0 _
    · exact hset 0 _
    · exact hset 0 0

/-- R103: what sampling makes of the definition itself. -/
theorem sampleOne_sampled {x : Sample} (hx : sample s w = some x) : Sampled w x s (sampleOne s w) := by
  have hgone (q r : Nat) : ¬ ActiveEntry w (release w (setCounts w q r s)) := fun ha =>
    ((activeEntry_release w w (s := setCounts w q r s) hl).1 ha).1 rfl
  have hq (q r : Nat) : (setCounts w q r s).warn.qualify[w] = q := by rw [setCounts_qualify, if_pos rfl]
  have hr (q r : Nat) : (setCounts w q r s).warn.release[w] = r := by rw [setCounts_release, if_pos rfl]
  unfold sampleOne Sampled
  rw [hx]
  dsimp only
  by_cases hgate : x.gate = false
  · rw [if_pos hgate, if_pos hgate]
    exact ⟨hq 0 0, hr 0 0, hgone 0 0⟩
  rw [if_neg hgate, if_neg hgate]
  by_cases hholds : x.holds = true
  · rw [if_pos hholds, if_pos hholds]
    have hstands : (activeStands (setCounts w (min x.qualify (s.warn.qualify[w] + 1)) 0 s) w
        || decide (x.qualify ≤ min x.qualify (s.warn.qualify[w] + 1))) = true
        ↔ ActiveEntry w s ∨ x.qualify ≤ s.warn.qualify[w] + 1 := by
      rw [Bool.or_eq_true, activeStands_iff, decide_eq_true_eq, le_min_iff, and_iff_right le_rfl, setCounts_active]
    by_cases hraise : ActiveEntry w s ∨ x.qualify ≤ s.warn.qualify[w] + 1
    · rw [if_pos (hstands.2 hraise)]
      exact ⟨hq (min x.qualify (s.warn.qualify[w] + 1)) 0, hr (min x.qualify (s.warn.qualify[w] + 1)) 0,
        iff_of_true ((activeEntry_raise w w _ _ _).2 (.inl rfl)) hraise⟩
    · rw [if_neg (mt hstands.1 hraise)]
      exact ⟨hq _ 0, hr _ 0, iff_of_false (fun ha => hraise (.inl ha)) hraise⟩
  rw [if_neg hholds, if_neg hholds]
  by_cases hreleases : x.releases = true
  · rw [if_pos hreleases, if_pos hreleases]
    by_cases hdone : x.release ≤ min x.release (s.warn.release[w] + 1)
    · rw [if_pos hdone]
      refine ⟨hq 0 (min x.release (s.warn.release[w] + 1)), hr 0 (min x.release (s.warn.release[w] + 1)),
        iff_of_false (hgone 0 (min x.release (s.warn.release[w] + 1))) fun ha => ?_⟩
      have hle := (le_min_iff.1 hdone).2
      exact absurd ha.2 (Nat.not_lt.2 hle)
    · rw [if_neg hdone]
      rw [le_min_iff, and_iff_right le_rfl, Nat.not_le] at hdone
      exact ⟨hq 0 (min x.release (s.warn.release[w] + 1)), hr 0 (min x.release (s.warn.release[w] + 1)),
        (and_iff_left hdone).symm⟩
  rw [if_neg hreleases, if_neg hreleases]
  exact ⟨hq 0 0, hr 0 0, Iff.rfl⟩

end

/-! ### All the definitions -/

theorem foldl_sampledFrom (l : List (Fin 24)) (s : State) : SampledFrom s (l.foldl sampleOne s) := by
  induction l generalizing s with
  | nil => exact .rfl' s
  | cons v vs ih => exact (sampleOne_sampledFrom s v).trans (ih _)

theorem foldl_standing {w : Fin 24} {l : List (Fin 24)} (h : w ∉ l) {s : State} (hl : ListOrdered s.warn.list) :
    SameStanding w s (l.foldl sampleOne s) := by
  induction l generalizing s with
  | nil => exact .rfl' w s
  | cons v vs ih =>
    obtain ⟨hv, hvs⟩ := not_or.1 (mt List.mem_cons.2 h)
    exact (sampleOne_standing hl hv).trans (ih hvs ((sampleOne_sampledFrom s v).ordered hl))

/-- R103: every definition is sampled once in the state that the expiry found. -/
theorem foldl_sampled {w : Fin 24} {x : Sample} {s : State} (hl : ListOrdered s.warn.list) (hx : sample s w = some x) :
    Sampled w x s ((List.finRange 24).foldl sampleOne s) := by
  obtain ⟨before, after, hsplit⟩ := List.append_of_mem (List.mem_finRange w)
  have hnodup := List.nodup_finRange 24
  rw [hsplit] at hnodup
  have hbefore : w ∉ before := fun h => (List.disjoint_of_nodup_append hnodup) h (List.mem_cons_self)
  have hafter : w ∉ after := (List.nodup_cons.1 (List.nodup_append.1 hnodup).2.1).1
  rw [hsplit, List.foldl_append, List.foldl_cons]
  have hfrom := foldl_sampledFrom before s
  have hordered := hfrom.ordered hl
  have hself := sampleOne_sampled hordered ((hfrom.sample_eq w).trans hx)
  have hthere := foldl_standing hbefore hl
  refine hself.of_standing ⟨hthere.qualify.symm, hthere.release.symm, hthere.active.symm⟩ ?_
  exact foldl_standing hafter ((sampleOne_sampledFrom _ w).ordered hordered)

theorem foldl_unsampled {w : Fin 24} {l : List (Fin 24)} {s : State} (hl : ListOrdered s.warn.list) (hx : sample s w = none) :
    SameStanding w s (l.foldl sampleOne s) := by
  induction l generalizing s with
  | nil => exact .rfl' w s
  | cons v vs ih =>
    have hfrom := sampleOne_sampledFrom s v
    refine SameStanding.trans ?_ (ih (hfrom.ordered hl) ((hfrom.sample_eq w).trans hx))
    by_cases hv : w = v
    · subst hv
      unfold sampleOne
      rw [hx]
      exact .rfl' w s
    · exact sampleOne_standing hl hv

theorem settle_standing (w : Fin 24) (a s : State) : SameStanding w s (settle a s) :=
  ⟨by rw [settle_warn_qualify], by rw [settle_warn_release], activeEntry_of_shown (settle_shown a s) w⟩

/-- Settles O36. -/
theorem warningExpirySamples : Obligations.WarningExpirySamples := by
  intro s hclock hl
  have hexec : exec .warningExpiry s = .next (settle s (sampleAll { s with timers := { s.timers with warning := quarterSecond } })) :=
    if_pos hclock
  refine ⟨_, hexec, ?_⟩
  have hfrom := foldl_sampledFrom (List.finRange 24) (stepCounters { s with timers := { s.timers with warning := quarterSecond } })
  have hsampled (w : Fin 24) (x : Sample) (hx : sample (stepCounters s) w = some x) :=
    foldl_sampled (s := stepCounters { s with timers := { s.timers with warning := quarterSecond } }) hl hx
  have hother (w : Fin 24) (hx : sample (stepCounters s) w = none) := foldl_unsampled (l := List.finRange 24)
    (s := stepCounters { s with timers := { s.timers with warning := quarterSecond } }) hl hx
  unfold sampleAll
  generalize (List.finRange 24).foldl sampleOne (stepCounters { s with timers := { s.timers with warning := quarterSecond } }) = u
    at hfrom hsampled hother ⊢
  have hsettled (w : Fin 24) := settle_standing w s u
  have hsame := hfrom.same
  refine ⟨?_, ?_, fun w hw => ?_, fun w x hx => ?_, ?_, ?_, ?_, ?_, ?_, ?_, ?_, ?_, ?_⟩
  · rw [settle_warn_engineRun, hsame]
    rfl
  · rw [settle_warn_runCount, hsame]
    rfl
  · obtain ⟨hq, hr, ha⟩ := (hother w hw).trans (hsettled w)
    exact ⟨hq, hr, ha⟩
  · exact (hsampled w x hx).of_standing ⟨rfl, rfl, Iff.rfl⟩ (hsettled w)
  · rw [settle_timers, hsame]
    rfl
  · rw [settle_meas, hsame]
    rfl
  · rw [settle_fold, hsame]
    rfl
  · rw [hsame]
    exact settle_sameRecords _ _
  · rw [settle_settings, hsame]
    rfl
  · rw [settle_units, hsame]
    rfl
  · rw [settle_service, hsame]
    rfl
  · rw [settle_clock, hsame]
    rfl
  · rw [settle_warn_limit, hsame]
    rfl

/-! ### ACK WARNING (R109, R110) -/

/-- A command of a free port that is answered at once, and whose event is settled, has answered and shows what its owner leaves. -/
theorem settle_answered {p : Port} {f : State → Answer} {s t : State} {r : Reply} (h : PortFree p s) (hf : f s = (t, r))
    (hport : t.port.service.output = s.port.service.output) :
    Answered p r s (settle s (answerAtOnce p f s)) ∧ SameShown t (settle s (answerAtOnce p f s)) := by
  rw [answerAtOnce_free p f s h, hf]
  exact ⟨answered_settled s hport, (settle_shown s _).trans (deliver_shown p r t)⟩

/-- A settled command changes no figure where its owner changed the warning unit, the speakers or the lamp tests at most. -/
theorem settle_answered_figures {p : Port} {f : State → Answer} {s t : State} {r : Reply} (h : PortFree p s) (hf : f s = (t, r))
    (hfigures : SameFigures s t) : SameFigures s (settle s (answerAtOnce p f s)) := by
  rw [answerAtOnce_free p f s h, hf]
  obtain ⟨hmeas, hfold, hrecords, hsettings, hunits, hservice, hclock, htimers⟩ := hfigures
  refine ⟨by simpa using hmeas, by simpa using hfold, by simpa [SameRecords] using hrecords, by simpa using hsettings,
    by simpa using hunits, by simpa using hservice, by simpa using hclock, by simpa using htimers⟩

theorem sameFigures_rfl (s : State) : SameFigures s s := by simp [SameFigures, SameRecords]

theorem withList_figures (l : List Entry) (s : State) : SameFigures s (s.withList l) := by simp [SameFigures, SameRecords]

theorem ackEntry_warnOnly (p : Port) (e : Entry) (s : State) :
    ∃ l, (ackEntry p e s).1 = s.withList l := by
  unfold ackEntry
  split_ifs
  · exact ⟨_, rfl⟩
  · exact ⟨_, rfl⟩
  · dsimp only
    split_ifs
    · exact ⟨_, rfl⟩
    · exact ⟨_, rfl⟩

/-- R110: ACK WARNING changes the list at most. -/
theorem ackWarning_warnOnly (p : Port) (id : Byte) (s : State) : ∃ l, (ackWarning p id s).1 = s.withList l := by
  unfold ackWarning
  split_ifs
  · exact ⟨_, rfl⟩
  · exact ⟨_, rfl⟩
  · dsimp only
    rcases findEntry _ s.warn.list with _ | e
    · exact ⟨_, rfl⟩
    · exact ackEntry_warnOnly p e s
  · exact ⟨_, rfl⟩

/-- R110: the ack of a port, without what it does to the chime states. -/
def ackedEntry (p : Port) (e : Entry) : Entry :=
  if p = .front then { e with ackFront := true } else { e with ackRear := true }

/-- R109: the port may hold an ack of the definition. -/
def mayHold (p : Port) (w : Fin 24) : Prop :=
  (p = .front ∧ ((warnDef w).ack = .front ∨ (warnDef w).ack = .either))
    ∨ (p = .rear ∧ ((warnDef w).ack = .rear ∨ (warnDef w).ack = .either))

theorem mayAck_iff (p : Port) (w : Fin 24) : mayAck p w = true ↔ mayHold p w := by
  unfold mayAck mayHold
  cases p <;> cases (warnDef w).ack <;> simp

theorem acked_eq {p : Port} (h : p ≠ .service) (e : Entry) : e.acked p = if p = .front then e.ackFront else e.ackRear := by
  cases p
  · rfl
  · rfl
  · exact absurd rfl h

theorem viewEntry_withAck {p : Port} (h : p ≠ .service) (e : Entry) :
    viewEntry .service (e.withAck p) = viewEntry .service (ackedEntry p e) := by
  unfold Entry.withAck
  dsimp only
  cases p
  · split_ifs <;> rfl
  · split_ifs <;> rfl
  · exact absurd rfl h

theorem viewEntry_acked (p : Port) (e : Entry) :
    viewEntry .service (ackedEntry p e) = ackedEntry p (viewEntry .service e) := by
  unfold ackedEntry
  split_ifs <;> rfl

theorem withAck_w (p : Port) (e : Entry) : (e.withAck p).w = e.w ∧ (e.withAck p).cleared = e.cleared := by
  unfold Entry.withAck
  dsimp only
  cases p
  · split_ifs <;> exact ⟨rfl, rfl⟩
  · split_ifs <;> exact ⟨rfl, rfl⟩
  · split_ifs <;> exact ⟨rfl, rfl⟩

/-- R109: an ack that a port may hold makes the entry fully acknowledged. -/
theorem fullyAcked_withAck {p : Port} {e : Entry} (h : mayHold p e.w) : fullyAcked (e.withAck p) = true := by
  have hp : p ≠ .service := by
    rintro rfl
    rcases h with ⟨h, -⟩ | ⟨h, -⟩ <;> cases h
  have hsame : fullyAcked (e.withAck p) = fullyAcked (ackedEntry p e) :=
    congrArg fullyAcked (a₁ := viewEntry .service _) (a₂ := viewEntry .service _) (viewEntry_withAck hp e)
  rw [hsame]
  rcases h with ⟨rfl, h | h⟩ | ⟨rfl, h | h⟩
  · show (match (warnDef e.w).ack with
      | .front => true | .rear => e.ackRear | .either => true || e.ackRear | .none => false) = true
    rw [h]
  · show (match (warnDef e.w).ack with
      | .front => true | .rear => e.ackRear | .either => true || e.ackRear | .none => false) = true
    rw [h]
    rfl
  · show (match (warnDef e.w).ack with
      | .front => e.ackFront | .rear => true | .either => e.ackFront || true | .none => false) = true
    rw [h]
  · show (match (warnDef e.w).ack with
      | .front => e.ackFront | .rear => true | .either => e.ackFront || true | .none => false) = true
    rw [h, Bool.or_true]

/-- R110: an ack that a port may hold removes the entry when it is CLEARED or momentary. -/
theorem removedByAck_iff {p : Port} {e : Entry} (h : mayHold p e.w) :
    removedByAck (e.withAck p) = true ↔ e.cleared = true ∨ e.w = 19 ∨ e.w = 20 := by
  rw [removedByAck, fullyAcked_withAck h, (withAck_w p e).1, (withAck_w p e).2]
  simp [momentary]

/-- R113: a removal from the list is one from its view. -/
theorem view_dropEntry (w : Fin 24) (l : List Entry) :
    view .service (dropEntry w l) = (view .service l).filter (fun x => x.w != w) := by
  rw [view_service, view_service, List.filter_map]
  rfl

theorem view_mapEntry_withAck {p : Port} (hp : p ≠ .service) (w : Fin 24) (l : List Entry) :
    view .service (mapEntry w (fun x => x.withAck p) l)
      = (view .service l).map (fun x => if x.w = w then ackedEntry p x else x) := by
  rw [view_service, view_service, mapEntry, List.map_map, List.map_map]
  refine List.map_congr_left fun e _ => ?_
  show viewEntry .service (if e.w = w then e.withAck p else e) = if e.w = w then ackedEntry p (viewEntry .service e) else _
  split_ifs
  · rw [viewEntry_withAck hp, viewEntry_acked]
  · rfl

theorem deniedEntry_content (p : Port) (w : Fin 24) (s : State) : ∃ content, deniedEntry p w s = ⟨.denied, content⟩ := by
  unfold deniedEntry
  rcases findEntry w (viewList p s.warn.list) with _ | e
  · exact ⟨_, rfl⟩
  · exact ⟨_, rfl⟩

section
variable {p : Port} {w : Fin 24} {id : Byte} {s : State} (hid : id.toNat = w.val)
include hid

theorem ackWarning_service (hp : p = .service) : ackWarning p id s = (s, deniedEntry p w s) := by
  have hlt : id.toNat < 24 := hid ▸ w.isLt
  rw [ackWarning, dif_pos hlt, if_pos hp]
  simp only [hid, Fin.eta]

theorem ackWarning_fault (hp : p ≠ .service) (hclock : s.clock.mainFault = true) :
    ackWarning p id s = (s, .bare .clockFault) := by
  have hlt : id.toNat < 24 := hid ▸ w.isLt
  rw [ackWarning, dif_pos hlt, if_neg hp, if_pos hclock]

theorem ackWarning_found (hp : p ≠ .service) (hclock : s.clock.mainFault = false) {e : Entry}
    (he : findEntry w s.warn.list = some e) : ackWarning p id s = ackEntry p e s := by
  have hlt : id.toNat < 24 := hid ▸ w.isLt
  rw [ackWarning, dif_pos hlt, if_neg hp, if_neg (by simp [hclock])]
  simp only [hid, Fin.eta, he]

theorem ackWarning_absent (hp : p ≠ .service) (hclock : s.clock.mainFault = false)
    (he : findEntry w s.warn.list = none) : ackWarning p id s = (s, .bare .notActive) := by
  have hlt : id.toNat < 24 := hid ▸ w.isLt
  rw [ackWarning, dif_pos hlt, if_neg hp, if_neg (by simp [hclock])]
  simp only [hid, Fin.eta, he]

end

/-- Settles O37. -/
theorem ackWarningSetsTheAck : Obligations.AckWarningSetsTheAck := by
  intro p id s hfree hl
  obtain ⟨l, hwarn⟩ := ackWarning_warnOnly p id s
  refine ⟨settle s (serveAckWarning p id s), rfl, settle_answered_figures hfree (Prod.ext hwarn rfl) (withList_figures l s),
    fun hbig => ?big, fun w hid hp => ?service, fun w hid hp hclock => ?fault,
    fun w hid hp hclock => ⟨fun he => ?absent, fun e he => ?found⟩⟩
  case big =>
    obtain ⟨hanswered, hshown⟩ := settle_answered (f := ackWarning p id) hfree (dif_neg (by omega)) rfl
    exact ⟨hanswered, hshown⟩
  case service =>
    obtain ⟨content, hcontent⟩ := deniedEntry_content p w s
    obtain ⟨hanswered, hshown⟩ := settle_answered hfree (ackWarning_service hid hp) rfl
    exact ⟨hshown, content, hcontent ▸ hanswered⟩
  case fault =>
    obtain ⟨hanswered, hshown⟩ := settle_answered hfree (ackWarning_fault hid hp hclock) rfl
    exact ⟨hshown, hanswered⟩
  case absent =>
    obtain ⟨hanswered, hshown⟩ := settle_answered hfree (ackWarning_absent hid hp hclock he) rfl
    exact ⟨hshown, hanswered⟩
  case found =>
    obtain ⟨-, hw⟩ := findEntry_some he
    have hacked := acked_eq hp e
    have hack := ackWarning_found hid hp hclock he
    have hfield : entryField p (e.withAck p) = entryField p (ackedEntry p e) := entryField_of_view (viewEntry_withAck hp e) p
    refine ⟨fun hmay => ?_, fun hmay hset => ?_, fun hmay hset hgoes => ?_, fun hmay hset hstays => ?_⟩
    · have hnot : mayAck p e.w = false := Bool.eq_false_iff.2 fun h => hmay (hw ▸ (mayAck_iff p e.w).1 h)
      obtain ⟨content, hcontent⟩ := deniedEntry_content p e.w s
      obtain ⟨hanswered, hshown⟩ := settle_answered hfree (hack.trans (if_pos hnot)) rfl
      exact ⟨hshown, content, hcontent ▸ hanswered⟩
    all_goals
      have hmay' : mayHold p e.w := hw ▸ hmay
      have hyes : ¬ mayAck p e.w = false := by simp [(mayAck_iff p e.w).2 hmay']
    · obtain ⟨hanswered, hshown⟩ := settle_answered hfree
        (hack.trans ((if_neg hyes).trans (if_pos (hacked.trans hset)))) rfl
      exact ⟨hshown, hanswered⟩
    · have hremoved := (removedByAck_iff hmay').2 (hw ▸ hgoes)
      have hnew : ¬ e.acked p = true := by rw [hacked, hset]; exact Bool.false_ne_true
      obtain ⟨hanswered, hshown⟩ := settle_answered hfree
        (hack.trans ((if_neg hyes).trans ((if_neg hnew).trans (if_pos hremoved)))) rfl
      refine ⟨hshown.trans ?_, ?_⟩
      · rw [← hw]
        exact view_dropEntry _ _
      · rw [entryReply, hfield] at hanswered
        exact hanswered
    · have hkept : ¬ removedByAck (e.withAck p) = true := fun h => hstays (hw ▸ (removedByAck_iff hmay').1 h)
      have hnew : ¬ e.acked p = true := by rw [hacked, hset]; exact Bool.false_ne_true
      obtain ⟨hanswered, hshown⟩ := settle_answered hfree
        (hack.trans ((if_neg hyes).trans ((if_neg hnew).trans (if_neg hkept)))) rfl
      refine ⟨hshown.trans ?_, ?_⟩
      · rw [← hw]
        exact view_mapEntry_withAck hp _ _
      · rw [entryReply, hfield] at hanswered
        exact hanswered

/-! ### REAR CALL and SET OVERSPEED (R112, R117) -/

/-- R107: an inserted entry is found where its definition had none. -/
theorem findEntry_insert {w : Fin 24} {e : Entry} {l : List Entry} (he : e.w = w) (h : ∀ x ∈ l, x.w ≠ w) :
    findEntry w (insertEntry e l) = some e := by
  subst he
  induction l with
  | nil => exact List.find?_cons_of_pos (beq_self_eq_true _)
  | cons x xs ih =>
    obtain ⟨hx, hxs⟩ := List.forall_mem_cons.1 h
    unfold insertEntry
    split_ifs
    · exact (List.find?_cons_of_neg (by simpa using hx)).trans (ih hxs)
    · exact List.find?_cons_of_pos (beq_self_eq_true _)

theorem findEntry_mapEntry (w : Fin 24) {f : Entry → Entry} (hf : ∀ e, (f e).w = e.w) (l : List Entry) :
    findEntry w (mapEntry w f l) = (findEntry w l).map f := by
  have hsame : (fun e => e.w == w) ∘ (fun e : Entry => if e.w = w then f e else e) = fun e => e.w == w := by
    funext e
    show ((if e.w = w then f e else e).w == w) = (e.w == w)
    split_ifs
    · rw [hf]
    · rfl
  rw [findEntry, mapEntry, List.find?_map, hsame]
  rcases hfound : l.find? (fun e => e.w == w) with _ | e
  · rw [findEntry, hfound]
    rfl
  · have hw : e.w = w := (findEntry_some hfound).2
    rw [findEntry, hfound, Option.map_some, Option.map_some, if_pos hw]

/-- R107: a raise leaves the entry of its definition ACTIVE, and new where none stood ACTIVE. -/
theorem findEntry_raise (w : Fin 24) (s : State) (d : BitVec 8) : ∃ e, findEntry w (raise w false d s).warn.list = some e
    ∧ e.cleared = false
    ∧ ((∀ o, findEntry w s.warn.list = some o → o.cleared = true) → e = freshEntry w s.clock.seconds d)
    ∧ ∀ o, findEntry w s.warn.list = some o → o.cleared = false → e = o.updateDetail false d := by
  rw [raise_list]
  unfold raiseList
  rcases hfound : findEntry w s.warn.list with _ | o
  · refine ⟨freshEntry w s.clock.seconds d, findEntry_insert rfl (findEntry_none.1 hfound), rfl, fun _ => rfl, fun o ho => ?_⟩
    cases ho
  · dsimp only
    by_cases hc : o.cleared = true
    · rw [if_pos hc]
      refine ⟨freshEntry w s.clock.seconds d, findEntry_insert rfl fun x hx => (mem_dropEntry.1 hx).2, rfl, fun _ => rfl,
        fun o' ho hc' => ?_⟩
      rw [Option.some.injEq] at ho
      rw [← ho, hc] at hc'
      cases hc'
    · rw [if_neg hc]
      refine ⟨o.updateDetail false d, ?_, Bool.eq_false_iff.2 hc, fun h => absurd (h o rfl) hc, fun o' ho _ => ?_⟩
      · rw [findEntry_mapEntry w (f := fun x => x.updateDetail false d) (fun _ => rfl), hfound]
        rfl
      · rw [Option.some.inj ho]

theorem rearCall_warnOnly (p : Port) (s : State) : ∃ l, (rearCall p s).1 = s.withList l := by
  unfold rearCall
  split_ifs
  · exact ⟨_, rfl⟩
  · exact ⟨_, rfl⟩
  · dsimp only
    rcases findEntry 19 (raise 19 false 0 s).warn.list with _ | e
    · exact ⟨_, rfl⟩
    · exact ⟨_, rfl⟩

theorem setOverspeed_figures (p : Port) (limit : BitVec 16) (s : State) : SameFigures s (setOverspeed p limit s).1 := by
  unfold setOverspeed
  split_ifs
  · exact sameFigures_rfl s
  · exact sameFigures_rfl s
  · simp [storeLimit, SameFigures, SameRecords]

/-- R117: of the warning unit, settling an answered command leaves the limit as its owner left it. -/
theorem settle_answered_limit {p : Port} {f : State → Answer} {s t : State} {r : Reply} (h : PortFree p s) (hf : f s = (t, r)) :
    (settle s (answerAtOnce p f s)).warn.limit = t.warn.limit
      ∧ (settle s (answerAtOnce p f s)).warn.limitCheck = t.warn.limitCheck := by
  rw [answerAtOnce_free p f s h, hf]
  simp

theorem shown_fields {x e : Entry} (h : viewEntry .service x = viewEntry .service e) :
    x.cleared = e.cleared ∧ x.ackFront = e.ackFront ∧ x.ackRear = e.ackRear ∧ x.stamp = e.stamp := by
  obtain ⟨-, hcleared, hfront, hrear, -, -, hstamp, -⟩ := Entry.mk.inj h
  exact ⟨hcleared, hfront, hrear, hstamp⟩

theorem setOverspeed_shown (p : Port) (limit : BitVec 16) (s : State) : SameShown s (setOverspeed p limit s).1
    ∧ (setOverspeed p limit s).1.port = s.port := by
  unfold setOverspeed
  split_ifs
  · exact ⟨rfl, rfl⟩
  · exact ⟨rfl, rfl⟩
  · exact ⟨rfl, rfl⟩

/-- Settles O38. -/
theorem rearCallAndOverspeed : Obligations.RearCallAndOverspeed := by
  intro p limit s hfree
  obtain ⟨l, hwarn⟩ := rearCall_warnOnly p s
  refine ⟨⟨settle s (serveRearCall p s), rfl, settle_answered_figures hfree (Prod.ext hwarn rfl) (withList_figures l s), ?_,
      fun hp => ?callDenied, fun hp hclock => ?callFault, fun hp hclock => ?called⟩,
    ⟨settle s (serveSetOverspeed p limit s), rfl,
      settle_answered_figures hfree rfl (setOverspeed_figures p limit s), ?_,
      fun hp => ?setDenied, fun hp hclock => ?setFault, fun hp hclock => ?set⟩⟩
  · exact (settle_answered_limit hfree (Prod.ext hwarn rfl)).1
  case callDenied => exact settle_answered hfree (if_pos hp) rfl
  case callFault =>
    exact settle_answered (f := rearCall p) hfree ((if_neg (not_not.2 hp)).trans (if_pos hclock)) rfl
  case called =>
    obtain ⟨e, he, hactive, hfresh, hstood⟩ := findEntry_raise 19 s 0
    have hcall : rearCall p s = (raise 19 false 0 s, entryReply .ok p false e) := by
      rw [rearCall, if_neg (not_not.2 hp), if_neg (by simp [hclock])]
      simp only [he]
    obtain ⟨hanswered, hshown⟩ := settle_answered hfree hcall rfl
    obtain ⟨x, hx, hview⟩ := findEntry_of_view hshown he
    obtain ⟨hcleared, hfront, hrear, hstamp⟩ := shown_fields hview
    refine ⟨x, hx, hcleared.trans hactive, ?_, fun hnone => ?_, fun o ho hc => ?_⟩
    · rw [entryField_of_view hview]
      exact hanswered
    · rw [hstamp, hfront, hrear, hfresh hnone]
      exact ⟨rfl, rfl, rfl⟩
    · rw [hstamp, hfront, hstood o ho hc]
      exact ⟨rfl, rfl⟩
  · obtain ⟨hshown, hport⟩ := setOverspeed_shown p limit s
    rcases hf : setOverspeed p limit s with ⟨t, r⟩
    rw [hf] at hshown hport
    exact (settle_answered hfree hf (congrArg (fun x : PortBlock => x.service.output) hport)).2.trans hshown
  case setDenied =>
    have hf : setOverspeed p limit s = (s, .bare .denied) := if_pos hp
    exact ⟨(settle_answered hfree hf rfl).1, (settle_answered_limit hfree hf).1⟩
  case setFault =>
    have hf : setOverspeed p limit s = (s, .bare .clockFault) := (if_neg (not_not.2 hp)).trans (if_pos hclock)
    exact ⟨(settle_answered hfree hf rfl).1, (settle_answered_limit hfree hf).1⟩
  case set =>
    have hf : setOverspeed p limit s = (storeLimit (min 2550 limit.toNat) s, ⟨.ok, enc 2 (min 2550 limit.toNat)⟩) :=
      (if_neg (not_not.2 hp)).trans (if_neg (by simp [hclock]))
    obtain ⟨hlimit, hcheck⟩ := settle_answered_limit hfree hf
    exact ⟨hlimit, hcheck, (settle_answered hfree hf rfl).1⟩

end Sys2Proof.Proofs.Warnings

/-! PROOFS. The speaker queues: what the choices and the settling leave of them, and the commands PLAY CHIME, CANCEL CHIMES,
REAR QUIET and WARNING TEST (chapter 7). -/

namespace Sys2Proof.Proofs.Chimes

open Sys2Proof Sys2Proof.Machine Sys2Proof.Proofs.Basics Sys2Proof.Proofs.Grants Sys2Proof.Proofs.Views
open Sys2Proof.Proofs.Reads Sys2Proof.Proofs.Warnings

/-! ### What a choice leaves -/

/-- The queues hold the same entries but for their PLAYING marks, and quiet stands as it stood. -/
structure SameQueues (s t : State) : Prop where
  keys  : ∀ sp, queueKeys t sp = queueKeys s sp
  quiet : t.chime.quiet = s.chime.quiet

theorem SameQueues.rfl' (s : State) : SameQueues s s := ⟨fun _ => rfl, rfl⟩

theorem SameQueues.of_chime {s t : State} (h : t.chime = s.chime) : SameQueues s t :=
  ⟨fun sp => by simp only [queueKeys, h], by rw [h]⟩

theorem SameQueues.trans {s t u : State} (h : SameQueues s t) (k : SameQueues t u) : SameQueues s u :=
  ⟨fun sp => (k.keys sp).trans (h.keys sp), k.quiet.trans h.quiet⟩

theorem SameQueues.ite {b : Prop} [Decidable b] {s t u : State} (h : SameQueues s t) (k : SameQueues s u) :
    SameQueues s (if b then t else u) := by
  split_ifs
  · exact h
  · exact k

theorem queueKeys_withPlay (sp o : Speaker) (q : Option Play) (s : State) : queueKeys (s.withPlay sp q) o = queueKeys s o := by
  rw [queueKeys, withPlay_queue]
  rfl

theorem queueKeys_withQueue (sp o : Speaker) (q : List QueueEntry) (s : State) :
    queueKeys (s.withQueue sp q) o = if o = sp then q.map QueueEntry.key else queueKeys s o := by
  rw [queueKeys, withQueue_queue, apply_ite (List.map QueueEntry.key)]
  rfl

theorem withPlay_sameQueues (sp : Speaker) (q : Option Play) (s : State) : SameQueues s (s.withPlay sp q) :=
  ⟨fun o => queueKeys_withPlay sp o q s, by cases sp <;> rfl⟩

/-- A queue with other PLAYING marks holds the same entries. -/
theorem withQueue_sameQueues {sp : Speaker} {q : List QueueEntry} {s : State}
    (h : q.map QueueEntry.key = queueKeys s sp) : SameQueues s (s.withQueue sp q) := by
  refine ⟨fun o => ?_, by cases sp <;> rfl⟩
  rw [queueKeys_withQueue]
  split_ifs with ho
  · rw [h, ho]
  · rfl

/-- A change of one entry's PLAYING mark leaves the keys. -/
theorem map_key_modify (q : List QueueEntry) (i : Nat) (b : Bool) :
    (q.modify i fun e => { e with playing := b }).map QueueEntry.key = q.map QueueEntry.key := by
  induction q generalizing i with
  | nil => rw [List.modify_nil]
  | cons x xs ih =>
    rcases i with _ | i
    · rfl
    · rw [List.modify_succ_cons, List.map_cons, List.map_cons, ih]

theorem takeCandidate_sameQueues (sp : Speaker) (c : Candidate) (s : State) : SameQueues s (takeCandidate sp c s) := by
  cases c with
  | warning w cls n => exact (SameQueues.of_chime (s := s) (by simp [setChime])).trans (withPlay_sameQueues _ _ _)
  | queue i cls n => exact (withQueue_sameQueues (map_key_modify _ i true)).trans (withPlay_sameQueues _ _ _)

theorem choose_sameQueues (sp : Speaker) (s : State) : SameQueues s (choose sp s) := by
  unfold choose
  split
  · exact withPlay_sameQueues _ _ _
  · exact takeCandidate_sameQueues _ _ _

theorem chooseIfIdle_sameQueues (sp : Speaker) (s : State) : SameQueues s (chooseIfIdle sp s) := by
  unfold chooseIfIdle
  split
  · exact choose_sameQueues sp s
  · exact .rfl' s

theorem chooseBoth_sameQueues (s : State) : SameQueues s (chooseBoth s) :=
  (chooseIfIdle_sameQueues .front s).trans (chooseIfIdle_sameQueues .rear _)

theorem settleQuiet_sameQueues (s : State) : SameQueues s (settleQuiet s) := .of_chime (settleQuiet_chime s)

theorem settleChimes_sameQueues (s : State) : SameQueues s (settleChimes s) := by
  unfold settleChimes
  exact .ite ((settleQuiet_sameQueues s).trans (chooseBoth_sameQueues _)) (settleQuiet_sameQueues s)

theorem settle_chime_eq (a s : State) : (settle a s).chime = (settleChimes s).chime := by simp [settle, settleFrom]

/-- Settling leaves the queues but for their PLAYING marks. -/
theorem settle_sameQueues (a s : State) : SameQueues s (settle a s) :=
  (settleChimes_sameQueues s).trans (.of_chime (settle_chime_eq a s))

/-- A settled command leaves the queues as its owner leaves them. -/
theorem settle_answered_queues {p : Port} {f : State → Answer} {s t : State} {r : Reply} (h : PortFree p s) (hf : f s = (t, r)) :
    SameQueues t (settle s (answerAtOnce p f s)) := by
  rw [answerAtOnce_free p f s h, hf]
  exact (SameQueues.of_chime (deliver_chime p r t)).trans (settle_sameQueues s _)

/-! ### Queueing a pattern (R126, R127) -/

/-- R126: an entry goes after the entries of its class and above. -/
theorem insertQueue_keys (e : QueueEntry) (q : List QueueEntry) : (insertQueue e q).map QueueEntry.key =
    (q.map QueueEntry.key).takeWhile (fun x => decide (e.cls ≤ x.2.1)) ++ [e.key]
      ++ (q.map QueueEntry.key).dropWhile (fun x => decide (e.cls ≤ x.2.1)) := by
  induction q with
  | nil => rfl
  | cons x xs ih =>
    unfold insertQueue
    by_cases hx : e.cls ≤ x.cls
    · have hkey : decide (e.cls ≤ x.key.2.1) = true := decide_eq_true hx
      simp only [if_pos hx, List.map_cons, List.takeWhile_cons, List.dropWhile_cons, hkey, ih]
      rfl
    · have hkey : decide (e.cls ≤ x.key.2.1) = false := decide_eq_false hx
      simp only [if_neg hx, List.map_cons, List.takeWhile_cons, List.dropWhile_cons, hkey]
      rfl

/-- R126: the entry has its place in a queue. -/
def Added (e : QueueEntry) (sp : Speaker) (s t : State) : Prop := queueKeys t sp =
  (queueKeys s sp).takeWhile (fun x => decide (e.cls ≤ x.2.1)) ++ [e.key]
    ++ (queueKeys s sp).dropWhile (fun x => decide (e.cls ≤ x.2.1))

/-- A speaker takes an entry when it is named and quiet does not stand on it. -/
theorem shareOf_queued (s : State) (named : Bool) (sp : Speaker) :
    shareOf s named sp = .queued ↔ named = true ∧ quietOn s sp = false := by
  unfold shareOf
  split_ifs <;> simp_all

theorem quietOn_front (s : State) : quietOn s .front = false := rfl

theorem quietOn_rear (s : State) : quietOn s .rear = false ↔ s.chime.quiet = .off := by
  simp [quietOn]

theorem queueShare_keys (sh : Share) (sp o : Speaker) (e : QueueEntry) (s : State) :
    (sh = .queued → o = sp → Added e o s (queueShare sh sp e s))
      ∧ (¬ (sh = .queued ∧ o = sp) → queueKeys (queueShare sh sp e s) o = queueKeys s o) := by
  refine ⟨?_, fun h => ?_⟩
  · rintro rfl rfl
    rw [Added, queueShare, queueKeys_withQueue, if_pos rfl, insertQueue_keys]
    rfl
  · cases sh with
    | queued => exact (queueKeys_withQueue sp o _ s).trans (if_neg fun ho => h ⟨rfl, ho⟩)
    | dropped => rfl
    | notNamed => rfl

theorem shareFull_iff (s : State) (sh : Share) (sp : Speaker) :
    shareFull s sh sp = true ↔ sh = .queued ∧ 4 ≤ (s.chime.speaker sp).queue.length := by
  simp [shareFull]

theorem queueShare_quiet (sh : Share) (sp : Speaker) (e : QueueEntry) (s : State) :
    (queueShare sh sp e s).chime.quiet = s.chime.quiet := by
  cases sh <;> cases sp <;> rfl

/-- R127: what the queueing of a pattern leaves of the queues. -/
structure Queued (e : QueueEntry) (onFront onRear : Bool) (s t : State) : Prop where
  front     : onFront = true → Added e .front s t
  notFront  : onFront = false → queueKeys t .front = queueKeys s .front
  rear      : onRear = true ∧ s.chime.quiet = .off → Added e .rear s t
  notRear   : ¬ (onRear = true ∧ s.chime.quiet = .off) → queueKeys t .rear = queueKeys s .rear

/-- R127: a speaker that is to take the entry holds four. -/
abbrev QueueFull (onFront onRear : Bool) (s : State) : Prop :=
  (onFront = true ∧ 4 ≤ s.chime.front.queue.length) ∨ (onRear = true ∧ s.chime.quiet = .off ∧ 4 ≤ s.chime.rear.queue.length)

theorem queueFull_iff (s : State) (onFront onRear : Bool) :
    (shareFull s (shareOf s onFront .front) .front || shareFull s (shareOf s onRear .rear) .rear) = true
      ↔ QueueFull onFront onRear s := by
  rw [Bool.or_eq_true, shareFull_iff, shareFull_iff, shareOf_queued, shareOf_queued, quietOn_rear, and_assoc, and_assoc]
  simp only [quietOn_front, true_and]
  rfl

/-- R127: a pattern that its speakers can take is queued on them. -/
theorem queuePattern_queued {e : QueueEntry} {onFront onRear : Bool} {s : State} (h : ¬ QueueFull onFront onRear s) :
    ∃ t, queuePattern e onFront onRear s
        = (t, sharesReply (shareOf s onFront .front) (shareOf s onRear .rear) t)
      ∧ Queued e onFront onRear s t ∧ ∃ c, t = { s with chime := c } := by
  have hfit := mt (queueFull_iff s onFront onRear).1 h
  refine ⟨_, if_neg hfit, ?_, ?_⟩
  · have hfront := queueShare_keys (shareOf s onFront .front) .front .front e s
    have hpast := (queueShare_keys (shareOf s onFront .front) .front .rear e s).2 (fun hs => by cases hs.2)
    generalize queueShare (shareOf s onFront .front) .front e s = u at hfront hpast ⊢
    have hrear := queueShare_keys (shareOf s onRear .rear) .rear .rear e u
    have hback := (queueShare_keys (shareOf s onRear .rear) .rear .front e u).2 (fun hs => by cases hs.2)
    simp only [shareOf_queued, quietOn_rear, quietOn_front, and_true, forall_const] at hfront hrear
    refine ⟨fun hon => ?_, fun hoff => ?_, fun hon => ?_, fun hoff => ?_⟩
    · rw [Added, hback]
      exact hfront.1 hon
    · rw [hback]
      exact hfront.2 (by simp [hoff])
    · have hadded := hrear.1 hon
      rwa [Added, hpast] at hadded
    · rw [hrear.2 hoff, hpast]
  · cases shareOf s onFront .front <;> cases shareOf s onRear .rear <;> exact ⟨_, rfl⟩

theorem queuePattern_full {e : QueueEntry} {onFront onRear : Bool} {s : State} (h : QueueFull onFront onRear s) :
    queuePattern e onFront onRear s = (s, .bare .full) := if_pos ((queueFull_iff s onFront onRear).2 h)

theorem Queued.settled {e : QueueEntry} {onFront onRear : Bool} {s t u : State} (h : Queued e onFront onRear s t)
    (hu : SameQueues t u) : Queued e onFront onRear s u :=
  ⟨fun hon => (hu.keys .front).trans (h.front hon), fun hoff => (hu.keys .front).trans (h.notFront hoff),
    fun hon => (hu.keys .rear).trans (h.rear hon), fun hoff => (hu.keys .rear).trans (h.notRear hoff)⟩

/-! ### PLAY CHIME and CANCEL CHIMES (R127, R128) -/

theorem chime_figures (c : ChimeUnit) (s : State) : SameFigures s { s with chime := c } := sameFigures_rfl s

theorem queueKeys_length (s : State) (sp : Speaker) : (queueKeys s sp).length = (s.chime.speaker sp).queue.length :=
  List.length_map _

/-- A refused command has kept the queues. -/
theorem refused_queues {p : Port} {f : State → Answer} {s : State} {st : Status} (h : PortFree p s) (hf : f s = (s, .bare st)) :
    Answered p ⟨st, []⟩ s (settle s (answerAtOnce p f s))
      ∧ queueKeys (settle s (answerAtOnce p f s)) .front = queueKeys s .front
      ∧ queueKeys (settle s (answerAtOnce p f s)) .rear = queueKeys s .rear :=
  have hqueues := settle_answered_queues h hf
  ⟨(settle_answered h hf rfl).1, hqueues.keys .front, hqueues.keys .rear⟩

/-- R127: the reply of a PLAY CHIME. -/
theorem sharesReply_eq (s t u : State) (onFront onRear : Bool) (hu : SameQueues t u) :
    sharesReply (shareOf s onFront .front) (shareOf s onRear .rear) t =
      ⟨.ok, enc 1 (if onFront then 0 else 2) ++ enc 1 (queueKeys u .front).length
        ++ enc 1 (if onRear then (if s.chime.quiet = .off then 0 else 1) else 2) ++ enc 1 (queueKeys u .rear).length⟩ := by
  have hfront : (shareOf s onFront .front).toNat = if onFront then 0 else 2 := by
    cases onFront <;> rfl
  have hrear : (shareOf s onRear .rear).toNat = if onRear then (if s.chime.quiet = .off then 0 else 1) else 2 := by
    cases onRear
    · rfl
    · simp only [shareOf, ← quietOn_rear]
      cases quietOn s .rear <;> rfl
  rw [sharesReply, hfront, hrear, hu.keys .front, hu.keys .rear, queueKeys_length, queueKeys_length]
  rfl

theorem playChime_good {p : Port} {pattern speakers cls : Byte} {s : State} {n : Fin 8}
    (hgood : pattern.toNat < 8 ∧ 1 ≤ speakers.toNat ∧ speakers.toNat ≤ 3) (hn : pattern.toNat = n.val)
    (hclock : s.clock.mainFault = false) : playChime p pattern speakers cls s =
      queuePattern ⟨n, min 3 cls.toNat, p, false⟩ (speakers.getLsbD 0) (speakers.getLsbD 1) s := by
  rw [playChime, dif_pos hgood, if_neg (by simp [hclock])]
  simp only [hn, Fin.eta]

theorem queuePattern_figures (e : QueueEntry) (onFront onRear : Bool) (s : State) :
    SameFigures s (queuePattern e onFront onRear s).1 := by
  by_cases h : QueueFull onFront onRear s
  · rw [queuePattern_full h]
    exact sameFigures_rfl s
  · obtain ⟨t, heq, -, c, rfl⟩ := queuePattern_queued (e := e) h
    rw [heq]
    exact chime_figures c s

theorem playChime_figures (p : Port) (pattern speakers cls : Byte) (s : State) :
    SameFigures s (playChime p pattern speakers cls s).1 := by
  unfold playChime
  split_ifs
  · exact sameFigures_rfl s
  · exact queuePattern_figures _ _ _ s
  · exact sameFigures_rfl s

theorem cancelChimes_figures (p : Port) (s : State) : SameFigures s (cancelChimes p s).1 := by
  unfold cancelChimes
  split_ifs
  · exact sameFigures_rfl s
  · exact chime_figures _ s

/-- R128: the keys of a queue without the entries of a requester. -/
theorem withoutRequester_keys (p : Port) (q : List QueueEntry) :
    (withoutRequester p q).map QueueEntry.key = (q.map QueueEntry.key).filter fun x => x.2.2 != p := by
  rw [withoutRequester, List.filter_map]
  rfl

/-- R128: the entries that went. -/
theorem withoutRequester_length (p : Port) (q : List QueueEntry) :
    q.length - (withoutRequester p q).length = ((q.map QueueEntry.key).filter fun x => x.2.2 == p).length := by
  have hkeys : ((q.map QueueEntry.key).filter fun x => x.2.2 == p).length = (q.filter fun e => e.requester == p).length := by
    rw [List.filter_map, List.length_map]
    rfl
  have hsplit := List.length_eq_length_filter_add (l := q) fun e => e.requester == p
  have hnot : (q.filter fun e => !(e.requester == p)) = withoutRequester p q := rfl
  rw [hnot] at hsplit
  omega

/-- Settles O43. -/
theorem chimeQueueCommands : Obligations.ChimeQueueCommands := by
  intro p pattern speakers cls s hfree
  refine ⟨⟨settle s (servePlayChime p pattern speakers cls s), rfl,
      settle_answered_figures hfree rfl (playChime_figures p pattern speakers cls s),
      fun hbad => ?bad, fun hgood hclock => ?fault, fun n hgood hn hclock => ⟨fun hfull => ?full, fun hfits => ?played⟩⟩,
    ⟨settle s (serveCancelChimes p s), rfl, settle_answered_figures hfree rfl (cancelChimes_figures p s),
      fun hclock => ?cancelFault, fun hclock => ?cancelled⟩⟩
  case bad => exact refused_queues (f := playChime p pattern speakers cls) hfree (dif_neg hbad)
  case fault =>
    exact refused_queues (f := playChime p pattern speakers cls) hfree ((dif_pos hgood).trans (if_pos hclock))
  case full =>
    exact refused_queues (f := playChime p pattern speakers cls) hfree
      ((playChime_good hgood hn hclock).trans (queuePattern_full hfull))
  case played =>
    obtain ⟨t, heq, hqueued, c, rfl⟩ := queuePattern_queued (e := ⟨n, min 3 cls.toNat, p, false⟩) hfits
    have hf := (playChime_good (p := p) (cls := cls) hgood hn hclock).trans heq
    have hsame := settle_answered_queues hfree hf
    have hdone := hqueued.settled hsame
    have hanswered := (settle_answered hfree hf rfl).1
    rw [sharesReply_eq s _ _ _ _ hsame] at hanswered
    exact ⟨hdone.front, fun hoff => hdone.notFront (Bool.eq_false_iff.2 hoff), hdone.rear, hdone.notRear, hanswered⟩
  case cancelFault => exact refused_queues (f := cancelChimes p) hfree (if_pos hclock)
  case cancelled =>
    have hf : cancelChimes p s = _ := if_neg (by simp [hclock])
    have hsame := settle_answered_queues hfree hf
    refine ⟨fun sp => (hsame.keys sp).trans ?_, ?_⟩
    · rw [queueKeys_withQueue, queueKeys_withQueue]
      cases sp
      · exact withoutRequester_keys p _
      · exact withoutRequester_keys p _
    · have hanswered := (settle_answered hfree hf rfl).1
      rw [withoutRequester_length, withoutRequester_length, ← List.length_append, ← List.filter_append] at hanswered
      exact hanswered

/-! ### WARNING TEST (R118) -/

theorem startLampTest_eq (l : Option (Fin 8)) (s : State) : startLampTest l s = { s with gauge := { s.gauge with
    lampTests := match l with | none => s.gauge.lampTests | some k => s.gauge.lampTests.set k (some 3000000) } } := by
  cases l with
  | none => rfl
  | some k =>
    have hset : s.gauge.lampTests.setIfInBounds k.val (some lampHold) = s.gauge.lampTests.set k (some lampHold) := by
      ext i hi
      rw [Vector.getElem_setIfInBounds, Vector.getElem_set]
    rw [startLampTest, hset]
    rfl

theorem startLampTest_chime (l : Option (Fin 8)) (s : State) : (startLampTest l s).chime = s.chime := by
  rw [startLampTest_eq]

theorem startLampTest_port (l : Option (Fin 8)) (s : State) : (startLampTest l s).port = s.port := by
  rw [startLampTest_eq]

theorem startLampTest_lampTests (l : Option (Fin 8)) (s : State) : (startLampTest l s).gauge.lampTests =
    match l with | none => s.gauge.lampTests | some k => s.gauge.lampTests.set k (some 3000000) := by
  rw [startLampTest_eq]

theorem beginPark_lampTests (c : ParkCause) (s : State) : (beginPark c s).gauge.lampTests = s.gauge.lampTests := rfl

theorem settlePark_lampTests (s : State) : (settlePark s).gauge.lampTests = s.gauge.lampTests := by
  unfold settlePark
  split_ifs
  · exact beginPark_lampTests _ s
  · rfl
  · exact beginPark_lampTests _ s
  · rfl

/-- Settling leaves the lamp tests. -/
theorem settle_lampTests (a s : State) : (settle a s).gauge.lampTests = s.gauge.lampTests := by
  rw [settle, settleFrom_gauge_eq]
  show (settlePark (arbitrate (settleChimes s))).gauge.lampTests = _
  rw [settlePark_lampTests, arbitrate_gauge, settleChimes_gauge]

/-- A settled command leaves the lamp tests as its owner leaves them. -/
theorem settle_answered_lampTests {p : Port} {f : State → Answer} {s t : State} {r : Reply} (h : PortFree p s)
    (hf : f s = (t, r)) : (settle s (answerAtOnce p f s)).gauge.lampTests = t.gauge.lampTests := by
  rw [answerAtOnce_free p f s h, hf, settle_lampTests, deliver_gauge]

theorem lampTests_figures (l : Option (Fin 8)) (s : State) : SameFigures s (startLampTest l s) := by
  rw [startLampTest_eq]
  exact sameFigures_rfl s

theorem testDefinition_silent {w : Fin 24} (h : (warnDef w).pattern = none) (s : State) :
    testDefinition w s = (startLampTest (warnDef w).lamp s, .bare .ok) := by
  rw [testDefinition, h]

theorem testDefinition_full {w : Fin 24} {n : Fin 8} (h : (warnDef w).pattern = some n) {s : State}
    (hfull : QueueFull (warnDef w).onFront (warnDef w).onRear s) : testDefinition w s = (s, .bare .full) := by
  rw [testDefinition, h]
  simp only [queuePattern_full hfull]
  rfl

theorem testDefinition_queued {w : Fin 24} {n : Fin 8} (h : (warnDef w).pattern = some n) {s : State}
    (hfits : ¬ QueueFull (warnDef w).onFront (warnDef w).onRear s) : ∃ c,
      testDefinition w s = (startLampTest (warnDef w).lamp { s with chime := c }, .bare .ok)
      ∧ Queued ⟨n, 3, .service, false⟩ (warnDef w).onFront (warnDef w).onRear s { s with chime := c } := by
  obtain ⟨t, heq, hqueued, c, rfl⟩ := queuePattern_queued (e := ⟨n, 3, .service, false⟩) hfits
  refine ⟨c, ?_, hqueued⟩
  rw [testDefinition, h]
  simp only [heq]
  rfl

theorem testDefinition_figures (w : Fin 24) (s : State) :
    SameFigures s (testDefinition w s).1 ∧ (testDefinition w s).1.warn = s.warn := by
  rcases hn : (warnDef w).pattern with _ | n
  · rw [testDefinition_silent hn, startLampTest_eq]
    exact ⟨sameFigures_rfl s, rfl⟩
  · by_cases h : QueueFull (warnDef w).onFront (warnDef w).onRear s
    · rw [testDefinition_full hn h]
      exact ⟨sameFigures_rfl s, rfl⟩
    · obtain ⟨c, heq, -⟩ := testDefinition_queued hn h
      rw [heq, startLampTest_eq]
      exact ⟨sameFigures_rfl s, rfl⟩

theorem testDefinition_port (w : Fin 24) (s : State) : (testDefinition w s).1.port = s.port := by
  rcases hn : (warnDef w).pattern with _ | n
  · rw [testDefinition_silent hn, startLampTest_eq]
  · by_cases h : QueueFull (warnDef w).onFront (warnDef w).onRear s
    · rw [testDefinition_full hn h]
    · obtain ⟨c, heq, -⟩ := testDefinition_queued hn h
      rw [heq, startLampTest_eq]

/-- R118: WARNING TEST changes the queues and the lamp tests at most. -/
theorem warningTest_kept (p : Port) (id : Byte) (s : State) : SameFigures s (warningTest p id s).1
    ∧ (warningTest p id s).1.warn = s.warn ∧ (warningTest p id s).1.port = s.port := by
  unfold warningTest
  split_ifs
  · exact ⟨sameFigures_rfl s, rfl, rfl⟩
  · exact ⟨sameFigures_rfl s, rfl, rfl⟩
  · exact ⟨(testDefinition_figures _ s).1, (testDefinition_figures _ s).2, testDefinition_port _ s⟩
  · exact ⟨sameFigures_rfl s, rfl, rfl⟩

theorem warningTest_service {id : Byte} {w : Fin 24} {s : State} (hid : id.toNat = w.val) (hclock : s.clock.mainFault = false) :
    warningTest .service id s = testDefinition w s := by
  have hlt : id.toNat < 24 := hid ▸ w.isLt
  rw [warningTest, dif_pos hlt, if_neg (not_not.2 rfl), if_neg (by simp [hclock])]
  simp only [hid, Fin.eta]

/-- A refused test has kept the queues and the lamp tests. -/
theorem refused_test {p : Port} {f : State → Answer} {s : State} {st : Status} (h : PortFree p s) (hf : f s = (s, .bare st)) :
    Answered p ⟨st, []⟩ s (settle s (answerAtOnce p f s))
      ∧ (settle s (answerAtOnce p f s)).gauge.lampTests = s.gauge.lampTests
      ∧ queueKeys (settle s (answerAtOnce p f s)) .front = queueKeys s .front
      ∧ queueKeys (settle s (answerAtOnce p f s)) .rear = queueKeys s .rear :=
  have hqueues := refused_queues h hf
  ⟨hqueues.1, settle_answered_lampTests h hf, hqueues.2⟩

/-- Settles O39. -/
theorem warningTestSoundsTheDefinition : Obligations.WarningTestSoundsTheDefinition := by
  intro p id s hfree
  obtain ⟨hfigures, hwarn, hport⟩ := warningTest_kept p id s
  have hshown : SameShown s (settle s (serveWarningTest p id s)) := by
    rcases hf : warningTest p id s with ⟨t, r⟩
    rw [hf] at hwarn hport
    exact (settle_answered hfree hf (congrArg (fun x : PortBlock => x.service.output) hport)).2.trans
      (SameShown.of_warn hwarn)
  refine ⟨settle s (serveWarningTest p id s), rfl, settle_answered_figures hfree rfl hfigures, hshown,
    fun hbig => ?big, fun hsmall hp => ?denied, fun hsmall hp hclock => ?fault,
    fun w hid hp hclock => ⟨fun hnone => ?silent, fun n hn => ⟨fun hfull => ?full, fun hfits => ?queued⟩⟩⟩
  case big => exact refused_test (f := warningTest p id) hfree (dif_neg (by omega))
  case denied =>
    exact refused_test (f := warningTest p id) hfree ((dif_pos (Nat.lt_succ_of_le hsmall)).trans (if_pos hp))
  case fault =>
    exact refused_test (f := warningTest p id) hfree
      ((dif_pos (Nat.lt_succ_of_le hsmall)).trans ((if_neg (not_not.2 hp)).trans (if_pos hclock)))
  all_goals
    subst hp
    have hw := warningTest_service hid hclock
  case silent =>
    have hf := hw.trans (testDefinition_silent hnone s)
    rw [startLampTest_eq] at hf
    have hqueues := settle_answered_queues hfree hf
    exact ⟨(settle_answered hfree hf rfl).1, settle_answered_lampTests hfree hf, hqueues.keys .front, hqueues.keys .rear⟩
  case full =>
    have hfull' : QueueFull (warnDef w).onFront (warnDef w).onRear s := by
      rcases hfull with h | ⟨⟨hon, hquiet⟩, hlength⟩
      · exact .inl h
      · exact .inr ⟨hon, hquiet, hlength⟩
    exact refused_test (f := warningTest .service id) hfree (hw.trans (testDefinition_full hn hfull'))
  case queued =>
    have hfits' : ¬ QueueFull (warnDef w).onFront (warnDef w).onRear s := by
      rintro (h | ⟨hon, hquiet, hlength⟩)
      · exact hfits (.inl h)
      · exact hfits (.inr ⟨⟨hon, hquiet⟩, hlength⟩)
    obtain ⟨c, heq, hqueued⟩ := testDefinition_queued hn hfits'
    have hf := hw.trans heq
    have hdone := hqueued.settled
      ((SameQueues.of_chime (startLampTest_chime _ _)).trans (settle_answered_queues hfree hf))
    have hlit := (settle_answered_lampTests hfree hf).trans (startLampTest_lampTests _ _)
    have hanswered := (settle_answered hfree hf
      (congrArg (fun x : PortBlock => x.service.output) (startLampTest_port _ _))).1
    exact ⟨hanswered, hlit, hdone.front, hdone.notFront, hdone.rear, hdone.notRear⟩

/-! ### REAR QUIET (R132) -/

theorem bestOf_mem {l : List Candidate} {c : Candidate} (h : bestOf l = some c) : c ∈ l := by
  induction l with
  | nil => cases h
  | cons x xs ih =>
    unfold bestOf at h
    rcases hbest : bestOf xs with _ | d
    · rw [hbest] at h
      rw [← Option.some.inj h]
      exact List.mem_cons_self
    · rw [hbest] at h
      dsimp only at h
      split_ifs at h
      · exact List.mem_cons_of_mem _ (ih (hbest.trans h))
      · rw [← Option.some.inj h]
        exact List.mem_cons_self

/-- R129: the best candidate counts on its speaker. -/
theorem bestCandidate_mem {s : State} {sp : Speaker} {c : Candidate} (h : bestCandidate s sp = some c) :
    c ∈ warnCandidates s sp ++ queueCandidate s sp ∧ (quietOn s sp = true → 5 ≤ c.cls) := by
  obtain ⟨hmem, hcounts⟩ := List.mem_filter.1 (bestOf_mem h)
  refine ⟨hmem, fun hquiet => ?_⟩
  simpa [hquiet] using hcounts

/-- R129: a warning candidate is an entry whose chime state for the speaker is PENDING. -/
theorem mem_warnCandidates {s : State} {sp : Speaker} {c : Candidate} (h : c ∈ warnCandidates s sp) :
    ∃ e ∈ s.warn.list, e.chimeIs sp .pending = true ∧ ∃ n, (warnDef e.w).pattern = some n ∧ c = .warning e.w (warnDef e.w).cls n := by
  obtain ⟨e, he, hc⟩ := List.mem_filterMap.1 h
  obtain ⟨hmem, hpending⟩ := List.mem_filter.1 he
  obtain ⟨n, hn, rfl⟩ := Option.map_eq_some_iff.1 hc
  exact ⟨e, hmem, hpending, n, hn, rfl⟩

/-- R129: the queue's candidate is one of its entries. -/
theorem mem_queueCandidate {s : State} {sp : Speaker} {c : Candidate} (h : c ∈ queueCandidate s sp) :
    ∃ i e, (s.chime.speaker sp).queue[i]? = some e ∧ c = .queue i e.cls e.pattern := by
  unfold queueCandidate at h
  dsimp only at h
  split at h
  · cases h
  · split at h
    · cases h
    · next i _ _ e he =>
      rw [List.mem_singleton] at h
      exact ⟨i, e, he, h⟩

/-- R129: what a warning candidate is when it is the best. -/
theorem bestCandidate_warning {s : State} {sp : Speaker} {w : Fin 24} {cls : Nat} {n : Fin 8}
    (h : bestCandidate s sp = some (.warning w cls n)) : cls = (warnDef w).cls
      ∧ (∃ e ∈ s.warn.list, e.w = w ∧ e.chimeIs sp .pending = true) ∧ (quietOn s sp = true → 5 ≤ cls) := by
  obtain ⟨hmem, hquiet⟩ := bestCandidate_mem h
  rcases List.mem_append.1 hmem with hw | hq
  · obtain ⟨e, he, hpending, n', -, heq⟩ := mem_warnCandidates hw
    obtain ⟨rfl, rfl, -⟩ := Candidate.warning.inj heq
    exact ⟨rfl, ⟨e, he, rfl, hpending⟩, hquiet⟩
  · obtain ⟨i, e, -, heq⟩ := mem_queueCandidate hq
    cases heq

/-- R132: every warning of a class below 5 is DONE on the rear, or has no chime state there. -/
def RearSilent (s : State) : Prop :=
  ∀ e ∈ s.warn.list, (warnDef e.w).cls < 5 → ∀ m, e.chimeRear = some m → m = ⟨.done, none⟩

/-- A change of entries keeps the rear silent where it changes no rear chime state of a class below 5, or makes it DONE. -/
theorem RearSilent.map {s t : State} (h : RearSilent s) {f : Entry → Entry} (ht : t.warn.list = s.warn.list.map f)
    (hf : ∀ e, (f e).w = e.w ∧ ((warnDef e.w).cls < 5 → (f e).chimeRear = e.chimeRear
      ∨ ∀ m, (f e).chimeRear = some m → m = ⟨.done, none⟩)) : RearSilent t := by
  intro e he hcls m hm
  rw [ht] at he
  obtain ⟨x, hx, rfl⟩ := List.mem_map.1 he
  obtain ⟨hw, hsame⟩ := hf x
  rw [hw] at hcls
  rcases hsame hcls with hkept | hdone
  · exact h x hx hcls m (hkept ▸ hm)
  · exact hdone m hm

theorem settleQuiet_rearSilent {s : State} (h : RearSilent s) : RearSilent (settleQuiet s) := by
  unfold settleQuiet
  split_ifs
  · exact h
  · refine h.map rfl fun e => ⟨quieted_w e, fun hcls => ?_⟩
    unfold Entry.quieted
    split_ifs
    · exact .inr fun m hm => (Option.some.inj hm).symm
    · exact .inl rfl

theorem setChime_rearSilent {s : State} (h : RearSilent s) {w : Fin 24} {sp : Speaker} {m : ChimeMark}
    (hw : sp = .front ∨ 5 ≤ (warnDef w).cls) : RearSilent (setChime w sp m s) := by
  refine h.map rfl fun e => ⟨?_, fun hcls => .inl ?_⟩
  · split_ifs
    · exact setChime_w _ _ _
    · rfl
  · split_ifs with he
    · rcases hw with rfl | hw
      · rfl
      · rw [he] at hcls
        omega
    · rfl

theorem choose_rearSilent {s : State} (h : RearSilent s) {sp : Speaker} (hq : sp = .front ∨ quietOn s sp = true) :
    RearSilent (choose sp s) := by
  unfold choose
  rcases hbest : bestCandidate s sp with _ | c
  · exact h
  · cases c with
    | warning w cls n =>
      obtain ⟨rfl, -, hcls⟩ := bestCandidate_warning hbest
      exact setChime_rearSilent h (hq.imp id hcls)
    | queue i cls n => exact h

theorem chooseIfIdle_rearSilent {s : State} (h : RearSilent s) {sp : Speaker} (hq : sp = .front ∨ quietOn s sp = true) :
    RearSilent (chooseIfIdle sp s) := by
  unfold chooseIfIdle
  split
  · exact choose_rearSilent h hq
  · exact h

/-- R132: under quiet the choices leave the rear silent. -/
theorem settleChimes_rearSilent {s : State} (h : RearSilent s) (hq : s.chime.quiet ≠ .off) : RearSilent (settleChimes s) := by
  have hquiet : RearSilent (settleQuiet s) := settleQuiet_rearSilent h
  have hrear : quietOn (chooseIfIdle .front (settleQuiet s)) .rear = true := by
    rw [← Bool.not_eq_false, quietOn_rear, ((settleQuiet_sameQueues s).trans (chooseIfIdle_sameQueues .front _)).quiet]
    exact hq
  unfold settleChimes
  dsimp only
  split_ifs
  · exact chooseIfIdle_rearSilent (chooseIfIdle_rearSilent hquiet (.inl rfl)) (.inr hrear)
  · exact hquiet

theorem settle_rearSilent {a s : State} (h : RearSilent s) (hq : s.chime.quiet ≠ .off) : RearSilent (settle a s) := by
  unfold RearSilent
  rw [settle_list]
  exact settleChimes_rearSilent h hq

theorem chimeDoneAll_portsKept (q : List QueueEntry) (s : State) : PortsKept s (chimeDoneAll q s) :=
  (PortsKept.when (notify_portsKept .front _ s)).trans (.when (notify_portsKept .rear _ _))

/-- R132: CHIME DONE is set for the front when an entry of its own went. -/
theorem chimeDoneAll_front {q : List QueueEntry} (h : ∃ e ∈ q, e.requester = .front) (s : State) :
    (chimeDoneAll q s).port.front.notices &&& Notice.chimeDone.bit = Notice.chimeDone.bit := by
  have hany : (q.any fun e => e.requester == .front) = true := by simpa using h
  unfold chimeDoneAll
  dsimp only
  rw [if_pos hany]
  exact (PortsKept.when (notify_portsKept .rear .chimeDone (notify .front .chimeDone s))).front .chimeDone (bit_or_self _ _)

/-- R132: the quiet state of a rear that is taken, and its number. -/
def quietNow (s : State) : Quiet × Byte :=
  match s.chime.rear.play with
  | none => (.on, 2)
  | some q => if 5 ≤ q.cls then (.on, 2) else (.quieting, 1)

theorem quietTakesRear_list (s : State) : (quietTakesRear s).warn.list = s.warn.list.map Entry.silenceRear := by
  simp [quietTakesRear]

theorem quietTakesRear_chime (s : State) :
    (quietTakesRear s).chime = ⟨s.chime.front, ⟨s.chime.rear.play, []⟩, (quietNow s).1⟩ := by
  simp only [quietTakesRear, quietNow, withList_chime, State.withQueue, State.withSpeaker, chimeDoneAll_chime,
    ChimeUnit.setSpeaker, ChimeUnit.speaker]
  rcases s.chime.rear.play with _ | q
  · rfl
  · dsimp only
    split_ifs <;> rfl

theorem quietTakesRear_port (s : State) : (quietTakesRear s).port = (chimeDoneAll s.chime.rear.queue s).port := by
  simp [quietTakesRear]

theorem quietTakesRear_figures (s : State) : SameFigures s (quietTakesRear s) := by
  simp [quietTakesRear, SameFigures, SameRecords]

theorem viewEntry_silenceRear (e : Entry) : viewEntry .service e.silenceRear = viewEntry .service e := by
  unfold Entry.silenceRear
  split_ifs <;> rfl

theorem quietTakesRear_shown (s : State) : SameShown s (quietTakesRear s) := by
  show view .service (quietTakesRear s).warn.list = _
  rw [quietTakesRear_list]
  exact view_map_unshown viewEntry_silenceRear _

theorem quietTakesRear_rearSilent (s : State) : RearSilent (quietTakesRear s) := by
  intro e he hcls m hm
  rw [quietTakesRear_list] at he
  obtain ⟨x, -, rfl⟩ := List.mem_map.1 he
  unfold Entry.silenceRear at hcls hm
  split_ifs at hcls hm with hx
  · obtain ⟨-, -, rfl⟩ := Option.map_eq_some_iff.1 hm
    rfl
  · exact absurd hcls hx

theorem quietNow_number (s : State) : enc 1 (quietNow s).1.toNat = [(quietNow s).2] ∧ (quietNow s).1 ≠ .off := by
  unfold quietNow
  rcases s.chime.rear.play with _ | q
  · exact ⟨by decide, by decide⟩
  · dsimp only
    split_ifs
    · exact ⟨by decide, by decide⟩
    · exact ⟨by decide, by decide⟩

/-- R132: what REAR QUIET makes of the state, when it is not refused. -/
def quieted (arg : Byte) (s : State) : State :=
  if arg = 0 then { s with chime := { s.chime with quiet := .off } }
  else if s.chime.quiet = .off then quietTakesRear s
  else s

theorem setRearQuiet_rear {arg : Byte} {s : State} (harg : arg.toNat ≤ 1) (hclock : s.clock.mainFault = false) :
    setRearQuiet .rear arg s = (quieted arg s, ⟨.ok, enc 1 (quieted arg s).chime.quiet.toNat⟩) := by
  rw [setRearQuiet, if_neg (Nat.not_lt.2 harg), if_neg (not_not.2 rfl), if_neg (by simp [hclock])]
  rfl

theorem quieted_kept (arg : Byte) (s : State) : SameFigures s (quieted arg s) ∧ SameShown s (quieted arg s)
    ∧ PortsKept s (quieted arg s) ∧ queueKeys (quieted arg s) .front = queueKeys s .front := by
  unfold quieted
  split_ifs
  · exact ⟨sameFigures_rfl s, rfl, .of_port rfl, rfl⟩
  · refine ⟨quietTakesRear_figures s, quietTakesRear_shown s, (chimeDoneAll_portsKept _ s).before (quietTakesRear_port s), ?_⟩
    rw [queueKeys, quietTakesRear_chime]
    rfl
  · exact ⟨sameFigures_rfl s, rfl, .rfl' s, rfl⟩

/-- R132: REAR QUIET changes no figure, nothing that the service view shows, and nothing of the front's queue. -/
theorem setRearQuiet_kept (p : Port) (arg : Byte) (s : State) : SameFigures s (setRearQuiet p arg s).1
    ∧ SameShown s (setRearQuiet p arg s).1 ∧ PortsKept s (setRearQuiet p arg s).1
    ∧ queueKeys (setRearQuiet p arg s).1 .front = queueKeys s .front := by
  have hrefused : SameFigures s s ∧ SameShown s s ∧ PortsKept s s ∧ queueKeys s .front = queueKeys s .front :=
    ⟨sameFigures_rfl s, rfl, .rfl' s, rfl⟩
  by_cases harg : 1 < arg.toNat
  · rw [setRearQuiet, if_pos harg]
    exact hrefused
  by_cases hp : p ≠ .rear
  · rw [setRearQuiet, if_neg harg, if_pos hp]
    exact hrefused
  by_cases hclock : s.clock.mainFault = true
  · rw [setRearQuiet, if_neg harg, if_neg hp, if_pos hclock]
    exact hrefused
  · rw [not_not.1 hp, setRearQuiet_rear (Nat.not_lt.1 harg) (Bool.eq_false_iff.2 hclock)]
    exact quieted_kept arg s

/-- A refused REAR QUIET has kept quiet and the rear's queue. -/
theorem refused_quiet {p : Port} {f : State → Answer} {s : State} {st : Status} (h : PortFree p s) (hf : f s = (s, .bare st)) :
    Answered p ⟨st, []⟩ s (settle s (answerAtOnce p f s)) ∧ (settle s (answerAtOnce p f s)).chime.quiet = s.chime.quiet
      ∧ queueKeys (settle s (answerAtOnce p f s)) .rear = queueKeys s .rear :=
  ⟨(refused_queues h hf).1, (settle_answered_queues h hf).quiet, (refused_queues h hf).2.2⟩

/-- Settles O44. -/
theorem rearQuietTakesTheRear : Obligations.RearQuietTakesTheRear := by
  intro p arg s hfree
  obtain ⟨hfigures, hshown, hports, hkeys⟩ := setRearQuiet_kept p arg s
  have hall : SameShown s (settle s (serveRearQuiet p arg s))
      ∧ queueKeys (settle s (serveRearQuiet p arg s)) .front = queueKeys s .front := by
    rcases hf : setRearQuiet p arg s with ⟨t, r⟩
    rw [hf] at hshown hports hkeys
    refine ⟨(settle_answered hfree hf (congrArg _ hports.service)).2.trans hshown, ?_⟩
    exact ((settle_answered_queues hfree hf).keys .front).trans hkeys
  refine ⟨settle s (serveRearQuiet p arg s), rfl, settle_answered_figures hfree rfl hfigures, hall.1, hall.2,
    fun hbad => ?bad, fun harg hp => ?denied, fun harg hp hclock => ?fault, fun harg hp hclock => ?off,
    fun harg hp hclock hquiet => ?again, fun harg hp hclock hquiet => ?taken⟩
  case bad => exact refused_quiet (f := setRearQuiet p arg) hfree (if_pos hbad)
  case denied => exact refused_quiet (f := setRearQuiet p arg) hfree ((if_neg (Nat.not_lt.2 harg)).trans (if_pos hp))
  case fault =>
    exact refused_quiet (f := setRearQuiet p arg) hfree
      ((if_neg (Nat.not_lt.2 harg)).trans ((if_neg (not_not.2 hp)).trans (if_pos hclock)))
  all_goals
    subst hp harg
  case off =>
    have hf := setRearQuiet_rear (arg := 0) (by decide) hclock
    have hq : quieted 0 s = { s with chime := { s.chime with quiet := .off } } := if_pos rfl
    have hnumber : enc 1 Quiet.off.toNat = [0] := by decide
    rw [hq] at hf
    replace hf : _ = (_, (⟨.ok, enc 1 Quiet.off.toNat⟩ : Reply)) := hf
    rw [hnumber] at hf
    have hsame := settle_answered_queues hfree hf
    exact ⟨hsame.quiet, hsame.keys .rear, (settle_answered hfree hf rfl).1⟩
  all_goals
    have hf := setRearQuiet_rear (arg := 1) (by decide) hclock
  case again =>
    have hq : quieted 1 s = s := (if_neg (by decide)).trans (if_neg hquiet)
    have hnumber : enc 1 s.chime.quiet.toNat = [if s.chime.quiet = .quieting then 1 else 2] := by
      rcases hcase : s.chime.quiet
      · exact absurd hcase hquiet
      · decide
      · decide
    rw [hq, hnumber] at hf
    have hsame := settle_answered_queues hfree hf
    exact ⟨hsame.quiet, hsame.keys .rear, (settle_answered hfree hf rfl).1⟩
  case taken =>
    have hq : quieted 1 s = quietTakesRear s := (if_neg (by decide)).trans (if_pos hquiet)
    obtain ⟨hnumber, hnot⟩ := quietNow_number s
    have hnow : (quietTakesRear s).chime.quiet = (quietNow s).1 := congrArg ChimeUnit.quiet (quietTakesRear_chime s)
    rw [hq, hnow, hnumber] at hf
    have hsame := settle_answered_queues hfree hf
    have hkept : PortsKept s (quietTakesRear s) := (chimeDoneAll_portsKept _ s).before (quietTakesRear_port s)
    refine ⟨(hsame.keys .rear).trans ?_, ?_, ⟨hsame.quiet.trans hnow, ?_⟩, fun hfront => ?_⟩
    · rw [queueKeys, quietTakesRear_chime]
      rfl
    · have hdelivered : RearSilent (deliver .rear ⟨.ok, [(quietNow s).2]⟩ (quietTakesRear s)) := by
        unfold RearSilent
        rw [deliver_warn]
        exact quietTakesRear_rearSilent s
      rw [serveRearQuiet, answerAtOnce_free _ _ s hfree, hf]
      refine settle_rearSilent hdelivered ?_
      rw [deliver_chime, hnow]
      exact hnot
    · exact (settle_answered hfree hf (congrArg _ hkept.service)).1
    · have hset := chimeDoneAll_front hfront s
      rw [← quietTakesRear_port] at hset
      rw [serveRearQuiet, answerAtOnce_free _ _ s hfree, hf]
      exact (settle_portsKept s _).front .chimeDone hset

end Sys2Proof.Proofs.Chimes

/-! PROOFS. RESET SERVICE and WRITE SERVICE ITEM (R137, R138, R143 to R148). -/

namespace Sys2Proof.Proofs.ServiceItems

open Sys2Proof Sys2Proof.Machine Sys2Proof.Proofs.Basics Sys2Proof.Proofs.Grants Sys2Proof.Proofs.Warnings

/-! ### The judgement of an item -/

/-- R143: some used dimension of an item is at or below its level. -/
def withinLevels (d : ItemDef) (day : Nat) (x : Item) (dist days time : Int) : Bool :=
  (decide (0 < d.km) && decide (x.dist ≤ dist))
  || (decide (0 < d.days) && x.due.any fun due => decide ((due : Int) - day ≤ days))
  || (decide (0 < d.hours) && decide (x.time ≤ time))

/-- A dimension takes part when it is used. -/
theorem any_used {c : Prop} [Decidable c] (q : Dimension) (f : Dimension → Bool) :
    (if c then [q] else []).any f = (decide c && f q) := by
  by_cases h : c
  · simp [h]
  · simp [h]

theorem dimensions_any (d : ItemDef) (day : Nat) (x : Item) (level : Dimension → Int) :
    (dimensions d day x).any (fun q => decide (q.left ≤ level q)) =
      ((decide (0 < d.km) && decide (x.dist ≤ level ⟨x.dist, d.noticeKm * 1000, -(d.km * 100 : Int)⟩))
      || (decide (0 < d.days) && x.due.any fun due => decide ((due : Int) - day
            ≤ level ⟨(due : Int) - day, d.noticeDays, -((d.days / 10 : Nat) : Int)⟩))
      || (decide (0 < d.hours) && decide (x.time ≤ level ⟨x.time, d.noticeHours * 3600, -(d.hours * 360 : Int)⟩))) := by
  unfold dimensions
  rw [List.any_append, List.any_append, any_used, any_used]
  rcases x.due with _ | due
  · show (_ || false || _) = (_ || (decide (0 < d.days) && false) || _)
    rw [Bool.and_false]
  · dsimp only
    rw [any_used]
    rfl

/-- R143: the judgement of an item by its used dimensions. -/
def judgement (d : ItemDef) (day : Nat) (x : Item) : ItemState :=
  if withinLevels d day x (-(d.km * 100 : Int)) (-((d.days / 10 : Nat) : Int)) (-(d.hours * 360 : Int)) then .overdue
  else if withinLevels d day x 0 0 0 then .due
  else if withinLevels d day x (d.noticeKm * 1000) d.noticeDays (d.noticeHours * 3600) then .soon
  else .ok

theorem judgeItem_dimensions (d : ItemDef) (day : Nat) (x : Item) : judgeItem (dimensions d day x) = judgement d day x := by
  unfold judgeItem judgement withinLevels
  rw [dimensions_any d day x Dimension.overdue, dimensions_any d day x (fun _ => 0), dimensions_any d day x Dimension.soon]

/-- R144: an item after an evaluation. -/
def evaluatedItem (d : ItemDef) (day : Nat) (x : Item) : Item :=
  { x with state := if d.enabled = false then .off else if x.state = .unknown then .unknown else judgement d day x }

theorem evalItems_get (w : Settings) (day : Nat) (items : Vector Item 8) (k : Fin 8) :
    (evalItems w day items)[k] = evaluatedItem w.items[k] day items[k] := by
  simp [evalItems, evaluatedItem, evalState, judgeItem_dimensions]

/-! ### An evaluation of the table -/

theorem evaluateFrom_service (old items : Vector Item 8) (s : State) :
    (evaluateFrom old items s).service.items = evalItems s.settings.work (today s) items := by
  simp [evaluateFrom, storeItems, sealItems]

/-- What a command that gives an item a new start leaves of the part, but for the item and the settings. -/
structure ItemPut (k : Fin 8) (s u : State) : Prop where
  notified : Notified .service u
  others   : ∀ j : Fin 8, j ≠ k → u.service.items[j] = evaluatedItem s.settings.work.items[j] (today s) s.service.items[j]
  meas     : u.meas = s.meas
  fold     : u.fold = s.fold
  records  : SameRecords s u
  units    : u.units = s.units
  clock    : u.clock = s.clock
  timers   : u.timers = s.timers
  ports    : PortsKept s u

theorem set_get (v : Vector Item 8) (k : Fin 8) (x : Item) (j : Fin 8) : (v.set k x)[j] = if j = k then x else v[j] := by
  simp [Vector.getElem_set, Fin.ext_iff, eq_comm]

theorem resetItem_put (k : Fin 8) (s : State) : ItemPut k s (resetItem k s) ∧ (resetItem k s).settings = s.settings
    ∧ (resetItem k s).service.items[k] = evaluatedItem s.settings.work.items[k] (today s)
        (freshItem s.settings.work.items[k] s.clock.unset (today s)) := by
  have hitems : (resetItem k s).service.items = evalItems s.settings.work (today s)
      (s.service.items.set k (freshItem s.settings.work.items[k] s.clock.unset (today s))) := by
    rw [resetItem, notifyBoth_service, evaluateFrom_service]
  refine ⟨{ notified := notified_notifyBoth _ _, others := fun j hj => ?_, meas := by simp [resetItem], fold := by simp [resetItem],
            records := by simp [resetItem, SameRecords], units := by simp [resetItem], clock := by simp [resetItem],
            timers := by simp [resetItem],
            ports := (evaluateFrom_portsKept _ _ s).trans (notifyBoth_portsKept _ _) }, by simp [resetItem], ?_⟩
  · rw [hitems, evalItems_get, set_get, if_neg hj]
  · rw [hitems, evalItems_get, set_get, if_pos rfl]

theorem installItem_put (k : Fin 8) (d : ItemDef) (s : State) : ItemPut k s (installItem k d s)
    ∧ (installItem k d s).settings.work = { s.settings.work with items := s.settings.work.items.set k d }
    ∧ (installItem k d s).settings.check = settingsCheck (installItem k d s).settings.work
    ∧ (installItem k d s).service.items[k]
      = evaluatedItem d (today s) (if d.enabled then freshItem d s.clock.unset (today s) else disabledItem) := by
  have hitems : (installItem k d s).service.items = evalItems { s.settings.work with items := s.settings.work.items.set k d }
      (today s) (s.service.items.set k (if d.enabled then freshItem d s.clock.unset (today s) else disabledItem)) := by
    simp only [installItem]
    rw [notifyBoth_service, evaluateFrom_service]
    rfl
  have hdef (j : Fin 8) : (s.settings.work.items.set k d)[j] = if j = k then d else s.settings.work.items[j] := by
    simp [Vector.getElem_set, Fin.ext_iff, eq_comm]
  refine ⟨{ notified := notified_notifyBoth _ _, others := fun j hj => ?_, meas := by simp [installItem],
            fold := by simp [installItem], records := by simp [installItem, SameRecords], units := by simp [installItem],
            clock := by simp [installItem], timers := by simp [installItem],
            ports := ((evaluateFrom_portsKept _ _ _).after (withWork_port _ _)).trans (notifyBoth_portsKept _ _) },
          by simp [installItem, State.withWork], by simp [installItem, State.withWork], ?_⟩
  · rw [hitems, evalItems_get, set_get, if_neg hj, hdef, if_neg hj]
  · rw [hitems, evalItems_get, set_get, if_pos rfl, hdef, if_pos rfl]

/-! ### The page of an item -/

theorem servicePage_congr {s t : State} (hsettings : t.settings = s.settings) (hservice : t.service = s.service)
    (hclock : t.clock = s.clock) (hunits : t.units = s.units) (p : Port) (k : Fin 8) (page : Byte) :
    servicePage t p k page = servicePage s p k page := by
  have hunit : unitOf t p = unitOf s p := by simp only [unitOf, hunits]
  simp only [servicePage, serviceFields, today, hsettings, hservice, hclock, hunit]

/-- What a settled command leaves that put an item and answers with its page. -/
theorem settle_itemPut {p : Port} {f : State → Answer} {s u : State} {k : Fin 8} (h : PortFree p s) (hput : ItemPut k s u)
    (hf : f s = (u, serviceReplyPage .ok u p k)) : ∃ t, t = settle s (answerAtOnce p f s)
      ∧ Answered p { servicePage t p k 0 with status := .ok } s t ∧ t.service = u.service ∧ t.settings = u.settings
      ∧ Notified .service t ∧ t.meas = s.meas ∧ t.fold = s.fold ∧ SameRecords s t ∧ t.units = s.units ∧ t.clock = s.clock
      ∧ t.timers = s.timers := by
  have hrun : answerAtOnce p f s = deliver p (serviceReplyPage .ok u p k) u := by rw [answerAtOnce_free p f s h, hf]
  have hanswered := (settle_answered h hf (congrArg _ hput.ports.service)).1
  have hpage := servicePage_congr (s := u) (t := settle s (answerAtOnce p f s)) (by rw [hrun]; simp) (by rw [hrun]; simp)
    (by rw [hrun]; simp) (by rw [hrun]; simp) p k 0
  refine ⟨_, rfl, ?_, ?_, ?_, ?_, ?_, ?_, ?_, ?_, ?_, ?_⟩
  · rw [hpage]
    exact hanswered
  · rw [hrun]; simp
  · rw [hrun]; simp
  · rw [hrun]
    exact (settle_portsKept s _).notified (deliver_notified p _ hput.notified)
  · rw [hrun, settle_meas, deliver_meas, hput.meas]
  · rw [hrun, settle_fold, deliver_fold, hput.fold]
  · rw [hrun]
    simpa [SameRecords] using hput.records
  · rw [hrun, settle_units, deliver_units, hput.units]
  · rw [hrun, settle_clock, deliver_clock, hput.clock]
  · rw [hrun, settle_timers, deliver_timers, hput.timers]

/-- A refused command has answered and changed no figure. -/
theorem refused_figures {p : Port} {f : State → Answer} {s : State} {r : Reply} (h : PortFree p s) (hf : f s = (s, r)) :
    Answered p r s (settle s (answerAtOnce p f s)) ∧ SameFigures s (settle s (answerAtOnce p f s)) :=
  ⟨(settle_answered h hf rfl).1, settle_answered_figures h hf (sameFigures_rfl s)⟩

section
variable {p : Port} {item : Byte} {s : State} {k : Fin 8} (hk : item.toNat = k.val)
include hk

theorem resetService_item : resetService p item s =
    if p = .rear then (s, serviceReplyPage .denied s p k)
    else if s.clock.mainFault then (s, .bare .clockFault)
    else if p = .front ∧ (s.settings.work.items[k]).driver = false then (s, serviceReplyPage .denied s p k)
    else if (s.service.items[k]).state = .off then (s, serviceReplyPage .wrongState s p k)
    else (resetItem k s, serviceReplyPage .ok (resetItem k s) p k) := by
  have hlt : item.toNat < 8 := hk ▸ k.isLt
  have heq : (⟨item.toNat, hlt⟩ : Fin 8) = k := Fin.ext hk
  rw [resetService, dif_pos hlt]
  simp only [heq]

theorem writeServiceItem_item {args : ItemArgs} {d : ItemDef} (hd : ItemArgs.toDef args = some d) :
    writeServiceItem p item args s =
      if p ≠ .service then (s, .bare .denied)
      else if s.clock.mainFault then (s, .bare .clockFault)
      else (installItem k d s, serviceReplyPage .ok (installItem k d s) p k) := by
  have hlt : item.toNat < 8 := hk ▸ k.isLt
  have heq : (⟨item.toNat, hlt⟩ : Fin 8) = k := Fin.ext hk
  rw [writeServiceItem, dif_pos hlt, hd]
  simp only [heq]

end

/-- R148: a written item that is disabled is OFF. -/
theorem evaluatedItem_written (d : ItemDef) (day : Nat) (x : Item) :
    evaluatedItem d day (if d.enabled then x else disabledItem) = if d.enabled then evaluatedItem d day x else disabledItem := by
  by_cases h : d.enabled = true
  · rw [if_pos h, if_pos h]
  · rw [if_neg h, if_neg h, evaluatedItem, if_pos (Bool.eq_false_iff.2 h)]
    rfl

/-- Settles O45. -/
theorem serviceItemCommands : Obligations.ServiceItemCommands := by
  intro p item args s hfree
  refine ⟨⟨settle s (serveResetService p item s), rfl, fun hbig => ?resetBad, fun k hk => ?reset⟩,
    ⟨settle s (serveWriteServiceItem p item args s), rfl, fun hbad => ?writeBad, fun k d hk hd => ?write⟩⟩
  case resetBad => exact refused_figures (f := resetService p item) hfree (dif_neg (by omega))
  case reset =>
    have hreset := resetService_item (p := p) (s := s) hk
    refine ite_intro (fun hp => ?_) fun hp => ite_intro (fun hclock => ?_) fun hclock => ite_intro (fun hdriver => ?_) fun hdriver =>
      ite_intro (fun hoff => ?_) fun hoff => ?_
    · rw [if_pos hp] at hreset
      exact refused_figures hfree hreset
    · rw [if_neg hp, if_pos hclock] at hreset
      exact refused_figures hfree hreset
    · rw [if_neg hp, if_neg hclock, if_pos hdriver] at hreset
      exact refused_figures hfree hreset
    · rw [if_neg hp, if_neg hclock, if_neg hdriver, if_pos hoff] at hreset
      exact refused_figures hfree hreset
    · rw [if_neg hp, if_neg hclock, if_neg hdriver, if_neg hoff] at hreset
      obtain ⟨hput, hsettings, hitem⟩ := resetItem_put k s
      obtain ⟨t, ht, hanswered, hservice, hset, hnotified, hrest⟩ := settle_itemPut hfree hput hreset
      rw [serveResetService, ← ht]
      refine ⟨?_, hset.trans hsettings, ⟨hnotified, fun j hj => ?_, hrest⟩, hanswered⟩
      · rw [hservice]
        exact hitem
      · rw [hservice]
        exact hput.others j hj
  case writeBad =>
    refine refused_figures (f := writeServiceItem p item args) hfree (r := .bare .badArgument) ?_
    by_cases hlt : item.toNat < 8
    · rw [writeServiceItem, dif_pos hlt, hbad.resolve_left (by omega)]
    · exact dif_neg hlt
  case write =>
    have hwrite := writeServiceItem_item (p := p) (s := s) hk hd
    refine ite_intro (fun hp => ?_) fun hp => ite_intro (fun hclock => ?_) fun hclock => ?_
    · rw [if_pos hp] at hwrite
      exact refused_figures hfree hwrite
    · rw [if_neg hp, if_pos hclock] at hwrite
      exact refused_figures hfree hwrite
    · rw [if_neg hp, if_neg hclock] at hwrite
      obtain ⟨hput, hwork, hcheck, hitem⟩ := installItem_put k d s
      obtain ⟨t, ht, hanswered, hservice, hset, hnotified, hrest⟩ := settle_itemPut hfree hput hwrite
      rw [serveWriteServiceItem, ← ht]
      refine ⟨?_, ?_, ?_, ⟨hnotified, fun j hj => ?_, hrest⟩, hanswered⟩
      · rw [hset, hwork]
      · rw [hset, hcheck]
      · rw [hservice, hitem, evaluatedItem_written]
        rfl
      · rw [hservice]
        exact hput.others j hj

end Sys2Proof.Proofs.ServiceItems

/-! PROOFS. The park entry, KEEP AWAKE and PARKED entry (R161 to R163). -/

namespace Sys2Proof.Proofs.Parking

open Sys2Proof Sys2Proof.Machine Sys2Proof.Proofs.Basics Sys2Proof.Proofs.Gauges Sys2Proof.Proofs.Grants
  Sys2Proof.Proofs.Folds Sys2Proof.Proofs.RecordReads Sys2Proof.Proofs.Views Sys2Proof.Proofs.Warnings
  Sys2Proof.Proofs.Chimes

/-! ### How a park entry begins -/

/-- A park entry in progress does not begin again. -/
theorem settlePark_parking {s : State} (h : s.power.park.isSome = true) : settlePark s = s := by
  unfold settlePark
  rw [if_neg]
  simp [Option.isNone_eq_false_iff.2 h]

/-- The delay of a part in AWAKE that is not parking has run down. -/
def ParkDue (s : State) : Prop := inAwake s = true ∧ s.power.park = none ∧ s.power.delay = some 0

theorem settlePark_due {s : State} (h : ParkDue s) : settlePark s =
    if s.power.limit = some 0 then beginPark .limit s else if keepAwakeReason s then s else beginPark .delay s := by
  obtain ⟨hawake, hpark, hdelay⟩ := h
  unfold settlePark
  rw [if_pos]
  simp [hawake, hpark, hdelay]

/-- What settling leaves of the power unit and the gauges is what the beginning of a park entry leaves of them. -/
theorem settle_park (a s : State) : (settle a s).power = (settlePark (arbitrate (settleChimes s))).power
    ∧ (settle a s).gauge.gauges = (settlePark (arbitrate (settleChimes s))).gauge.gauges := by
  refine ⟨settleFrom_power_eq _ _, ?_⟩
  rw [settle, settleFrom_gauge_eq]

theorem inAwake_congr {s t : State} (h : t.power = s.power) : inAwake t = inAwake s := by
  unfold inAwake alive
  rw [h]

theorem ParkDue.settling {s : State} (h : ParkDue s) : ParkDue (arbitrate (settleChimes s)) := by
  have hpower : (arbitrate (settleChimes s)).power = s.power := by simp
  obtain ⟨hawake, hpark, hdelay⟩ := h
  exact ⟨(inAwake_congr hpower).trans hawake, by rw [hpower, hpark], by rw [hpower, hdelay]⟩

/-- The gauges are on their way to 0, or off, and a slot write of ODO is queued. -/
def Returning (s t : State) : Prop :=
  (∀ g : Fin 6, t.gauge.gauges[g].mode = .ret ∨ t.gauge.gauges[g].mode = .off)
    ∧ SlotWriteQueued (s.store.odo.distance / 100) t

theorem beginPark_gauges (c : ParkCause) (s : State) : (beginPark c s).gauge.gauges =
    mapGauges (fun x => if x.mode = .off then x else { x with mode := .ret }) s.gauge.gauges := rfl

theorem beginPark_modes (c : ParkCause) (s : State) (g : Fin 6) :
    (beginPark c s).gauge.gauges[g].mode = .ret ∨ (beginPark c s).gauge.gauges[g].mode = .off := by
  rw [beginPark_gauges, mapGauges_get]
  split_ifs with hoff
  · exact .inr hoff
  · exact .inl rfl

theorem beginPark_park (c : ParkCause) (s : State) : (beginPark c s).power.park = some c := rfl

theorem beginPark_pending (c : ParkCause) (s : State) :
    (beginPark c s).nv.pendingSlot = some (s.store.odo.distance / 100) := rfl

theorem settle_begun {a s : State} {c : ParkCause}
    (h : settlePark (arbitrate (settleChimes s)) = beginPark c (arbitrate (settleChimes s))) :
    (settle a s).power.park = some c ∧ Returning s (settle a s) := by
  obtain ⟨hpower, hgauges⟩ := settle_park a s
  refine ⟨by rw [hpower, h, beginPark_park], fun g => ?_, ?_⟩
  · rw [hgauges, h]
    exact beginPark_modes _ _ g
  · have hqueued := startWrite_queued (s := settlePark (arbitrate (settleChimes s))) (by rw [h]; exact beginPark_pending c _)
    rw [arbitrate_store] at hqueued
    unfold SlotWriteQueued at hqueued ⊢
    rw [settle_nv]
    simpa using hqueued

/-- A park entry that the event itself began goes on. -/
theorem settle_beginPark (a : State) (c : ParkCause) (s : State) :
    (settle a (beginPark c s)).power.park = some c ∧ Returning s (settle a (beginPark c s)) := by
  have hpark : settlePark (arbitrate (settleChimes (beginPark c s))) = arbitrate (settleChimes (beginPark c s)) :=
    settlePark_parking (by simp [beginPark_park])
  obtain ⟨hpower, hgauges⟩ := settle_park a (beginPark c s)
  refine ⟨by rw [hpower, hpark]; simp [beginPark_park], fun g => ?_, ?_⟩
  · rw [hgauges, hpark, arbitrate_gauge, settleChimes_gauge]
    exact beginPark_modes c s g
  · exact settle_queued (beginPark_pending c s) (by simp)

/-! ### Keep-awake reasons -/

theorem quieted_quiet {e : Entry} (h : e.chimeIs .rear .pending = false) : e.quieted = e := by
  unfold Entry.quieted
  rw [if_neg]
  simp [h]

/-- With the chime unit at rest, settling starts no play. -/
theorem settleChimes_idle {s : State} (h : chimeBusy s = false) : settleChimes s = s := by
  have hparts : s.chime.front.play = none ∧ s.chime.rear.play = none ∧ s.chime.front.queue = [] ∧ s.chime.rear.queue = []
      ∧ ∀ e ∈ s.warn.list, e.chimeIs .front .pending = false ∧ e.chimeIs .rear .pending = false := by
    simpa [chimeBusy, and_assoc] using h
  obtain ⟨hfront, hrear, hfrontQueue, hrearQueue, hpending⟩ := hparts
  have hquiet : settleQuiet s = s := by
    unfold settleQuiet
    refine (if_congr Iff.rfl rfl ?_).trans (ite_self s)
    have hlist : s.warn.list.map Entry.quieted = s.warn.list :=
      (List.map_congr_left fun e he => quieted_quiet (hpending e he).2).trans (List.map_id _)
    rw [hlist]
    rfl
  have hnone (sp : Speaker) : bestCandidate s sp = none := by
    have hwarn : warnCandidates s sp = [] := by
      unfold warnCandidates
      rw [List.filter_eq_nil_iff.2, List.filterMap_nil]
      intro e he
      cases sp
      · simp [(hpending e he).1]
      · simp [(hpending e he).2]
    have hqueue : queueCandidate s sp = [] := by
      cases sp
      · simp [queueCandidate, ChimeUnit.speaker, hfrontQueue]
      · simp [queueCandidate, ChimeUnit.speaker, hrearQueue]
    unfold bestCandidate
    rw [hwarn, hqueue]
    rfl
  have hidle (sp : Speaker) : chooseIfIdle sp s = s := by
    have hplay : (s.chime.speaker sp).play = none := by
      cases sp
      · exact hfront
      · exact hrear
    have hsame : s.withPlay sp none = s := by
      rw [← hplay]
      cases sp
      · rfl
      · rfl
    unfold chooseIfIdle choose
    rw [hplay, hnone]
    exact hsame
  unfold settleChimes chooseBoth
  dsimp only
  rw [hquiet, hidle, hidle]
  exact ite_self s

theorem stands_iff (s : State) (w : Fin 24) : stands s w = true ↔ w ∈ s.warn.list.map Entry.w := by
  simp [stands]

theorem keyOrLights_congr {s t : State} (h : t.warn.list.map Entry.w = s.warn.list.map Entry.w) :
    keyOrLights t = keyOrLights s := by
  have hstands (w : Fin 24) : stands t w = stands s w := by
    rw [Bool.eq_iff_iff, stands_iff, stands_iff, h]
  unfold keyOrLights
  rw [hstands, hstands]

theorem speaker_setSpeaker_other {sp o : Speaker} (h : o ≠ sp) (c : ChimeUnit) (x : SpeakerState) :
    (c.setSpeaker sp x).speaker o = c.speaker o := by
  cases sp with
  | front =>
    cases o with
    | front => exact absurd rfl h
    | rear => rfl
  | rear =>
    cases o with
    | front => rfl
    | rear => exact absurd rfl h

theorem takeCandidate_other {sp o : Speaker} (h : o ≠ sp) (c : Candidate) (s : State) :
    (takeCandidate sp c s).chime.speaker o = s.chime.speaker o := by
  cases c with
  | warning w cls n => exact speaker_setSpeaker_other h _ _
  | queue i cls n => exact (speaker_setSpeaker_other h _ _).trans (speaker_setSpeaker_other h _ _)

/-- A speaker that plays keeps its play while the other one makes a choice. -/
theorem chooseIfIdle_playing {sp o : Speaker} {s : State} (h : (s.chime.speaker o).play ≠ none) :
    ((chooseIfIdle sp s).chime.speaker o).play ≠ none := by
  by_cases ho : o = sp
  · subst ho
    obtain ⟨q, hq⟩ := Option.ne_none_iff_exists'.1 h
    unfold chooseIfIdle
    rw [hq]
    exact h
  · unfold chooseIfIdle choose
    split
    · split
      · have hother := speaker_setSpeaker_other ho s.chime { s.chime.speaker sp with play := none }
        exact fun hnone => h ((congrArg SpeakerState.play hother).symm.trans hnone)
      · rwa [takeCandidate_other ho]
    · exact h

theorem settleChimes_playing {o : Speaker} {s : State} (h : (s.chime.speaker o).play ≠ none) :
    ((settleChimes s).chime.speaker o).play ≠ none := by
  have hquiet : ((settleQuiet s).chime.speaker o).play ≠ none := by
    rw [settleQuiet_chime]
    exact h
  unfold settleChimes
  dsimp only
  split_ifs
  · exact chooseIfIdle_playing (chooseIfIdle_playing hquiet)
  · exact hquiet

/-- A write under way, the key or the lights, or a play keeps the part awake through the settling of an event. -/
theorem keepAwakeReason_settling {s : State} (h : nvBusy s = true ∨ keyOrLights s = true ∨ s.chime.front.play ≠ none
    ∨ s.chime.rear.play ≠ none) : keepAwakeReason (arbitrate (settleChimes s)) = true := by
  have hnv : nvBusy (arbitrate (settleChimes s)) = nvBusy s := by simp [nvBusy]
  have hkey : keyOrLights (arbitrate (settleChimes s)) = keyOrLights s := keyOrLights_congr (by simp)
  have hplay (o : Speaker) (ho : (s.chime.speaker o).play ≠ none) : chimeBusy (arbitrate (settleChimes s)) = true := by
    have hsome := Option.isSome_iff_ne_none.2 (settleChimes_playing ho)
    cases o
    · simp only [ChimeUnit.speaker] at hsome
      simp [chimeBusy, hsome]
    · simp only [ChimeUnit.speaker] at hsome
      simp [chimeBusy, hsome]
  unfold keepAwakeReason
  rw [hnv, hkey]
  rcases h with h | h | h | h
  · simp [h]
  · simp [h]
  · simp [hplay .front h]
  · simp [hplay .rear h]

theorem keepAwakeReason_arbitrate (s : State) : keepAwakeReason (arbitrate s) = keepAwakeReason s := by
  simp [keepAwakeReason, chimeBusy, nvBusy, keyOrLights, stands]

/-! ### PARK_DELAY_EXPIRY, AWAKE_LIMIT_EXPIRY and KEEP_AWAKE -/

/-- What settling leaves of the figures is what the event left. -/
theorem settle_figures {a s t : State} (h : SameFigures s t) : SameFigures s (settle a t) := by
  simpa [SameFigures, SameRecords] using h

/-- R161: the state as the park delay has run down. -/
def delayOut (s : State) : State := s.withPower fun u => { u with delay := some 0 }

theorem parkDelayExpiry_settled {s : State} (hawake : inAwake s = true) (hpark : s.power.park = none)
    (hdelay : s.power.delay.isSome = true) : exec .parkDelayExpiry s = .next (settle s (delayOut s)) :=
  if_pos (by simp [hawake, hpark, hdelay])

theorem limitOut_figures (s : State) : SameFigures s (limitOut s) := by
  unfold limitOut
  dsimp only
  split
  · simp [SameFigures, SameRecords]
  · simp [SameFigures, SameRecords]

theorem limitOut_idle {s : State} (h : s.power.park = none) :
    limitOut s = beginPark .limit (s.withPower fun u => { u with limit := some 0 }) := by
  unfold limitOut
  dsimp only
  rw [withPower_power, h]

theorem limitOut_power (s : State) : (limitOut s).power = { s.power with limit := some 0, park := some .limit } := by
  unfold limitOut
  dsimp only
  split
  · rfl
  · rfl

theorem restartDelay_awake {secs : Nat} {s : State} (h : inAwake s = true) :
    restartDelay secs s = s.withPower fun u => { u with delay := some (secs * 32768) } := if_pos h

theorem shownSeconds_whole (n : Nat) : shownSeconds (some (n * 32768)) = n := Nat.mul_div_cancel n (by decide)

/-- R162: KEEP AWAKE that is granted. -/
theorem keepAwake_granted {n : BitVec 16} {s : State} (halive : alive s = true) (hclock : s.clock.mainFault = false)
    (hstate : s.power.state = .awake) (hpark : s.power.park ≠ some .limit) : keepAwake n s =
      (s.withPower fun u => { u with delay := some (max 1 (min 600 n.toNat) * 32768) },
        ⟨.ok, enc 1 2 ++ enc 2 (max 1 (min 600 n.toNat))⟩) := by
  have hawake : inAwake s = true := by simp [inAwake, halive, hstate]
  unfold keepAwake
  rw [if_neg (by simp [hclock]), if_neg (by simp [hstate, hpark]), restartDelay_awake hawake]
  dsimp only
  rw [keepAwakeContent, withPower_power, shownSeconds_whole]
  dsimp only
  rw [hstate]
  rfl

/-- Settles O51. -/
theorem parkEntryBegins : Obligations.ParkEntryBegins := by
  intro s
  refine ⟨fun hawake hpark hdelay => ?delay, fun hawake hlimit => ?limit, fun p n hfree => ?keep⟩
  case delay =>
    have hdue : ParkDue (delayOut s) := ⟨hawake, hpark, rfl⟩
    have hpower : (arbitrate (settleChimes (delayOut s))).power.limit = s.power.limit := by simp [delayOut]
    have hsettled := settlePark_due hdue.settling
    rw [hpower] at hsettled
    refine ⟨settle s (delayOut s), parkDelayExpiry_settled hawake hpark hdelay,
      settle_figures (sameFigures_rfl s), by simp [delayOut], by simp [delayOut], fun hlimit => ?_, fun hlimit hreason => ?_,
      fun hlimit hreason => ?_⟩
    · exact settle_begun (hsettled.trans (if_pos hlimit))
    · have hidle : chimeBusy s = false := by
        unfold keepAwakeReason at hreason
        simp_all
      have hkeep : keepAwakeReason (arbitrate (settleChimes (delayOut s))) = false := by
        rw [settleChimes_idle (s := delayOut s) hidle, keepAwakeReason_arbitrate]
        exact hreason
      refine settle_begun (hsettled.trans ((if_neg hlimit).trans (if_neg ?_)))
      simp [hkeep]
    · have hkeep := keepAwakeReason_settling (s := delayOut s) hreason
      rw [(settle_park s (delayOut s)).1, hsettled, if_neg hlimit, if_pos hkeep]
      simpa [delayOut] using hpark
  case limit =>
    refine ⟨settle s (limitOut s), if_pos (by simp [hawake, hlimit]), settle_figures (limitOut_figures s), ?_, ?_, ?_,
      fun hpark => ?_⟩
    · rw [settle_power_limit, limitOut_power]
    · rw [settle_power_delay, limitOut_power]
    · rw [(settle_park s _).1, settlePark_parking]
      · simp [limitOut_power]
      · simp [limitOut_power]
    · rw [limitOut_idle hpark]
      exact (settle_beginPark s .limit _).2
  case keep =>
    have hrefused {st : Status} (hf : keepAwake n s = (s, ⟨st, keepAwakeContent s⟩)) :
        Answered p ⟨st, keepAwakeContent s⟩ s (settle s (serveKeepAwake p n s))
          ∧ (settle s (serveKeepAwake p n s)).power.delay = s.power.delay := by
      refine ⟨(settle_answered hfree hf rfl).1, ?_⟩
      rw [settle_power_delay, serveKeepAwake, answerAtOnce_free p _ s hfree, hf, deliver_power]
    have hfigures : SameFigures s (keepAwake n s).1 := by
      unfold keepAwake
      split_ifs
      · exact sameFigures_rfl s
      · exact sameFigures_rfl s
      · simp [SameFigures, SameRecords]
    refine ⟨settle s (serveKeepAwake p n s), rfl, settle_answered_figures hfree rfl hfigures, fun hclock => ?_,
      fun hclock hstate => ?_, fun hclock hstate hpark => ?_⟩
    · exact hrefused (if_pos hclock)
    · exact hrefused ((if_neg (by simp [hclock])).trans (if_pos hstate))
    · have hf := keepAwake_granted (n := n) hfree.1 hclock hstate hpark
      refine ⟨?_, (settle_answered hfree hf rfl).1⟩
      rw [serveKeepAwake, answerAtOnce_free p _ s hfree, hf, settle_power_notDue]
      · rw [deliver_power, withPower_power]
      · refine .inr ?_
        rw [deliver_power, withPower_power]
        have hpos : 0 < max 1 (min 600 n.toNat) * 32768 := by omega
        exact fun hzero => hpos.ne' (Option.some.inj hzero)

/-! ### PARKED entry -/

theorem parkReady_iff (s : State) : parkReady s = true ↔ inAwake s = true ∧ s.gauge.atRest = true ∧ nvBusy s = false
    ∧ s.clock.mainFault = false ∧ s.store.grant = none
    ∧ (s.power.park = some .limit ∨ (s.power.park = some .delay ∧ keepAwakeReason s = false)) := by
  unfold parkReady
  rcases s.power.park with _ | _ | _
  · simp
  · simp [and_assoc]
  · simp [and_assoc]

theorem enterParked_alive (raw : BitVec 16) (s : State) : alive (enterParked raw s) = false := by
  simp [alive, enterParked, parkPower]

theorem enterParked_clocked (raw : BitVec 16) (s : State) : clocked (enterParked raw s) = false := by
  rw [clocked, enterParked_alive]
  rfl

/-- With an empty list and quiet off there is nothing for the chime unit to settle. -/
theorem settleChimes_parked (raw : BitVec 16) (s : State) : settleChimes (enterParked raw s) = enterParked raw s := by
  have hquiet : settleQuiet (enterParked raw s) = enterParked raw s := if_pos rfl
  unfold settleChimes
  dsimp only
  rw [hquiet, enterParked_clocked, if_neg (by decide)]

theorem arbitrate_dead {s : State} (h : alive s = false) : arbitrate s = s := by
  unfold arbitrate
  rw [if_neg]
  simp [h]

theorem startWrite_dead {s : State} (h : clocked s = false) : startWrite s = s := by
  unfold startWrite
  rw [if_neg]
  simp [h]

theorem enterParked_notDue (raw : BitVec 16) (s : State) : ParkNotDue (enterParked raw s) := .inl PowerState.noConfusion

theorem settle_parked (a : State) (raw : BitVec 16) (s : State) :
    settle a (enterParked raw s) = countViews a.warn.list (workLamps (enterParked raw s)) := by
  unfold settle settleFrom
  rw [settleChimes_parked, arbitrate_dead (enterParked_alive raw s), settlePark_notDue _ (enterParked_notDue raw s),
    startWrite_dead (enterParked_clocked raw s)]

theorem lampStates_nil : lampStates [] = Vector.replicate 8 .off := by decide

theorem enterParked_waiting (raw : BitVec 16) (s : State) (q : Port) : waitingRequest (enterParked raw s) q = none := by
  have hlink (x : LinkState) : ∀ r, (parkLink x).slot ≠ .waiting r := by
    unfold parkLink
    rcases x.slot with _ | _ | _
    · simp
    · simp
    · simp
  unfold waitingRequest
  cases q with
  | front =>
    dsimp only
    split
    · rename_i r hr
      exact absurd hr (hlink _ r)
    · rfl
    · rfl
  | rear =>
    dsimp only
    split
    · rename_i r hr
      exact absurd hr (hlink _ r)
    · rfl
    · rfl
  | service => rfl

/-- Settles O52. -/
theorem parkedEntryEmptiesTheBlocks : Obligations.ParkedEntryEmptiesTheBlocks := by
  intro raw s
  refine ⟨fun hnot => if_neg (by simp [hnot]), fun hready => ?_⟩
  have hexec : exec (.parkedEntry raw) s = .next (settle s (enterParked raw s)) := if_pos hready
  have hsettle := settle_parked s raw s
  have hports := settle_portsKept s (enterParked raw s)
  have halive : alive (settle s (enterParked raw s)) = false := by rw [settle_alive, enterParked_alive]
  have hlamps : (settle s (enterParked raw s)).gauge = (workLamps (enterParked raw s)).gauge := by
    rw [hsettle, countViews_gauge]
  refine ⟨settle s (enterParked raw s), hexec, ?power, ?list, ?engineRun, ?runCount, ?limit, ?chime, ?done, ?waiting,
    ?output, ?rx, ?lamps, ?bulb, ?tests, fun g l => ⟨?coils, ?lamp⟩, ?fold, ?nv, ?clock, ?records, ?meas, ?settings,
    ?units, ?service⟩
  case power => rw [settle_power_notDue _ _ (enterParked_notDue raw s)]; simp [enterParked, parkChimes, parkPower]
  case list => rw [settle_list, settleChimes_parked]; rfl
  case engineRun => rw [settle_warn_engineRun]; rfl
  case runCount => rw [settle_warn_runCount]; rfl
  case limit => rw [settle_warn_limit]; simp [enterParked, parkWarnings, parkChimes]
  case chime => rw [settle_chime_eq, settleChimes_parked]; rfl
  case done =>
    intro hfront
    exact hports.front .chimeDone (chimeDoneAll_front hfront s)
  case waiting => exact fun q => (hports.waiting q).trans (enterParked_waiting raw s q)
  case output => rw [hports.service]; rfl
  case rx => rw [hports.service]; rfl
  case lamps => rw [hlamps]; exact lampStates_nil
  case bulb => rw [hlamps]; rfl
  case tests => rw [hlamps]; rfl
  case coils => rw [coilLevels, if_neg (by simp [halive])]
  case lamp => rw [lampOutput, halive, Bool.false_and]
  case fold => rw [settle_fold]; simp [enterParked, parkChimes]
  case nv => rw [hsettle]; simp [enterParked, parkChimes]
  case clock => rw [settle_clock]; simp [enterParked, parkChimes]
  case records => simp [SameRecords, enterParked, parkChimes]
  case meas => simp [enterParked, parkChimes]
  case settings => simp [enterParked, parkChimes]
  case units => simp [enterParked, parkChimes]
  case service => simp [enterParked, parkChimes]

end Sys2Proof.Proofs.Parking

/-! PROOFS. The seconds counter and the alarm (R151, R156). -/

namespace Sys2Proof.Proofs.SecondEnds

open Sys2Proof Sys2Proof.Machine Sys2Proof.Proofs.Basics Sys2Proof.Proofs.Gauges Sys2Proof.Proofs.Grants
  Sys2Proof.Proofs.Views Sys2Proof.Proofs.ServiceItems Sys2Proof.Proofs.Parking

/-! ### The end of a park entry -/

theorem returnEnded_gauges (s : State) (g : Fin 6) : (returnEnded s).gauge.gauges[g] =
    if s.gauge.live = true ∧ (s.gauge.gauges[g].mode = .ret ∨ s.gauge.gauges[g].mode = .off) then
      { s.gauge.gauges[g] with mode := .follow }
    else s.gauge.gauges[g] := by
  unfold returnEnded
  dsimp only
  by_cases hlive : s.gauge.live = true
  · rw [if_pos hlive, withGauges_gauge, mapGauges_get]
    refine if_congr ?_ rfl rfl
    rw [and_iff_right hlive]
  · rw [if_neg hlive, if_neg fun h => hlive h.1]

/-- R30, R164: a park entry that stood has ended. -/
theorem endParkEntry_ended {s t : State} (hgauge : t.gauge = s.gauge) (h : t.power.park.isSome = true) :
    ParkEntryEnded s (endParkEntry t) := by
  rw [endParkEntry, if_pos h]
  refine ⟨by simp, rfl, fun g => ?_⟩
  rw [returnEnded_gauges, withPower_gauge, hgauge]

theorem endParkEntry_power (s : State) : (endParkEntry s).power = { s.power with park := none } := by
  unfold endParkEntry
  split_ifs with h
  · simp
  · rw [Option.not_isSome_iff_eq_none] at h
    rw [← h]

/-- An ended park entry stays ended where none is about to begin. -/
theorem parkEntryEnded_settle {s t : State} (a : State) (h : ParkEntryEnded s t) (hdue : ParkNotDue t) :
    ParkEntryEnded s (settle a t) := by
  have hgauge := settle_gauge_notDue a t hdue
  obtain ⟨hpark, hrest, hgauges⟩ := h
  refine ⟨by rw [settle_power_notDue a t hdue, hpark], by rw [hgauge]; exact hrest, fun g => ?_⟩
  rw [hgauge]
  exact hgauges g

/-- While a park entry is in progress, settling begins none. -/
theorem settle_parking {a s : State} (h : s.power.park.isSome = true) : (settle a s).power = s.power
    ∧ (settle a s).gauge = { s.gauge with lamps := (settle a s).gauge.lamps } := by
  have hpark : settlePark (arbitrate (settleChimes s)) = arbitrate (settleChimes s) := settlePark_parking (by simpa using h)
  refine ⟨by rw [(settle_park a s).1, hpark]; simp, ?_⟩
  rw [settle, settleFrom_gauge_eq, hpark]
  simp

/-! ### The alarm -/

/-- The event leaves the measurements, the fold, the records, the settings, the unit choices and the periodic expiries. -/
structure BesideClock (s t : State) : Prop where
  meas     : t.meas = s.meas := by simp
  fold     : t.fold = s.fold := by simp
  store    : t.store = s.store := by simp
  settings : t.settings = s.settings := by simp
  units    : t.units = s.units := by simp
  timers   : t.timers = s.timers := by simp

theorem BesideClock.trans {s t u : State} (h : BesideClock s t) (k : BesideClock t u) : BesideClock s u :=
  ⟨k.meas.trans h.meas, k.fold.trans h.fold, k.store.trans h.store, k.settings.trans h.settings, k.units.trans h.units,
    k.timers.trans h.timers⟩

theorem BesideClock.ite {b : Prop} [Decidable b] {s t u : State} (h : BesideClock s t) (k : BesideClock s u) :
    BesideClock s (if b then t else u) := by
  split_ifs
  · exact h
  · exact k

/-- The alarm is at or below the counter. -/
def Rings (s : State) : Prop := ∃ a, s.clock.alarm = some a ∧ a ≤ s.clock.seconds

theorem checkAlarm_silent {s : State} (h : ¬ Rings s) : checkAlarm s = s := by
  unfold checkAlarm
  split
  · rfl
  · rename_i a ha
    exact if_neg fun hle => h ⟨a, ha, hle⟩

/-- R156: the state in which the alarm expires: it is none, and CLOCK is set. -/
def alarmTaken (s : State) : State := notifyBoth .clock (storeAlarm none s)

theorem checkAlarm_rings {s : State} (h : Rings s) : checkAlarm s = alarmRings (alarmTaken s) := by
  obtain ⟨a, ha, hle⟩ := h
  unfold checkAlarm
  rw [ha]
  exact if_pos hle

theorem alarmTaken_clock (s : State) : (alarmTaken s).clock = { s.clock with alarm := none, alarmCheck := 9 } := by
  rw [alarmTaken, notifyBoth_clock]
  rfl

theorem alarmTaken_beside (s : State) : BesideClock s (alarmTaken s) where
  meas := by simp [alarmTaken, storeAlarm]
  fold := by simp [alarmTaken, storeAlarm]
  store := by simp [alarmTaken, storeAlarm]
  settings := by simp [alarmTaken, storeAlarm]
  units := by simp [alarmTaken, storeAlarm]
  timers := by simp [alarmTaken, storeAlarm]

theorem alarmTaken_power (s : State) : (alarmTaken s).power = s.power := by simp [alarmTaken, storeAlarm]

theorem alarmTaken_gauge (s : State) : (alarmTaken s).gauge = s.gauge := by simp [alarmTaken, storeAlarm]

theorem alarmTaken_warn (s : State) : (alarmTaken s).warn = s.warn := by simp [alarmTaken, storeAlarm]

theorem alarmTaken_service (s : State) : (alarmTaken s).service = s.service := by simp [alarmTaken, storeAlarm]

theorem alarmTaken_notified (s : State) : Notified .clock (alarmTaken s) := notified_notifyBoth _ _

theorem alive_congr {s t : State} (h : t.power = s.power) : alive t = alive s := by
  unfold alive
  rw [h]

theorem wakeEnabled_alarm (s : State) : wakeEnabled s .alarm = true ↔ s.power.armed[9] ≠ 0 := by
  simp [wakeEnabled, wakeMode, WakeSource.toNat]

theorem alarmEndsPark_kept {s : State} (h : ¬ (s.power.park.isSome = true ∧ s.power.armed[9] ≠ 0)) : alarmEndsPark s = s :=
  if_neg fun hboth => h ⟨hboth.1, (wakeEnabled_alarm s).1 hboth.2⟩

theorem alarmEndsPark_ends {s : State} (hpark : s.power.park.isSome = true) (harmed : s.power.armed[9] ≠ 0) :
    alarmEndsPark s = endParkEntry (restartDelay parkDelayDefault s) :=
  if_pos ⟨hpark, (wakeEnabled_alarm s).2 harmed⟩

theorem alarmEndsPark_beside (s : State) : BesideClock s (alarmEndsPark s) := by
  unfold alarmEndsPark
  exact .ite {} {}

theorem alarmRings_alive {s : State} (h : alive s = true) : alarmRings s = alarmEndsPark (raise 20 false 0 s) := if_pos h

theorem alarmRings_dead {s : State} (h : alive s = false) :
    alarmRings s = fireSource .alarm (s.withClock fun c => { c with alarmRang := true }) := if_neg (by simp [h])

theorem alarmEndsPark_clock (s : State) : (alarmEndsPark s).clock = s.clock := by
  unfold alarmEndsPark
  split_ifs <;> simp

theorem alarmEndsPark_warn (s : State) : (alarmEndsPark s).warn = s.warn := by
  unfold alarmEndsPark
  split_ifs <;> simp

theorem alarmEndsPark_port (s : State) : (alarmEndsPark s).port = s.port := by
  unfold alarmEndsPark
  split_ifs <;> simp

theorem alarmEndsPark_service (s : State) : (alarmEndsPark s).service = s.service := by
  unfold alarmEndsPark
  split_ifs <;> simp

theorem alarmRings_beside (s : State) : BesideClock s (alarmRings s) := by
  unfold alarmRings
  exact .ite (.trans {} (alarmEndsPark_beside _)) {}

theorem alarmRings_clock (s : State) : (alarmRings s).clock = { s.clock with alarmRang := !alive s || s.clock.alarmRang } := by
  cases h : alive s
  · rw [alarmRings_dead h, fireSource_clock, withClock_clock]
    rfl
  · rw [alarmRings_alive h, alarmEndsPark_clock, raise_clock]
    rfl

theorem alarmRings_port (s : State) : (alarmRings s).port = s.port := by
  unfold alarmRings
  split_ifs <;> simp [alarmEndsPark_port]

theorem alarmRings_service (s : State) : (alarmRings s).service = s.service := by
  unfold alarmRings
  split_ifs <;> simp [alarmEndsPark_service]

/-- R155, R156: what the check of the alarm leaves as it was. -/
theorem checkAlarm_beside (s : State) : BesideClock s (checkAlarm s) ∧ (checkAlarm s).service = s.service := by
  by_cases h : Rings s
  · rw [checkAlarm_rings h, alarmRings_service, alarmTaken_service]
    exact ⟨(alarmTaken_beside s).trans (alarmRings_beside _), rfl⟩
  · rw [checkAlarm_silent h]
    exact ⟨{}, rfl⟩

/-- The check of the alarm writes the alarm of the clock at most. -/
theorem checkAlarm_clock (s : State) : (checkAlarm s).clock = { s.clock with
    alarm := (checkAlarm s).clock.alarm, alarmCheck := (checkAlarm s).clock.alarmCheck
    alarmRang := (checkAlarm s).clock.alarmRang } := by
  by_cases h : Rings s
  · rw [checkAlarm_rings h, alarmRings_clock, alarmTaken_clock]
  · rw [checkAlarm_silent h]

/-! ### The end of a second -/

theorem tickSecond_beside (s : State) : BesideClock s (tickSecond s) where
  meas := rfl
  fold := rfl
  store := rfl
  settings := rfl
  units := rfl
  timers := rfl

theorem dayChange_beside (old : Nat) (s : State) : BesideClock s (dayChange old s) := .ite {} {}

theorem dayChange_clock (old : Nat) (s : State) : (dayChange old s).clock = s.clock := by
  unfold dayChange
  split_ifs <;> simp

theorem dayChange_power (old : Nat) (s : State) : (dayChange old s).power = s.power := by
  unfold dayChange
  split_ifs <;> simp

theorem dayChange_gauge (old : Nat) (s : State) : (dayChange old s).gauge = s.gauge := by
  unfold dayChange
  split_ifs <;> simp

theorem dayChange_dead {old : Nat} {s : State} (h : alive s = false) : dayChange old s = s := by
  unfold dayChange
  rw [if_neg]
  simp [h]

theorem evaluate_items (s : State) (k : Fin 8) : (evaluate s).service.items[k] =
    evaluatedItem s.settings.work.items[k] (today s) s.service.items[k] := by
  rw [evaluate, evaluateFrom_service, evalItems_get]

/-- R142: a day change evaluates the items, and changes no more of them than their states. -/
theorem dayChange_items (old : Nat) (s : State) (k : Fin 8) : (dayChange old s).service.items[k] =
    { s.service.items[k] with state := ((dayChange old s).service.items[k]).state } := by
  unfold dayChange
  split_ifs
  · rw [evaluate_items]
    rfl
  · rfl

/-- The state that a second end leaves before the alarm is checked. -/
def secondDone (s : State) : State := dayChange (today s) (tickSecond s)

theorem secondDone_clock (s : State) : (secondDone s).clock = { s.clock with
    seconds := (s.clock.seconds + 1) % 4294967296
    prescaler := if s.clock.onRc then s.clock.prescaler else 0
    rcCount := if s.clock.onRc then 0 else s.clock.rcCount } := by
  rw [secondDone, dayChange_clock]
  rfl

theorem secondDone_power (s : State) : (secondDone s).power = s.power := dayChange_power _ _

theorem secondDone_gauge (s : State) : (secondDone s).gauge = s.gauge := dayChange_gauge _ _

theorem secondDone_dead {s : State} (h : alive s = false) : secondDone s = tickSecond s := dayChange_dead h

theorem recordSource_power (w : WakeSource) (s : State) : (recordSource w s).power = { s.power with
    lastWake := (if s.power.waking.isSome then s.power.lastWake else 0) ||| wakeBit w
    causeFront := s.power.causeFront ||| wakeBit w
    causeRear := s.power.causeRear ||| wakeBit w
    waking := if s.power.waking.isSome then s.power.waking else some 4000 } := rfl

theorem fireSource_enabled {w : WakeSource} {s : State} (hparked : parkedState s = true) (h : wakeEnabled s w = true) :
    fireSource w s = recordSource w (followFiring w s) := by
  unfold fireSource
  rw [if_pos]
  simp [hparked, h]

theorem notDue_of_parked {s : State} (h : parkedState s = true) : ParkNotDue s := by
  refine .inl fun hawake => ?_
  simp [parkedState, hawake] at h

/-- R165: the enabled alarm source fires. -/
theorem fireSource_alarm {s : State} (hparked : parkedState s = true) (harmed : s.power.armed[9] ≠ 0) :
    (fireSource .alarm s).power.waking.isSome = true ∧ (fireSource .alarm s).power.causeFront = s.power.causeFront ||| 0x0400
      ∧ (fireSource .alarm s).power.causeRear = s.power.causeRear ||| 0x0400 := by
  rw [fireSource_enabled hparked ((wakeEnabled_alarm s).2 harmed), recordSource_power]
  refine ⟨?_, rfl, rfl⟩
  dsimp only
  split_ifs with h
  · exact h
  · rfl

theorem dead_of_parked {s : State} (h : parkedState s = true) : alive s = false := by
  simp only [parkedState, Bool.and_eq_true, beq_iff_eq] at h
  simp [alive, h.2]

theorem alarmRings_parked {s : State} (hparked : parkedState s = true) (harmed : s.power.armed[9] ≠ 0) :
    (alarmRings s).power.waking.isSome = true ∧ (alarmRings s).power.causeFront = s.power.causeFront ||| 0x0400
      ∧ (alarmRings s).power.causeRear = s.power.causeRear ||| 0x0400 := by
  rw [alarmRings_dead (dead_of_parked hparked)]
  exact fireSource_alarm (s := s.withClock fun c => { c with alarmRang := true }) hparked harmed

/-- Settles O46. -/
theorem secondEndCountsAndRings : Obligations.SecondEndCountsAndRings := by
  intro s
  have hbeside : BesideClock s (checkAlarm (secondDone s)) :=
    ((tickSecond_beside s).trans (dayChange_beside _ _)).trans (checkAlarm_beside _).1
  have hports := settle_portsKept s (checkAlarm (secondDone s))
  refine ⟨settle s (checkAlarm (secondDone s)), rfl, ⟨?clock, fun hsilent => ?silent, fun hrings => ?rings⟩, fun k => ?items,
    ?_, ?_, ?_, ?_, ?_, ?_⟩
  case clock =>
    rw [settle_clock, checkAlarm_clock, secondDone_clock]
  case silent =>
    rw [settle_clock, checkAlarm_silent fun h => hsilent (by simpa [Rings, secondDone_clock] using h), secondDone_clock]
    exact ⟨rfl, rfl, rfl⟩
  case items =>
    rw [settle_service, (checkAlarm_beside _).2]
    exact dayChange_items _ _ k
  case rings =>
    have hrun : checkAlarm (secondDone s) = alarmRings (alarmTaken (secondDone s)) :=
      checkAlarm_rings (by simpa [Rings, secondDone_clock] using hrings)
    have hpower : (alarmTaken (secondDone s)).power = s.power := (alarmTaken_power _).trans (secondDone_power s)
    have hgauge : (alarmTaken (secondDone s)).gauge = s.gauge := (alarmTaken_gauge _).trans (secondDone_gauge s)
    have halive : alive (alarmTaken (secondDone s)) = alive s := alive_congr hpower
    have hclock := alarmRings_clock (alarmTaken (secondDone s))
    rw [alarmTaken_clock, secondDone_clock, halive] at hclock
    rw [hrun] at hports ⊢
    refine ⟨?alarm, ?check, ?notified, fun hal => ⟨?entry, ?held⟩, fun hawake hpark harmed => ?ends,
      fun hal hpark harmed => ?stays, fun hdead => ⟨?rang, ?view⟩, fun hparked harmed => ?wakes⟩
    case alarm => rw [settle_clock, hclock]
    case check => rw [settle_clock, hclock]
    case notified =>
      refine hports.notified ?_
      rw [Notified, alarmRings_port]
      exact alarmTaken_notified _
    case entry =>
      rw [alarmRings_alive (halive.trans hal)]
      refine (activeEntry_of_shown (settle_shown s _) 20).2 ?_
      rw [ActiveEntry, alarmEndsPark_warn]
      exact (activeEntry_raise 20 20 false 0 _).2 (.inl rfl)
    case held => rw [settle_clock, hclock, hal]; rfl
    case ends =>
      have hal : alive s = true := by simp_all [inAwake]
      have hraised : (raise 20 false 0 (alarmTaken (secondDone s))).power = s.power := by rw [raise_power, hpower]
      have hrestart : (restartDelay parkDelayDefault (raise 20 false 0 (alarmTaken (secondDone s)))).power =
          { s.power with delay := some 983040 } := by
        rw [restartDelay_awake ((inAwake_congr hraised).trans hawake), withPower_power, hraised]
        rfl
      have hring : alarmRings (alarmTaken (secondDone s)) =
          endParkEntry (restartDelay parkDelayDefault (raise 20 false 0 (alarmTaken (secondDone s)))) := by
        rw [alarmRings_alive (halive.trans hal), alarmEndsPark_ends]
        · rwa [hraised]
        · rwa [hraised]
      have hended : (alarmRings (alarmTaken (secondDone s))).power = { s.power with park := none, delay := some 983040 } := by
        rw [hring, endParkEntry_power, hrestart]
      have hdue : ParkNotDue (alarmRings (alarmTaken (secondDone s))) := .inr (by rw [hended]; simp)
      refine ⟨parkEntryEnded_settle s ?_ hdue, (settle_power_notDue s _ hdue).trans hended⟩
      rw [hring]
      refine endParkEntry_ended ?_ ?_
      · rw [restartDelay_gauge, raise_gauge, hgauge]
      · rw [hrestart]
        exact hpark
    case stays =>
      have hraised : (raise 20 false 0 (alarmTaken (secondDone s))).power = s.power := by rw [raise_power, hpower]
      have hring : alarmRings (alarmTaken (secondDone s)) = raise 20 false 0 (alarmTaken (secondDone s)) := by
        rw [alarmRings_alive (halive.trans hal), alarmEndsPark_kept]
        rw [hraised]
        exact fun h => h.2 harmed
      rw [hring]
      have hkept := settle_parking (a := s) (s := raise 20 false 0 (alarmTaken (secondDone s))) (by rw [hraised]; exact hpark)
      rw [raise_gauge, hgauge, hraised] at hkept
      exact hkept
    case rang => rw [settle_clock, hclock, hdead]; rfl
    case view =>
      refine (settle_shown s _).trans (SameShown.of_warn (s := s) ?_)
      rw [alarmRings_dead (halive.trans hdead), fireSource_warn, withClock_warn, alarmTaken_warn, secondDone_dead hdead]
      rfl
    case wakes =>
      have hsame : parkedState (alarmTaken (secondDone s)) = parkedState s := by
        unfold parkedState
        rw [hpower]
      have hwoken := alarmRings_parked (hsame.trans hparked) (by rwa [hpower])
      rw [settle_power_waking, settle_power_causeFront, settle_power_causeRear]
      rwa [hpower] at hwoken
  · rw [settle_meas, hbeside.meas]
  · rw [settle_fold, hbeside.fold]
  · simp [SameRecords, hbeside.store]
  · rw [settle_settings, hbeside.settings]
  · rw [settle_units, hbeside.units]
  · rw [settle_timers, hbeside.timers]

end Sys2Proof.Proofs.SecondEnds

/-! PROOFS. SET CLOCK and TRIM CLOCK: the counter, the alarm and the shift of the start stamps (R152, R153). -/

namespace Sys2Proof.Proofs.ClockSets

open Sys2Proof Sys2Proof.Machine Sys2Proof.Proofs.Basics Sys2Proof.Proofs.Grants Sys2Proof.Proofs.CommandFolds
  Sys2Proof.Proofs.RecordCommands Sys2Proof.Proofs.SecondEnds

/-! ### The shift of the start stamps -/

/-- R152: the fields of a counting record with its start stamp moved. -/
def shiftedBody (delta : Nat) (x : TripBody) : TripBody := if x.damaged then x else x.shift delta

theorem shiftTrip_trip (delta : Nat) (k o : TripNo) (r : RecordStore) :
    ((shiftTrip delta k r).trip o).body = if o = k then shiftedBody delta (r.trip o).body else (r.trip o).body := by
  unfold shiftTrip shiftedBody
  dsimp only
  by_cases ho : o = k
  · subst ho
    rw [if_pos rfl]
    by_cases hdamaged : (r.trip o).body.damaged = true
    · rw [if_pos hdamaged, if_pos hdamaged]
    · rw [if_neg hdamaged, if_neg hdamaged, trip_setTrip_same]
      rfl
  · rw [if_neg ho]
    split_ifs
    · rfl
    · rw [trip_setTrip_other _ _ _ _ ho]

theorem shiftTrip_odo (delta : Nat) (k : TripNo) (r : RecordStore) : (shiftTrip delta k r).odo = r.odo := by
  unfold shiftTrip
  dsimp only
  split_ifs
  · rfl
  · exact setTrip_odo _ _ _

theorem shiftTrip_charter (delta : Nat) (k : TripNo) (r : RecordStore) : (shiftTrip delta k r).charter = r.charter := by
  unfold shiftTrip
  dsimp only
  split_ifs
  · rfl
  · exact setTrip_charter _ _ _

theorem shiftCharter_trip (delta : Nat) (o : TripNo) (r : RecordStore) : (shiftCharter delta r).trip o = r.trip o := by
  unfold shiftCharter
  split_ifs
  · cases o <;> rfl
  · rfl

theorem shiftCharter_odo (delta : Nat) (r : RecordStore) : (shiftCharter delta r).odo = r.odo := by
  unfold shiftCharter
  split_ifs
  · rfl
  · rfl

theorem shiftCharter_charter (delta : Nat) (r : RecordStore) : (shiftCharter delta r).charter = { r.charter with
    body := if r.charter.phase = .running then shiftedBody delta r.charter.body else r.charter.body
    check := (shiftCharter delta r).charter.check } := by
  unfold shiftCharter shiftedBody
  by_cases hphase : r.charter.phase = .running
  · by_cases hdamaged : r.charter.body.damaged = true
    · rw [if_neg (by simp [hdamaged]), if_pos hphase, if_pos hdamaged]
    · rw [if_pos ⟨hphase, Bool.eq_false_iff.2 hdamaged⟩, if_pos hphase, if_neg hdamaged]
      rfl
  · rw [if_neg fun h => hphase h.1, if_neg hphase]

/-- R152: the records with their start stamps moved. -/
def shiftedStore (delta : Nat) (r : RecordStore) : RecordStore :=
  shiftCharter delta (shiftTrip delta .p (shiftTrip delta .b (shiftTrip delta .a r)))

theorem shiftStamps_store (delta : Nat) (s : State) : (shiftStamps delta s).store = shiftedStore delta s.store := rfl

theorem shiftedStore_trip (delta : Nat) (r : RecordStore) (k : TripNo) :
    ((shiftedStore delta r).trip k).body = shiftedBody delta (r.trip k).body := by
  rw [shiftedStore, shiftCharter_trip]
  cases k <;> simp [shiftTrip_trip]

theorem shiftedStore_odo (delta : Nat) (r : RecordStore) : (shiftedStore delta r).odo = r.odo := by
  simp only [shiftedStore, shiftCharter_odo, shiftTrip_odo]

theorem shiftedStore_charter (delta : Nat) (r : RecordStore) : (shiftedStore delta r).charter = { r.charter with
    body := if r.charter.phase = .running then shiftedBody delta r.charter.body else r.charter.body
    check := (shiftedStore delta r).charter.check } := by
  have hcharter := shiftCharter_charter delta (shiftTrip delta .p (shiftTrip delta .b (shiftTrip delta .a r)))
  simp only [shiftTrip_charter] at hcharter
  exact hcharter

/-! ### The alarm after the counter has been written -/

theorem alarmRings_alarm (s : State) : (alarmRings s).clock.alarm = s.clock.alarm := by rw [alarmRings_clock]

theorem checkAlarm_none {s : State} (h : s.clock.alarm = none) : (checkAlarm s).clock.alarm = none := by
  rw [checkAlarm_silent]
  · exact h
  · rintro ⟨a, ha, -⟩
    rw [h] at ha
    cases ha

theorem checkAlarm_some {s : State} {a : Nat} (h : s.clock.alarm = some a) :
    (checkAlarm s).clock.alarm = if a ≤ s.clock.seconds then none else some a := by
  by_cases hle : a ≤ s.clock.seconds
  · rw [checkAlarm_rings ⟨a, h, hle⟩, alarmRings_alarm, alarmTaken_clock, if_pos hle]
  · rw [checkAlarm_silent, if_neg hle, h]
    rintro ⟨b, hb, hble⟩
    rw [h, Option.some.injEq] at hb
    exact hle (hb ▸ hble)

theorem checkAlarm_portsKept (s : State) : PortsKept s (checkAlarm s) := by
  by_cases h : Rings s
  · rw [checkAlarm_rings h]
    have hport : (storeAlarm none s).port = s.port := rfl
    exact ((notifyBoth_portsKept .clock _).after hport).before (alarmRings_port _)
  · rw [checkAlarm_silent h]
    exact .rfl' s

/-! ### The work of the two commands -/

theorem clockContent_congr {s t : State} (h : t.clock = s.clock) : clockContent t = clockContent s := by
  simp only [clockContent, today, alarmField, h]

/-- R152: sealed records pass the checks that come before a shift. -/
theorem verifyShifted_sealed {s : State} (h : RecordsSealed s.store) : verifyShifted s = s := by
  obtain ⟨-, ha, hb, hp, hcharter⟩ := h
  unfold verifyShifted
  dsimp only
  rw [verifyTrip_sealed .a s ha, verifyTrip_sealed .b s hb, verifyTrip_sealed .p s hp,
    verifyCharter_sealed s hcharter, ite_self]

/-- R152, R153: what comes after the counter has been written. -/
def clockWritten (s : State) : State := notifyBoth .clock (checkAlarm s)

/-- What a granted clock command leaves; `v` is the state in which it has written the counter. -/
structure ClockMoved (p : Port) (delta : Nat) (v s t : State) : Prop where
  trips    : ∀ k, (t.store.trip k).body = shiftedBody delta (s.store.trip k).body
  charter  : t.store.charter = { s.store.charter with
    body := if s.store.charter.phase = .running then shiftedBody delta s.store.charter.body else s.store.charter.body
    check := t.store.charter.check }
  odo      : t.store.odo = s.store.odo
  grant    : t.store.grant = none
  clock    : t.clock = { v.clock with
    alarm := t.clock.alarm, alarmCheck := t.clock.alarmCheck, alarmRang := t.clock.alarmRang }
  alarm    : ∀ a, v.clock.alarm = some a → t.clock.alarm = if a ≤ v.clock.seconds then none else some a
  noAlarm  : v.clock.alarm = none → t.clock.alarm = none
  notified : Notified .clock t
  meas     : t.meas = s.meas
  fold     : t.fold = s.fold
  settings : t.settings = s.settings
  units    : t.units = s.units
  timers   : t.timers = s.timers
  answered : Answered p ⟨.ok, clockContent t⟩ s t

theorem clockMoved_settled {p : Port} {q : Request} {early : State → Option Status} {work : Bool → State → Answer} {s v : State}
    {delta : Nat} (h : StoreFree p s) (he : early s = none)
    (hw : workAtOnce p q work s = (clockWritten v, clockReply .ok (clockWritten v)))
    (hv : BesideClock (shiftStamps delta (granted p q s)) v) (hports : PortsKept (granted p q s) v) :
    ClockMoved p delta v s (settle s (underGrant p q early work s)) := by
  have hkept : PortsKept (granted p q s) (clockWritten v) :=
    (hports.trans (checkAlarm_portsKept v)).trans (notifyBoth_portsKept _ _)
  have hdone := underGrant_done (work := work) h he (by rw [hw]; exact hkept)
  rw [hw] at hdone
  generalize settle s (underGrant p q early work s) = t at hdone ⊢
  have hbeside : BesideClock (shiftStamps delta (granted p q s)) (clockWritten v) := by
    refine (hv.trans (checkAlarm_beside v).1).trans ?_
    unfold clockWritten
    exact {}
  have hstore : (clockWritten v).store = shiftedStore delta (granted p q s).store := hbeside.store
  obtain ⟨hodo, -, -, -, hcharter, -, -⟩ := hdone.records
  rw [hstore] at hodo hcharter
  have hclock : t.clock = (checkAlarm v).clock := by rw [hdone.clock, clockWritten, notifyBoth_clock]
  refine ⟨fun k => ?_, ?_, ?_, hdone.grant, ?_, fun a ha => ?_, fun ha => ?_, hdone.ports _ (notified_notifyBoth _ _), ?_, ?_, ?_,
    ?_, ?_, ?_⟩
  · rw [trip_of_records hdone.records, hstore, shiftedStore_trip, trip_of_records (granted_reading p q s).records]
  · have hcharters := shiftedStore_charter delta (granted p q s).store
    rw [← hcharter, granted_charter] at hcharters
    exact hcharters
  · rw [hodo, shiftedStore_odo, granted_odo]
  · rw [hclock]
    exact checkAlarm_clock v
  · rw [hclock, checkAlarm_some ha]
  · rw [hclock, checkAlarm_none ha]
  · rw [hdone.meas, hbeside.meas]
    exact granted_meas p q s
  · rw [hdone.fold, hbeside.fold]
    exact granted_fold p q s
  · rw [hdone.settings, hbeside.settings]
    exact granted_settings p q s
  · rw [hdone.units, hbeside.units]
    exact granted_units p q s
  · rw [hdone.timers, hbeside.timers]
    exact granted_timers p q s
  · rw [clockContent_congr hdone.clock]
    exact hdone.answered

/-- R152: the state in which SET CLOCK has written the counter. -/
def clockSet (n : Nat) (s : State) : State := handClockSet (writeCounter n (shiftStamps (sinceStart n s.clock.seconds) s))

theorem handClockSet_beside (s : State) : BesideClock s (handClockSet s) := .ite {} {}

theorem handClockSet_portsKept (s : State) : PortsKept s (handClockSet s) :=
  .ite ((evaluateFrom_portsKept _ _ _).after (withClock_port _ _)) (evaluate_portsKept s)

theorem handClockSet_clock (s : State) : (handClockSet s).clock = { s.clock with unset := false } := by
  unfold handClockSet
  split_ifs with h
  · rw [firstSet_clock, withClock_clock]
  · rw [evaluate_clock, ← Bool.eq_false_iff.2 h]

theorem writeCounter_beside (n : Nat) (s : State) : BesideClock s (writeCounter n s) where
  meas := rfl
  fold := rfl
  store := rfl
  settings := rfl
  units := rfl
  timers := rfl

theorem clockSet_clock (n : Nat) (s : State) : (clockSet n s).clock = { s.clock with
    seconds := n
    unset := false
    prescaler := if s.clock.onRc then s.clock.prescaler else 0
    rcCount := if s.clock.onRc then 0 else s.clock.rcCount } := handClockSet_clock _

/-- R153: the state in which TRIM CLOCK has written the counter. -/
def clockTrimmed (n : Int) (s : State) : State :=
  evaluate ((shiftStamps (n % clockModulus).toNat s).withClock fun c =>
    { c with seconds := (c.seconds + (n % clockModulus).toNat) % clockModulus })

theorem clockTrimmed_beside (n : Int) (s : State) :
    BesideClock (shiftStamps (n % clockModulus).toNat s) (clockTrimmed n s) where
  meas := evaluate_meas _
  fold := evaluate_fold _
  store := evaluate_store _
  settings := evaluate_settings _
  units := evaluate_units _
  timers := evaluate_timers _

theorem clockTrimmed_clock (n : Int) (s : State) : (clockTrimmed n s).clock = { s.clock with
    seconds := (s.clock.seconds + (n % clockModulus).toNat) % clockModulus } := evaluate_clock _

theorem workSetClock_front {q : Request} {n : BitVec 32} {s : State} (hsealed : RecordsSealed s.store)
    (hfault : s.clock.mainFault = false) {p : Port} (hp : p ≠ .rear) :
    workAtOnce p q (workSetClock p n) s = (clockWritten (clockSet n.toNat (granted p q s)),
      clockReply .ok (clockWritten (clockSet n.toNat (granted p q s)))) := by
  rw [workAtOnce, hfault, workSetClock, if_neg (by decide)]
  dsimp only
  rw [verifyShifted_sealed (granted_sealed hsealed), if_neg hp]
  rfl

theorem clockReply_granted (st : Status) (p : Port) (q : Request) (s : State) :
    clockReply st (granted p q s) = ⟨st, clockContent s⟩ := congrArg (Reply.mk st) (clockContent_congr (granted_clock p q s))

theorem workSetClock_rear {q : Request} {n : BitVec 32} {s : State} (hsealed : RecordsSealed s.store)
    (hfault : s.clock.mainFault = false) : workAtOnce .rear q (workSetClock .rear n) s =
      (granted .rear q s, ⟨.denied, clockContent s⟩) := by
  rw [workAtOnce, hfault, workSetClock, if_neg (by decide)]
  dsimp only
  rw [verifyShifted_sealed (granted_sealed hsealed), if_pos rfl, clockReply_granted]

section
variable {q : Request} {n : BitVec 8} {s : State} (hsealed : RecordsSealed s.store) (hfault : s.clock.mainFault = false)
include hsealed hfault

theorem workTrimClock_rear : workAtOnce .rear q (workTrimClock .rear n) s = (granted .rear q s, ⟨.denied, clockContent s⟩) := by
  rw [workAtOnce, hfault, workTrimClock, if_neg (by decide)]
  dsimp only
  rw [verifyShifted_sealed (granted_sealed hsealed), if_pos rfl, clockReply_granted]

theorem workTrimClock_unset {p : Port} (hp : p ≠ .rear) (hunset : s.clock.unset = true) :
    workAtOnce p q (workTrimClock p n) s = (granted p q s, ⟨.clockUnset, clockContent s⟩) := by
  rw [workAtOnce, hfault, workTrimClock, if_neg (by decide)]
  dsimp only
  rw [verifyShifted_sealed (granted_sealed hsealed), if_neg hp, if_pos (by rw [granted_clock, hunset]), clockReply_granted]

theorem workTrimClock_done {p : Port} (hp : p ≠ .rear) (hunset : s.clock.unset = false) :
    workAtOnce p q (workTrimClock p n) s = (clockWritten (clockTrimmed (trimAmount n) (granted p q s)),
      clockReply .ok (clockWritten (clockTrimmed (trimAmount n) (granted p q s)))) := by
  rw [workAtOnce, hfault, workTrimClock, if_neg (by decide)]
  dsimp only
  rw [verifyShifted_sealed (granted_sealed hsealed), if_neg hp, if_neg (by rw [granted_clock, hunset]; decide)]
  rfl

end

/-- The start stamp moves by the delta, of either sign. -/
theorem shiftedBody_eq {delta : Nat} {d : Int} (h : (delta : Int) % 4294967296 = d % 4294967296) (x : TripBody) :
    shiftedBody delta x =
      if x.damaged then x else { x with start := (((x.start : Int) + d) % 4294967296).toNat } := by
  unfold shiftedBody
  refine if_congr Iff.rfl rfl ?_
  have hstart : (x.start + delta) % 4294967296 = (((x.start : Int) + d) % 4294967296).toNat := by omega
  rw [← hstart]
  rfl

theorem sinceStart_mod (n seconds : Nat) :
    ((sinceStart n seconds : Nat) : Int) % 4294967296 = ((n : Int) - seconds) % 4294967296 := by
  unfold sinceStart clockModulus
  omega

theorem trimDelta_mod (n : Int) : ((n % clockModulus).toNat : Int) % 4294967296 = n % 4294967296 := by
  unfold clockModulus
  omega

theorem trimmedSeconds (seconds : Nat) (n : Int) : (seconds + (n % clockModulus).toNat) % clockModulus =
    (((seconds : Int) + n) % 4294967296).toNat := by
  unfold clockModulus
  omega

theorem earlyTrimClock_none {trim : BitVec 8} {s : State} (hzero : trim ≠ 0) (hclock : s.clock.mainFault = false) :
    earlyTrimClock trim s = none := (if_neg hzero).trans (early_none_clock hclock)

/-- R152: the start stamp of a record that is not damaged has moved by a delta of either sign. -/
def movedBody (d : Int) (x : TripBody) : TripBody :=
  if x.damaged then x else { x with start := (((x.start : Int) + d) % 4294967296).toNat }

/-- What the reader sees of a clock command that has moved the counter by a delta of either sign. -/
def StampsMoved (p : Port) (d : Int) (s t : State) : Prop :=
  (∀ k, (t.store.trip k).body = movedBody d (s.store.trip k).body)
  ∧ t.store.charter = { s.store.charter with
      body := if s.store.charter.phase = .running then movedBody d s.store.charter.body else s.store.charter.body
      check := t.store.charter.check }
  ∧ t.store.odo = s.store.odo ∧ t.store.grant = none ∧ t.clock.onRc = s.clock.onRc ∧ t.clock.divisor = s.clock.divisor
  ∧ (∀ a, s.clock.alarm = some a → t.clock.alarm = if a ≤ t.clock.seconds then none else some a)
  ∧ (s.clock.alarm = none → t.clock.alarm = none) ∧ Notified .clock t
  ∧ t.meas = s.meas ∧ t.fold = s.fold ∧ t.settings = s.settings ∧ t.units = s.units ∧ t.timers = s.timers
  ∧ Answered p ⟨.ok, clockContent t⟩ s t

theorem ClockMoved.stamps {p : Port} {delta : Nat} {d : Int} {v s t : State} (h : ClockMoved p delta v s t)
    (hd : (delta : Int) % 4294967296 = d % 4294967296) (hrc : v.clock.onRc = s.clock.onRc)
    (hdivisor : v.clock.divisor = s.clock.divisor) (halarm : v.clock.alarm = s.clock.alarm) : StampsMoved p d s t := by
  have hbody (x : TripBody) : shiftedBody delta x = movedBody d x := shiftedBody_eq hd x
  have hseconds : t.clock.seconds = v.clock.seconds := by rw [h.clock]
  refine ⟨fun k => (h.trips k).trans (hbody _), ?_, h.odo, h.grant, by rw [h.clock, hrc], by rw [h.clock, hdivisor],
    fun a ha => ?_, fun hnone => h.noAlarm (halarm.trans hnone), h.notified, h.meas, h.fold, h.settings, h.units, h.timers,
    h.answered⟩
  · have hcharter := h.charter
    rwa [hbody] at hcharter
  · rw [hseconds]
    exact h.alarm a (halarm.trans ha)

/-- Settles O47. -/
theorem clockSetsShiftTheRecords : Obligations.ClockSetsShiftTheRecords := by
  intro p n trim s hfree hsealed
  refine ⟨⟨settle s (serveSetClock p n s), rfl, ?set⟩, ⟨settle s (serveTrimClock p trim s), rfl, ?trim⟩⟩
  case set =>
    refine ite_intro (fun hfault => ?_) fun hfault => ite_intro (fun hrear => ?_) fun hfront => ?_
    · exact refused_settled hfree (early_fault_clock hfault)
    · subst hrear
      have hclock := Bool.eq_false_iff.2 hfault
      obtain ⟨hanswered, hfigures, -⟩ := underGrant_unchanged hfree (early_none_clock hclock)
        (workSetClock_rear (q := .setClock n) (n := n) hsealed hclock)
      exact ⟨hanswered, hfigures⟩
    · have hclock := Bool.eq_false_iff.2 hfault
      have hmoved := clockMoved_settled hfree (early_none_clock hclock)
        (workSetClock_front (q := .setClock n) (n := n) hsealed hclock hfront)
        ((BesideClock.trans (writeCounter_beside _ _) (handClockSet_beside _)))
        ((handClockSet_portsKept _).after rfl)
      have hgranted : (granted p (.setClock n) s).clock = s.clock := granted_clock p _ s
      refine ⟨hmoved.stamps ?_ ?_ ?_ ?_, ?_, ?_, ?_, ?_⟩
      · rw [hgranted]
        exact sinceStart_mod _ _
      · rw [clockSet_clock, hgranted]
      · rw [clockSet_clock, hgranted]
      · rw [clockSet_clock, hgranted]
      · rw [serveSetClock, hmoved.clock, clockSet_clock]
      · rw [serveSetClock, hmoved.clock, clockSet_clock]
      · rw [serveSetClock, hmoved.clock, clockSet_clock, hgranted]
      · rw [serveSetClock, hmoved.clock, clockSet_clock, hgranted]
  case trim =>
    refine ite_intro (fun hzero => ?_) fun hzero => ite_intro (fun hfault => ?_) fun hfault =>
      ite_intro (fun hrear => ?_) fun hfront => ite_intro (fun hunset => ?_) fun hunset => ?_
    · exact refused_settled hfree (if_pos hzero)
    · exact refused_settled hfree ((if_neg hzero).trans (early_fault_clock hfault))
    · subst hrear
      have hclock := Bool.eq_false_iff.2 hfault
      obtain ⟨hanswered, hfigures, -⟩ := underGrant_unchanged hfree (earlyTrimClock_none hzero hclock)
        (workTrimClock_rear (q := .trimClock trim) (n := trim) hsealed hclock)
      exact ⟨hanswered, hfigures⟩
    · have hclock := Bool.eq_false_iff.2 hfault
      obtain ⟨hanswered, hfigures, -⟩ := underGrant_unchanged hfree (earlyTrimClock_none hzero hclock)
        (workTrimClock_unset (q := .trimClock trim) (n := trim) hsealed hclock hfront hunset)
      exact ⟨hanswered, hfigures⟩
    · have hclock := Bool.eq_false_iff.2 hfault
      have hset := Bool.eq_false_iff.2 hunset
      have hmoved := clockMoved_settled hfree (earlyTrimClock_none hzero hclock)
        (workTrimClock_done (q := .trimClock trim) (n := trim) hsealed hclock hfront hset)
        (clockTrimmed_beside _ _) ((evaluate_portsKept _).after rfl)
      have hgranted : (granted p (.trimClock trim) s).clock = s.clock := granted_clock p _ s
      refine ⟨hmoved.stamps (trimDelta_mod _) ?_ ?_ ?_, ?_, ?_, ?_, ?_⟩
      · rw [clockTrimmed_clock, hgranted]
      · rw [clockTrimmed_clock, hgranted]
      · rw [clockTrimmed_clock, hgranted]
      · rw [serveTrimClock, hmoved.clock, clockTrimmed_clock, hgranted]
        exact trimmedSeconds _ _
      · rw [serveTrimClock, hmoved.clock, clockTrimmed_clock, hgranted, hset]
      · rw [serveTrimClock, hmoved.clock, clockTrimmed_clock, hgranted]
      · rw [serveTrimClock, hmoved.clock, clockTrimmed_clock, hgranted]

end Sys2Proof.Proofs.ClockSets

/-! PROOFS. The clock supervisor: the sub oscillator lost and back, the calibration, and the main-clock fault (R157 to R159). -/

namespace Sys2Proof.Proofs.Supervisor

open Sys2Proof Sys2Proof.Machine Sys2Proof.Proofs.Basics Sys2Proof.Proofs.Grants Sys2Proof.Proofs.Folds
  Sys2Proof.Proofs.RecordReads Sys2Proof.Proofs.Views Sys2Proof.Proofs.Warnings Sys2Proof.Proofs.Chimes
  Sys2Proof.Proofs.Parking Sys2Proof.Proofs.SecondEnds

/-! ### The marks as the records carry them -/

theorem markCharter_charter (m : HeldMarks) (r : RecordStore) : (markCharter m r).charter =
    { r.charter with body := (markCharter m r).charter.body, check := (markCharter m r).charter.check } := by
  unfold markCharter
  split_ifs
  · rfl
  · rfl

theorem markedStore_sameCharter (m : HeldMarks) (r : RecordStore) : (markedStore m r).charter =
    { r.charter with body := (markedStore m r).charter.body, check := (markedStore m r).charter.check } := by
  have hcharter := markCharter_charter m (markTrip m .p (markTrip m .b (markTrip m .a r)))
  simp only [markTrip_charter] at hcharter
  exact hcharter

theorem markedStore_odo (m : HeldMarks) (r : RecordStore) : (markedStore m r).odo = r.odo := by
  simp only [markedStore, markCharter_odo, markTrip_odo]

theorem markTrip_held (m : HeldMarks) (k : TripNo) (r : RecordStore) : (markTrip m k r).held = r.held := by
  unfold markTrip
  dsimp only
  split_ifs
  · rfl
  · cases k <;> rfl

theorem markedStore_held (m : HeldMarks) (r : RecordStore) : (markedStore m r).held = r.held := by
  have hcharter (q : RecordStore) : (markCharter m q).held = q.held := by
    unfold markCharter
    split_ifs
    · rfl
    · rfl
  simp only [markedStore, hcharter, markTrip_held]

theorem markedBody_time (x : TripBody) : markedBody ⟨true, false⟩ x = if x.damaged then x else { x with timeDegraded := true } := by
  simp [markedBody, TripBody.mark]

theorem markedBody_fuel (x : TripBody) : markedBody ⟨false, true⟩ x = if x.damaged then x else { x with fuelIncomplete := true } := by
  simp [markedBody, TripBody.mark]

/-- R64: what handing marks to the record store leaves. -/
structure MarksHanded (m : HeldMarks) (s t : State) : Prop where
  odo     : t.store.odo = s.store.odo
  charter : t.store.charter = { s.store.charter with body := t.store.charter.body, check := t.store.charter.check }
  held    : s.store.grant.isSome = true → t.store.held =
    ⟨s.store.held.timeDegraded || m.timeDegraded, s.store.held.fuelIncomplete || m.fuelIncomplete⟩
  trips   : s.store.grant = none → ∀ k, (t.store.trip k).body = markedBody m (s.store.trip k).body
  running : s.store.grant = none → t.store.charter.body =
    if s.store.charter.phase = .running then markedBody m s.store.charter.body else s.store.charter.body

theorem handMarks_handed (m : HeldMarks) (s : State) : MarksHanded m s (handMarks m s) := by
  unfold handMarks
  by_cases hgrant : s.store.grant.isSome = true
  · rw [if_pos hgrant]
    have hsome (h : s.store.grant = none) : False := by simp [h] at hgrant
    exact ⟨rfl, rfl, fun _ => rfl, fun h => (hsome h).elim, fun h => (hsome h).elim⟩
  · rw [if_neg hgrant]
    exact ⟨markedStore_odo m s.store, markedStore_sameCharter m s.store, fun h => absurd h hgrant,
      fun _ => markedStore_trip m s.store, fun _ => markedStore_charter m s.store⟩

theorem MarksHanded.of_store {m : HeldMarks} {s u t v : State} (h : MarksHanded m u t) (hs : u.store = s.store)
    (ht : SameRecords t v) : MarksHanded m s v := by
  have hbodies (k : TripNo) := RecordCommands.trip_of_records ht k
  obtain ⟨hodo, -, -, -, hcharter, hheld, -⟩ := ht
  obtain ⟨kodo, kcharter, kheld, ktrips, krunning⟩ := h
  rw [hs] at kodo kcharter kheld ktrips krunning
  refine ⟨hodo.trans kodo, ?_, fun hg => hheld.trans (kheld hg), fun hg k => ?_, fun hg => ?_⟩
  · rw [hcharter]
    exact kcharter
  · rw [hbodies]
    exact ktrips hg k
  · rw [hcharter]
    exact krunning hg

/-! ### SUB_MISSING and SUB_BACK -/

/-- R157: the seconds source has become RC, and CLOCK is set. -/
def subLost (s : State) : State :=
  notifyBoth .clock (s.withClock fun c => { c with onRc := true, rcCount := 0, prescaler := 0, subGood := 0 })

/-- R157: the seconds source has become SUB, and CLOCK is set. -/
def subFound (s : State) : State :=
  notifyBoth .clock (s.withClock fun c => { c with onRc := false, prescaler := 0, subGap := 0 })

theorem subLost_clock (s : State) : (subLost s).clock = { s.clock with onRc := true, rcCount := 0, prescaler := 0, subGood := 0 } := by
  rw [subLost, notifyBoth_clock, withClock_clock]

theorem subFound_clock (s : State) : (subFound s).clock = { s.clock with onRc := false, prescaler := 0, subGap := 0 } := by
  rw [subFound, notifyBoth_clock, withClock_clock]

theorem subLost_store (s : State) : (subLost s).store = s.store := by rw [subLost, notifyBoth_store, withClock_store]

theorem subLost_power (s : State) : (subLost s).power = s.power := by rw [subLost, notifyBoth_power, withClock_power]

theorem subLost_warn (s : State) : (subLost s).warn = s.warn := by rw [subLost, notifyBoth_warn, withClock_warn]

theorem subFound_power (s : State) : (subFound s).power = s.power := by rw [subFound, notifyBoth_power, withClock_power]

theorem subFound_warn (s : State) : (subFound s).warn = s.warn := by rw [subFound, notifyBoth_warn, withClock_warn]

theorem handDegraded_alive {s : State} (h : alive s = true) : handDegraded s = handMarks ⟨true, false⟩ (raise 17 false 0 s) :=
  if_pos h

/-- R157: the degradation as it is held while the part is PARKED. -/
def degradationHeld (s : State) : State :=
  (s.withClock fun c => { c with heldW17 := true }).withStore fun r => { r with held := { r.held with timeDegraded := true } }

theorem handDegraded_dead {s : State} (h : alive s = false) : handDegraded s = degradationHeld s := if_neg (by simp [h])

/-- The blocks that the supervisor's work on the sub oscillator leaves. -/
structure OtherBlocks (s t : State) : Prop where
  meas     : t.meas = s.meas := by simp
  fold     : t.fold = s.fold := by simp
  settings : t.settings = s.settings := by simp
  units    : t.units = s.units := by simp
  service  : t.service = s.service := by simp
  timers   : t.timers = s.timers := by simp

theorem OtherBlocks.trans {s t u : State} (h : OtherBlocks s t) (k : OtherBlocks t u) : OtherBlocks s u :=
  ⟨k.meas.trans h.meas, k.fold.trans h.fold, k.settings.trans h.settings, k.units.trans h.units, k.service.trans h.service,
    k.timers.trans h.timers⟩

theorem subLost_others (s : State) : OtherBlocks s (subLost s) := by
  unfold subLost
  exact {}

theorem subFound_others (s : State) : OtherBlocks s (subFound s) := by
  unfold subFound
  exact {}

theorem degradationHeld_others (s : State) : OtherBlocks s (degradationHeld s) := by
  unfold degradationHeld
  exact {}

theorem handDegraded_others (s : State) : OtherBlocks s (handDegraded s) := by
  by_cases h : alive s = true
  · rw [handDegraded_alive h]
    exact {}
  · rw [handDegraded_dead (Bool.eq_false_iff.2 h)]
    exact degradationHeld_others s

theorem dropDegraded_others (s : State) : OtherBlocks s (dropDegraded s) := by
  unfold dropDegraded
  split_ifs
  · exact {}
  · exact {}

theorem handDegraded_port (s : State) : (handDegraded s).port = s.port := by
  by_cases h : alive s = true
  · rw [handDegraded_alive h, handMarks_port, raise_port]
  · rw [handDegraded_dead (Bool.eq_false_iff.2 h)]
    rfl

theorem dropDegraded_port (s : State) : (dropDegraded s).port = s.port := by
  unfold dropDegraded
  split_ifs <;> simp

theorem dropDegraded_store (s : State) : (dropDegraded s).store = s.store := by
  unfold dropDegraded
  split_ifs <;> simp

/-- Settles O49. -/
theorem subWatchAndCalibration : Obligations.SubWatchAndCalibration := by
  intro s
  refine ⟨fun hsub => ⟨settle s (handDegraded (subLost s)), ?_, ?missing⟩, fun hrc => if_pos hrc,
    fun hrc hlist => ⟨settle s (dropDegraded (subFound s)), if_pos hrc, ?back⟩, fun hsub => if_neg (by simp [hsub]),
    fun hclock => if_pos hclock, fun count hclock hcalib => if_pos (by simp [hclock, hcalib])⟩
  · exact if_neg (by simp [hsub])
  case missing =>
    have hothers := (subLost_others s).trans (handDegraded_others _)
    have hsame : alive (subLost s) = alive s := alive_congr (subLost_power s)
    have hnotified : Notified .clock (settle s (handDegraded (subLost s))) := by
      refine (settle_portsKept s _).notified ?_
      rw [Notified, handDegraded_port]
      exact notified_notifyBoth _ _
    have hrest : (settle s (handDegraded (subLost s))).meas = s.meas ∧ (settle s (handDegraded (subLost s))).fold = s.fold
        ∧ (settle s (handDegraded (subLost s))).settings = s.settings ∧ (settle s (handDegraded (subLost s))).units = s.units
        ∧ (settle s (handDegraded (subLost s))).service = s.service ∧ (settle s (handDegraded (subLost s))).timers = s.timers := by
      simp [hothers.meas, hothers.fold, hothers.settings, hothers.units, hothers.service, hothers.timers]
    by_cases halive : alive s = true
    · have hrun := handDegraded_alive (hsame.trans halive)
      have hhanded : MarksHanded ⟨true, false⟩ s (settle s (handDegraded (subLost s))) := by
        rw [hrun]
        exact (handMarks_handed _ _).of_store ((raise_store _ _ _ _).trans (subLost_store s)) (settle_sameRecords _ _)
      have hclock : (settle s (handDegraded (subLost s))).clock = (subLost s).clock := by
        rw [settle_clock, hrun, handMarks_clock, raise_clock]
      have hentry : ActiveEntry 17 (settle s (handDegraded (subLost s))) := by
        refine (activeEntry_of_shown (settle_shown s _) 17).2 ?_
        rw [hrun, ActiveEntry, handMarks_warn]
        exact (activeEntry_raise 17 17 false 0 _).2 (.inl rfl)
      refine ⟨?_, hnotified, fun _ => ⟨hentry, ?_⟩, fun hdead => absurd halive (by simp [hdead]), fun _ hgrant => ?_,
        fun _ hgrant => ⟨fun k => ?_, ?_⟩, hhanded.charter, hhanded.odo, hrest⟩
      · rw [hclock, subLost_clock]
      · rw [hclock, subLost_clock]
      · rw [hhanded.held hgrant]
        exact Bool.or_true _
      · exact (hhanded.trips hgrant k).trans (markedBody_time _)
      · have hrunning := hhanded.running hgrant
        rwa [markedBody_time] at hrunning
    · have hdead := Bool.eq_false_iff.2 halive
      have hrun := handDegraded_dead (hsame.trans hdead)
      have hclock : (settle s (handDegraded (subLost s))).clock = { (subLost s).clock with heldW17 := true } := by
        rw [settle_clock, hrun]
        rfl
      have hstore : (handDegraded (subLost s)).store = { s.store with held := { s.store.held with timeDegraded := true } } := by
        rw [hrun, degradationHeld, withStore_store, withClock_store, subLost_store]
      have hshown : SameShown s (settle s (handDegraded (subLost s))) := by
        refine (settle_shown s _).trans (SameShown.of_warn (s := s) ?_)
        rw [hrun]
        exact subLost_warn s
      refine ⟨?_, hnotified, fun h => absurd h halive, fun _ => ⟨?_, ?_, hshown⟩, fun h => absurd h halive,
        fun h => absurd h halive, ?_, ?_, hrest⟩
      · rw [hclock, subLost_clock]
      · rw [hclock]
      · rw [settle_store_held, hstore]
      · rw [settle_store_charter, hstore]
      · rw [settle_store_odo, hstore]
  case back =>
    have hothers := (subFound_others s).trans (dropDegraded_others _)
    have hsame : alive (subFound s) = alive s := alive_congr (subFound_power s)
    have hordered : ListOrdered (subFound s).warn.list := by rwa [subFound_warn]
    have hclock : (settle s (dropDegraded (subFound s))).clock =
        { (subFound s).clock with heldW17 := alive s && s.clock.heldW17 } := by
      rw [settle_clock, dropDegraded, hsame]
      by_cases halive : alive s = true
      · rw [if_pos halive, release_clock, subFound_clock, halive]
        rfl
      · rw [if_neg halive, withClock_clock, Bool.eq_false_iff.2 halive]
        rfl
    refine ⟨?_, ?_, fun halive => ?_, fun hdead => ?_, ?_, ?_, ?_, ?_, ?_, ?_, ?_⟩
    · rw [hclock, subFound_clock]
    · refine (settle_portsKept s _).notified ?_
      rw [Notified, dropDegraded_port]
      exact notified_notifyBoth _ _
    · rw [activeEntry_of_shown (settle_shown s _) 17, dropDegraded, hsame, if_pos halive, activeEntry_release 17 17 hordered]
      exact fun h => h.1 rfl
    · rw [hclock, hdead]
      rfl
    · simp [SameRecords, dropDegraded_store, subFound]
    · rw [settle_meas, hothers.meas]
    · rw [settle_fold, hothers.fold]
    · rw [settle_settings, hothers.settings]
    · rw [settle_units, hothers.units]
    · rw [settle_service, hothers.service]
    · rw [settle_timers, hothers.timers]

/-! ### The speakers at the start of a fault -/

theorem map_key_unmark (q : List QueueEntry) : (unmark q).map QueueEntry.key = q.map QueueEntry.key := by
  rw [unmark, List.map_map]
  rfl

theorem giveBack_sameQueues (sp : Speaker) (q : Play) (s : State) : SameQueues s (giveBack sp q s) := by
  unfold giveBack
  split
  · exact .of_chime rfl
  · exact withQueue_sameQueues (map_key_unmark _)

theorem giveBack_shown (sp : Speaker) (q : Play) (s : State) : SameShown s (giveBack sp q s) := by
  unfold giveBack
  split
  · exact setChime_shown _ _ _ s
  · rfl

theorem withQueue_play (sp o : Speaker) (q : List QueueEntry) (s : State) :
    ((s.withQueue sp q).chime.speaker o).play = (s.chime.speaker o).play := by
  cases sp
  · cases o <;> rfl
  · cases o <;> rfl

theorem giveBack_play (sp o : Speaker) (q : Play) (s : State) :
    ((giveBack sp q s).chime.speaker o).play = (s.chime.speaker o).play := by
  unfold giveBack
  split
  · rfl
  · exact withQueue_play sp o _ s

theorem withPlay_play (sp o : Speaker) (q : Option Play) (s : State) :
    ((s.withPlay sp q).chime.speaker o).play = if o = sp then q else (s.chime.speaker o).play := by
  cases sp
  · cases o <;> rfl
  · cases o <;> rfl

theorem suspendSpeaker_play (sp o : Speaker) (s : State) :
    ((suspendSpeaker sp s).chime.speaker o).play = if o = sp then none else (s.chime.speaker o).play := by
  unfold suspendSpeaker
  split
  · rename_i hplay
    split_ifs with ho
    · rw [ho, hplay]
    · rfl
  · rw [withPlay_play]
    refine if_congr Iff.rfl rfl ?_
    split_ifs
    · exact giveBack_play _ _ _ _
    · rfl

theorem suspendSpeaker_sameQueues (sp : Speaker) (s : State) : SameQueues s (suspendSpeaker sp s) := by
  unfold suspendSpeaker
  split
  · exact .rfl' s
  · exact (SameQueues.ite (giveBack_sameQueues _ _ s) (.rfl' s)).trans (withPlay_sameQueues _ _ _)

theorem suspendSpeaker_shown (sp : Speaker) (s : State) : SameShown s (suspendSpeaker sp s) := by
  unfold suspendSpeaker
  split
  · rfl
  · exact SameShown.ite (giveBack_shown _ _ s) rfl

/-- R133: both channels without a play. -/
def speakersIdle (s : State) : State := suspendSpeaker .rear (suspendSpeaker .front s)

theorem speakersIdle_sameQueues (s : State) : SameQueues s (speakersIdle s) :=
  (suspendSpeaker_sameQueues .front s).trans (suspendSpeaker_sameQueues .rear _)

theorem speakersIdle_shown (s : State) : SameShown s (speakersIdle s) :=
  (suspendSpeaker_shown .rear (suspendSpeaker .front s)).trans (suspendSpeaker_shown .front s)

theorem speakersIdle_play (sp : Speaker) (s : State) : ((speakersIdle s).chime.speaker sp).play = none := by
  rw [speakersIdle, suspendSpeaker_play, suspendSpeaker_play]
  cases sp <;> rfl

theorem suspendChimes_chime (s : State) : (suspendChimes s).chime = { (speakersIdle s).chime with
    quiet := if s.chime.quiet = .quieting then .on else s.chime.quiet } := by
  have hquiet := (speakersIdle_sameQueues s).quiet
  unfold suspendChimes
  show (if (speakersIdle s).chime.quiet = .quieting then _ else speakersIdle s).chime = _
  split_ifs with h k k
  · rfl
  · exact absurd (hquiet ▸ h) k
  · exact absurd (hquiet.trans k) h
  · rw [← hquiet]

theorem suspendChimes_shown (s : State) : SameShown s (suspendChimes s) :=
  SameShown.ite (speakersIdle_shown s) (speakersIdle_shown s)

theorem settleChimes_faulted {s : State} (h : clocked s = false) : settleChimes s = settleQuiet s := by
  have hclocked : clocked (settleQuiet s) = false := by simpa [clocked, alive] using h
  unfold settleChimes
  dsimp only
  rw [hclocked]
  rfl

/-! ### The fault -/

/-- R158, R159: the clock and the residue at the start of a fault. -/
def faultBegun (s : State) : State :=
  { s.withClock fun c => { c with mainFault := true, mainGood := 0, calib := none } with meas := { s.meas with residue := 0 } }

theorem faultStart_eq (s : State) :
    faultStart s = notifyBoth .status (handMarks ⟨false, true⟩ (suspendChimes (faultBegun s))) := rfl

theorem faultStart_clock (s : State) : (faultStart s).clock = { s.clock with mainFault := true, mainGood := 0, calib := none } := by
  rw [faultStart_eq, notifyBoth_clock, handMarks_clock, suspendChimes_clock]
  rfl

theorem faultStart_meas (s : State) : (faultStart s).meas = { s.meas with residue := 0 } := by
  rw [faultStart_eq, notifyBoth_meas, handMarks_meas, suspendChimes_meas]
  rfl

theorem faultStart_chime (s : State) : (faultStart s).chime = (suspendChimes (faultBegun s)).chime := by
  rw [faultStart_eq, notifyBoth_chime, handMarks_chime]

theorem faultStart_sameBlocks (s : State) : (faultStart s).fold = s.fold ∧ (faultStart s).settings = s.settings
    ∧ (faultStart s).units = s.units ∧ (faultStart s).service = s.service ∧ (faultStart s).timers = s.timers := by
  simp [faultStart_eq, faultBegun]

theorem faultStart_unclocked (s : State) : clocked (faultStart s) = false := by
  rw [clocked, faultStart_clock]
  exact Bool.and_false _

/-- Settling leaves the chime unit of a part in a fault. -/
theorem settle_chime_faulted {a s : State} (h : clocked s = false) : (settle a s).chime = s.chime := by
  rw [settle_chime_eq, settleChimes_faulted h, settleQuiet_chime]

theorem queueKeys_congr {s t : State} (h : t.chime = s.chime) (sp : Speaker) : queueKeys t sp = queueKeys s sp :=
  (SameQueues.of_chime h).keys sp

theorem queueKeys_suspendChimes (s : State) (sp : Speaker) : queueKeys (suspendChimes s) sp = queueKeys s sp := by
  rw [← (speakersIdle_sameQueues s).keys sp, queueKeys, suspendChimes_chime]
  rfl

/-- R159: the blocks at the end of a fault, with STATUS to be set. -/
def faultOver (s : State) : State :=
  { s.withClock fun c => { c with mainFault := false, mainGap := 0 } with
    timers := s.timers.afterFault
    gauge := { s.gauge with frameOnRc := true }
    meas := { s.meas with road := s.meas.road.afterFault, engine := s.meas.engine.afterFault } }

theorem faultEnd_eq (s : State) : faultEnd s = notifyBoth .status (faultOver s) := rfl

theorem faultEnd_power (s : State) : (faultEnd s).power = s.power := by
  rw [faultEnd_eq, notifyBoth_power]
  rfl

theorem faultEnd_gauge (s : State) : (faultEnd s).gauge = { s.gauge with frameOnRc := true } := by
  rw [faultEnd_eq, notifyBoth_gauge]
  rfl

theorem faultEnd_clock (s : State) : (faultEnd s).clock = { s.clock with mainFault := false, mainGap := 0 } := by
  rw [faultEnd_eq, notifyBoth_clock]
  rfl

theorem faultEnd_meas (s : State) : (faultEnd s).meas = { s.meas with
    road := ⟨s.meas.road.period, 0, true⟩, engine := ⟨s.meas.engine.period, 0, true⟩ } := by
  rw [faultEnd_eq, notifyBoth_meas]
  rfl

theorem faultEnd_timers (s : State) : (faultEnd s).timers =
    ⟨62500, 62500, 62500, s.timers.switch, 15625, s.timers.frame, 250000, 4000000, 250000, 4000000, 500000⟩ := by
  rw [faultEnd_eq, notifyBoth_timers]
  rfl

theorem faultEnd_sameBlocks (s : State) : (faultEnd s).fold = s.fold ∧ (faultEnd s).store = s.store
    ∧ (faultEnd s).settings = s.settings ∧ (faultEnd s).units = s.units ∧ (faultEnd s).service = s.service
    ∧ (faultEnd s).warn = s.warn := by
  rw [faultEnd_eq, notifyBoth_fold, notifyBoth_store, notifyBoth_settings, notifyBoth_units, notifyBoth_service, notifyBoth_warn]
  exact ⟨rfl, rfl, rfl, rfl, rfl, rfl⟩

theorem beginPark_frameOnRc (c : ParkCause) (s : State) : (beginPark c s).gauge.frameOnRc = s.gauge.frameOnRc := rfl

theorem settle_frameOnRc (a s : State) : (settle a s).gauge.frameOnRc = s.gauge.frameOnRc := by
  have hpark (u : State) : (settlePark u).gauge.frameOnRc = u.gauge.frameOnRc := by
    unfold settlePark
    split_ifs
    · exact beginPark_frameOnRc _ u
    · rfl
    · exact beginPark_frameOnRc _ u
    · rfl
  rw [settle, settleFrom_gauge_eq]
  show (settlePark (arbitrate (settleChimes s))).gauge.frameOnRc = _
  rw [hpark, arbitrate_gauge, settleChimes_gauge]

/-- R18, R185: the main-timed events do nothing while the main clock does not run. -/
theorem mainTimed_suspended {s : State} (h : clocked s = false) {e : Instr} {t : State} {b : Bool}
    (he : exec e s = if clocked s && b then .next t else .next s) : exec e s = .next s := by
  rw [he, h, Bool.false_and, if_neg (by decide)]

/-- Settles O50. -/
theorem mainClockFaultSuspends : Obligations.MainClockFaultSuspends := by
  intro s
  refine ⟨fun hclock => ⟨settle s (faultStart s), if_pos hclock, ?start⟩, fun halive hfault =>
    ⟨settle s (faultEnd s), if_pos (by simp [halive, hfault]), ?ended⟩, fun hclock => ?suspended⟩
  case start =>
    have hchime := (settle_chime_faulted (a := s) (faultStart_unclocked s)).trans (faultStart_chime s)
    obtain ⟨hfold, hsettings, hunits, hservice, htimers⟩ := faultStart_sameBlocks s
    have hhanded : MarksHanded ⟨false, true⟩ s (settle s (faultStart s)) := by
      refine (handMarks_handed ⟨false, true⟩ (suspendChimes (faultBegun s))).of_store (suspendChimes_store (faultBegun s)) ?_
      simp [SameRecords, faultStart_eq]
    have hshown : SameShown s (settle s (faultStart s)) := by
      refine (settle_shown s _).trans ((SameShown.of_warn ?_).trans (suspendChimes_shown (faultBegun s)))
      rw [faultStart_eq, notifyBoth_warn, handMarks_warn]
    refine ⟨?_, ?_, ?_, ?_, ?_, ?_, ?_, ?_, fun sp => ?_, hshown, fun hgrant => ?_, fun hgrant => ⟨fun k => ?_, ?_⟩,
      hhanded.charter, hhanded.odo, ?_, ?_, ?_, ?_⟩
    · rw [suspend, settle_clock, faultStart_clock]
    · rw [settle_clock, faultStart_clock]
    · rw [settle_meas, faultStart_meas]
    · rw [settle_fold, hfold]
    · exact (settle_portsKept s _).notified (notified_notifyBoth _ _)
    · rw [hchime, suspendChimes_chime]
      exact speakersIdle_play .front _
    · rw [hchime, suspendChimes_chime]
      exact speakersIdle_play .rear _
    · rw [hchime, suspendChimes_chime]
      rfl
    · rw [queueKeys_congr hchime, queueKeys_suspendChimes]
      rfl
    · rw [hhanded.held hgrant]
      exact Bool.or_true _
    · exact (hhanded.trips hgrant k).trans (markedBody_fuel _)
    · have hrunning := hhanded.running hgrant
      rwa [markedBody_fuel] at hrunning
    · rw [settle_settings, hsettings]
    · rw [settle_units, hunits]
    · rw [settle_service, hservice]
    · rw [settle_timers, htimers]
  case ended =>
    obtain ⟨hfold, hstore, hsettings, hunits, hservice, hwarn⟩ := faultEnd_sameBlocks s
    refine ⟨?_, ?_, ?_, ?_, ?_, ?_, fun hdue => ?_, ?_, ?_, ?_, ?_, ?_, ?_⟩
    · rw [suspend, settle_clock, faultEnd_clock]
    · rw [settle_clock, faultEnd_clock]
    · exact (settle_portsKept s _).notified (notified_notifyBoth _ _)
    · rw [settle_meas, faultEnd_meas]
    · rw [settle_timers, faultEnd_timers]
    · rw [settle_frameOnRc, faultEnd_gauge]
    · rw [settle_gauge_notDue, faultEnd_gauge]
      rwa [ParkNotDue, faultEnd_power]
    · rw [settle_fold, hfold]
    · simp [SameRecords, hstore]
    · rw [settle_settings, hsettings]
    · rw [settle_units, hunits]
    · rw [settle_service, hservice]
    · exact (settle_shown s _).trans (SameShown.of_warn hwarn)
  case suspended =>
    have hnot : ¬ clocked s = true := by simp [hclock]
    simp only [List.forall_mem_cons]
    refine ⟨⟨if_neg hnot, if_neg hnot, if_neg hnot, mainTimed_suspended hclock rfl, if_neg hnot, if_neg hnot, if_neg hnot,
      if_neg hnot, if_neg hnot, if_neg hnot, if_neg hnot, if_neg hnot, if_neg hnot, if_neg hnot, List.forall_mem_nil _⟩,
      fun _ => if_neg hnot, fun _ => if_neg hnot, fun _ _ => if_neg hnot, fun _ => if_neg hnot,
      fun _ => mainTimed_suspended hclock rfl⟩

end Sys2Proof.Proofs.Supervisor

/-! PROOFS. The output pins: notices, coils, lamps, tones and the bytes of a link (R24, R35, R122, R168, R174). -/

namespace Sys2Proof.Proofs.Pins

open Sys2Proof Sys2Proof.Machine Sys2Proof.Proofs.Basics

/-! ### Coils and lamps -/

theorem halfOutput_forward (d : Duty) (n : Nat) : halfOutput d false n = (!d.reverse && decide (n < d.duty)) := by
  unfold halfOutput
  cases d.reverse <;> rfl

theorem halfOutput_reverse (d : Duty) (n : Nat) : halfOutput d true n = (d.reverse && decide (n < d.duty)) := by
  unfold halfOutput
  cases d.reverse <;> rfl

theorem lampOutput_alive {s : State} (h : alive s = true) (k : Fin 8) : lampOutput s k =
    (s.gauge.bulbCheck.isSome || (s.gauge.lampTests[k]).isSome || decide (s.gauge.lamps[k] = .on)
      || (decide (s.gauge.lamps[k] = .flashing) && s.gauge.flasherOn)) := by
  unfold lampOutput lampHeld
  rw [h, Bool.true_and, Bool.or_assoc _ (decide (s.gauge.lamps[k] = .on))]
  refine congrArg (or _) ?_
  cases s.gauge.lamps[k]
  · rfl
  · rfl
  · rfl

/-! ### Speakers -/

section
variable {s : State} {sp : Speaker}

theorem speaker_low (h : clocked s = false ∨ (s.chime.speaker sp).play = none) :
    tone s sp = none ∧ strike s sp = false ∧ loud s sp = false := by
  unfold tone strike loud
  rcases h with h | h
  · simp [h]
  · simp [h]

variable {q : Play} (hclock : clocked s = true) (hplay : (s.chime.speaker sp).play = some q)
include hclock hplay

theorem loud_playing : loud s sp = decide (5 ≤ q.cls) := by simp [loud, hclock, hplay]

theorem speaker_note {d micros : Nat} (h : (passSteps q.pattern)[q.step]? = some ⟨some d, micros⟩) :
    tone s sp = some (if s.clock.onRc then .fromMain (61 * d) else .fromSub (2 * d))
      ∧ strike s sp = decide (micros < q.left + 2000) := by
  simp [tone, strike, hclock, hplay, stepDivisor, stepMicros, h]

theorem speaker_gap {micros : Nat} (h : (passSteps q.pattern)[q.step]? = some ⟨none, micros⟩) :
    tone s sp = none ∧ strike s sp = false := by
  simp [tone, strike, hclock, hplay, stepDivisor, h]

end

/-! ### The bytes of a link -/

/-- R171: the reply that the slot of a link gives at SELECT. -/
def slotReply (x : ReqSlot) : Reply :=
  match x with
  | .empty => ⟨.idle, []⟩
  | .waiting _ => ⟨.busy, []⟩
  | .done r => r

theorem outgoing_frame (x : ReqSlot) : (outgoing x).frame = (slotReply x).frame := by cases x <;> rfl

theorem frame_eq (r : Reply) : r.frame = BitVec.ofNat 8 (r.content.length + 3) :: BitVec.ofNat 8 r.status.code ::
    (r.content ++ [-(sumBytes (BitVec.ofNat 8 (r.content.length + 3) :: BitVec.ofNat 8 r.status.code :: r.content))]) := by
  simp [Reply.frame, enc]

theorem frame_length (r : Reply) : r.frame.length = r.content.length + 3 := by simp [frame_eq]

/-- R169: the bytes of a frame sum to 0. -/
theorem frame_sum (r : Reply) : r.frame.foldl (· + ·) 0 = 0 := by
  unfold Reply.frame
  dsimp only
  rw [List.foldl_append]
  exact BitVec.add_right_neg _

/-- The bytes of a list, read one by one. -/
theorem map_getD_range (l : List Byte) : (List.range l.length).map (fun n => l.getD n 0) = l := by
  refine List.ext_getElem (by simp) fun n h hn => ?_
  simp [List.getElem?_eq_getElem hn]

section
variable {s : State} {l : Link}

/-- R168, R171: the state in which SELECT has been asserted. -/
def selected (l : Link) (s : State) : State := s.setLink l { s.link l with select := some (outgoing (s.link l).slot) }

theorem selectLink_idle (h : (s.link l).select = none) : selectLink l s = selected l s := by
  unfold selectLink
  rw [h]
  rfl

theorem linkByte_selected (halive : alive s = true) (n : Nat) :
    linkByte (selected l s) l n = (slotReply (s.link l).slot).frame.getD n 0 := by
  have hsame : alive (selected l s) = alive s := by simp [alive, selected]
  have hselect : ((selected l s).link l).select = some (outgoing (s.link l).slot) := by
    cases l <;> rfl
  unfold linkByte
  rw [hsame, if_pos halive, hselect]
  exact congrArg (List.getD · n 0) (outgoing_frame _)

theorem linkByte_idle (h : (s.link l).select = none) (n : Nat) : linkByte s l n = 0 := by
  unfold linkByte
  rw [h]
  exact ite_self _

end

/-- Settles O56. -/
theorem outputPinsFollowTheState : Obligations.OutputPinsFollowTheState := by
  intro s l g k sp n
  refine ⟨bne_iff_ne, rfl, fun halive => ⟨⟨fun hframe => ?_, ?coils⟩, lampOutput_alive halive k⟩, fun hdead => ?dead, speaker_low,
    fun q hclock hplay => ⟨loud_playing hclock hplay, fun d micros h => speaker_note hclock hplay h,
      fun micros h => speaker_gap hclock hplay h⟩, fun halive hselect => ?bytes⟩
  · omega
  case coils =>
    rw [coilLevels, if_pos halive]
    dsimp only
    rw [halfOutput_forward, halfOutput_forward, halfOutput_reverse, halfOutput_reverse]
    rfl
  case dead =>
    refine ⟨?_, ?_, ?_⟩
    · rw [coilLevels, if_neg (by simp [hdead])]
    · rw [lampOutput, hdead, Bool.false_and]
    · rw [linkByte, if_neg (by simp [hdead])]
  case bytes =>
    have hexec : exec (.linkSelect l) s = .next (selected l s) := by
      rw [← selectLink_idle hselect]
      exact if_pos halive
    have hbyte := linkByte_selected (l := l) halive
    refine ⟨selected l s, hexec, ?_⟩
    have hbytes : linkByte s l n = 0
        ∧ linkByte (selected l s) l 0 = BitVec.ofNat 8 ((slotReply (s.link l).slot).content.length + 3)
        ∧ linkByte (selected l s) l 1 = BitVec.ofNat 8 (slotReply (s.link l).slot).status.code
        ∧ (n < (slotReply (s.link l).slot).content.length →
          linkByte (selected l s) l (n + 2) = (slotReply (s.link l).slot).content.getD n 0)
        ∧ ((List.range ((slotReply (s.link l).slot).content.length + 3)).map (linkByte (selected l s) l)).foldl (· + ·) 0 = 0
        ∧ ((slotReply (s.link l).slot).content.length + 3 ≤ n → linkByte (selected l s) l n = 0) := by
      generalize slotReply (s.link l).slot = r at hbyte
      refine ⟨linkByte_idle hselect n, ?_, ?_, fun hn => ?_, ?_, fun hn => ?_⟩
      · rw [hbyte, frame_eq]
        rfl
      · rw [hbyte, frame_eq]
        rfl
      · rw [hbyte, frame_eq]
        simp [hn, List.getElem?_append]
      · rw [funext hbyte, ← frame_length, map_getD_range, frame_sum]
      · rw [hbyte, List.getD_eq_default]
        rwa [frame_length]
    exact hbytes

end Sys2Proof.Proofs.Pins

/-! PROOFS. WRITE SETTING (R15, R51, R183). -/

namespace Sys2Proof.Proofs.WriteSettings

open Sys2Proof Sys2Proof.Machine Sys2Proof.Proofs.Basics Sys2Proof.Proofs.Warnings Sys2Proof.Proofs.ServiceItems

/-! ### The items -/

/-- An item with a range is a number: no curve, and one of the 46 items. -/
theorem itemRange_number {n : Nat} {r : Int × Int} (h : itemRange n = some r) : n ≤ 45 ∧ itemCurve n = none := by
  have hle : n ≤ 45 := by
    by_contra hgt
    unfold itemRange at h
    split at h
    all_goals simp at h hgt
  refine ⟨hle, if_neg fun hcurve => ?_⟩
  obtain ⟨hlow, hhigh⟩ := hcurve
  interval_cases n <;> cases h

theorem itemCurve_range {n i : Nat} (h : itemCurve n = some i) : 2 ≤ n ∧ n ≤ 45 := by
  unfold itemCurve at h
  split_ifs at h
  omega

theorem lengthGood_number {s : State} {n part : Nat} {value : List Byte} (h : itemCurve n = none) :
    lengthGood s n part value = decide (value.length = itemWidth n) := by
  unfold lengthGood
  rw [h]

theorem inRange_iff (r : Int × Int) (v : Int) : inRange r v = true ↔ r.1 ≤ v ∧ v ≤ r.2 := by simp [inRange]

theorem stagingFor_item {s : State} {g : Staging} (h : s.settings.staging = some g) : stagingFor s g.item = some g := by
  unfold stagingFor
  rw [h]
  exact if_pos rfl

/-! ### What a write leaves -/

/-- What a write of an item leaves of the blocks, with the settings sealed. -/
structure Written (s u : State) : Prop where
  meas     : u.meas = s.meas := by simp
  records  : SameRecords s u := by simp [SameRecords]
  units    : u.units = s.units := by simp
  service  : u.service = s.service := by simp
  clock    : u.clock = s.clock := by simp
  timers   : u.timers = s.timers := by simp
  buf      : u.fold.buf = s.fold.buf := by simp
  check    : u.settings.check = settingsCheck u.settings.work
  port     : u.port = s.port := by simp

/-- R183: a write that is done has answered with the item as it stands. -/
def WrittenAnswered (p : Port) (n : Nat) (s t : State) : Prop :=
  t.meas = s.meas ∧ SameRecords s t ∧ t.units = s.units ∧ t.service = s.service ∧ t.clock = s.clock
    ∧ t.timers = s.timers ∧ t.fold.buf = s.fold.buf ∧ t.settings.check = settingsCheck t.settings.work
    ∧ Answered p ⟨.ok, settingContent t.settings.work n 0⟩ s t

section
variable {p : Port} {f : State → Answer} {s u : State}

theorem settled_settings (h : PortFree p s) {r : Reply} (hf : f s = (u, r)) :
    (settle s (answerAtOnce p f s)).settings = u.settings ∧ (settle s (answerAtOnce p f s)).fold = u.fold := by
  rw [answerAtOnce_free p f s h, hf]
  simp

theorem written_settled (h : PortFree p s) (hw : Written s u) {n : Nat} (hf : f s = (u, settingReply u n)) :
    WrittenAnswered p n s (settle s (answerAtOnce p f s)) := by
  have hanswered := (settle_answered h hf (congrArg (fun x => x.service.output) hw.port)).1
  obtain ⟨hsettings, hfold⟩ := settled_settings h hf
  have hrun : answerAtOnce p f s = deliver p (settingReply u n) u := by rw [answerAtOnce_free p f s h, hf]
  obtain ⟨hmeas, hrecords, hunits, hservice, hclock, htimers, hbuf, hcheck, -⟩ := hw
  refine ⟨by simpa [hrun] using hmeas, by simpa [hrun, SameRecords] using hrecords, by simpa [hrun] using hunits,
    by simpa [hrun] using hservice, by simpa [hrun] using hclock, by simpa [hrun] using htimers, by rw [hfold, hbuf],
    by rw [hsettings, hcheck], ?_⟩
  rw [hsettings]
  exact hanswered

end

/-! ### Numbers -/

theorem clampTank_settings (s : State) : (clampTank s).settings = s.settings := by simp

theorem clampTank_tank (s : State) : (clampTank s).fold.tank.q = min (s.settings.work.cm + s.settings.work.ca) s.fold.tank.q := by
  unfold clampTank
  have hcapacity : capacity s = s.settings.work.cm + s.settings.work.ca := rfl
  split_ifs with h
  · rw [hcapacity] at h
    exact (min_eq_left h.le).symm
  · rw [hcapacity] at h
    exact (min_eq_right (not_lt.1 h)).symm

theorem clampTank_buf (s : State) : (clampTank s).fold.buf = s.fold.buf := by
  unfold clampTank
  split_ifs
  · rfl
  · rfl

/-- R183: a number is installed. -/
def numberSet (n : Nat) (v : Int) (s : State) : State := afterNumber n (s.withWork fun w => w.setNumber n v)

theorem numberSet_settings (n : Nat) (v : Int) (s : State) :
    (numberSet n v s).settings = (s.withWork fun w => w.setNumber n v).settings := by
  unfold numberSet afterNumber
  split_ifs
  · exact clampTank_settings _
  · rfl

theorem numberSet_tank (n : Nat) (v : Int) (s : State) : (numberSet n v s).fold.tank.q =
    if n = 3 ∨ n = 4 then
      min ((numberSet n v s).settings.work.cm + (numberSet n v s).settings.work.ca) s.fold.tank.q
    else s.fold.tank.q := by
  rw [numberSet_settings]
  unfold numberSet afterNumber
  split_ifs
  · exact clampTank_tank _
  · rfl

theorem afterNumber_buf (n : Nat) (s : State) : (afterNumber n s).fold.buf = s.fold.buf := by
  unfold afterNumber
  split_ifs
  · exact clampTank_buf s
  · rfl

theorem numberSet_written (n : Nat) (v : Int) (s : State) : Written s (numberSet n v s) := by
  have hcheck : (numberSet n v s).settings.check = settingsCheck (numberSet n v s).settings.work := by
    rw [numberSet_settings]
    rfl
  have hbuf : (numberSet n v s).fold.buf = s.fold.buf := afterNumber_buf n _
  unfold numberSet at hcheck hbuf ⊢
  unfold afterNumber at hcheck hbuf ⊢
  split_ifs at hcheck hbuf ⊢
  · exact { check := hcheck, buf := hbuf }
  · exact { check := hcheck, buf := hbuf }

/-- R183: the number that the value bytes of an item carry. -/
def numberOf (n : Nat) (value : List Byte) : Int := if n = 33 then decInt value else decNat value

theorem writeNumber_eq {n : Nat} {r : Int × Int} (h : itemRange n = some r) (value : List Byte) (s : State) :
    writeNumber n value s = if inRange r (numberOf n value) then
      (numberSet n (numberOf n value) s, settingReply (numberSet n (numberOf n value) s) n) else (s, .bare .badArgument) := by
  unfold writeNumber
  rw [h]
  rfl

/-! ### Curves -/

/-- R183: a curve is installed, and the staging is empty. -/
def curveSet (i : Nat) (c : Curve) (s : State) : State := (setStaging none s).withWork fun w => w.setCurve i c

theorem setStaging_written {s : State} (g : Option Staging) (h : s.settings.check = settingsCheck s.settings.work) :
    Written s (setStaging g s) where
  meas := rfl
  records := ⟨rfl, rfl, rfl, rfl, rfl, rfl, rfl⟩
  units := rfl
  service := rfl
  clock := rfl
  timers := rfl
  buf := rfl
  check := h
  port := rfl

theorem curveSet_written (i : Nat) (c : Curve) (s : State) : Written s (curveSet i c s) where
  meas := rfl
  records := ⟨rfl, rfl, rfl, rfl, rfl, rfl, rfl⟩
  units := rfl
  service := rfl
  clock := rfl
  timers := rfl
  buf := rfl
  check := rfl
  port := rfl

theorem installCurve_good {i : Nat} {c : Curve} (h : curveGood i c = true) (n : Nat) (s : State) :
    installCurve n i c s = (curveSet i c s, settingReply (curveSet i c s) n) := if_pos h

theorem installCurve_bad {i : Nat} {c : Curve} (h : curveGood i c = false) (n : Nat) (s : State) :
    installCurve n i c s = (setStaging none s, .bare .badCurve) := if_neg (by simp [h])

/-- R15, R183: what the check of a complete curve comes to. -/
def CurveJudged (p : Port) (n i : Nat) (c : Curve) (s t : State) : Prop :=
  (curveGood i c = true → t.settings.work = s.settings.work.setCurve i c ∧ t.settings.staging = none ∧ WrittenAnswered p n s t)
  ∧ (curveGood i c = false → Answered p ⟨.badCurve, []⟩ s t ∧ t.settings.work = s.settings.work ∧ t.settings.staging = none)

theorem installCurve_judged {p : Port} {f : State → Answer} {n i : Nat} {c : Curve} {s : State} (h : PortFree p s)
    (hf : f s = installCurve n i c s) : CurveJudged p n i c s (settle s (answerAtOnce p f s)) := by
  refine ⟨fun hgood => ?_, fun hbad => ?_⟩
  · rw [installCurve_good hgood] at hf
    rw [(settled_settings h hf).1]
    exact ⟨rfl, rfl, written_settled h (curveSet_written i c s) hf⟩
  · rw [installCurve_bad hbad] at hf
    rw [(settled_settings h hf).1]
    exact ⟨(settle_answered h hf rfl).1, rfl, rfl⟩

/-! ### The command -/

section
variable {p : Port} {item part : Byte} {value : List Byte} {s : State}

/-- Kr and Kf of any other length than two bytes. -/
theorem serveWriteSetting_constant (hitem : item.toNat ≤ 1) (hc : writeConstant p item value = none) :
    serveWriteSetting p item part value s =
      answerAtOnce p (fun s => (s, .bare (if p = .service then .badArgument else .denied))) s := by
  rw [serveWriteSetting, if_pos hitem, hc]

theorem serveWriteSetting_other (hitem : 2 ≤ item.toNat) :
    serveWriteSetting p item part value s = answerAtOnce p (writeSetting p item part value) s :=
  if_neg (by omega)

theorem writeConstant_port (h : p ≠ .service) : writeConstant p item value = none := by
  unfold writeConstant
  split
  · exact if_neg h
  · rfl

theorem writeConstant_length (h : value.length ≠ 2) : writeConstant p item value = none := by
  unfold writeConstant
  split
  · exact absurd rfl h
  · rfl

section
variable (hp : p = .service) (hitem : item.toNat ≤ 45) (hlength : lengthGood s item.toNat part.toNat value = true)
  (hclock : s.clock.mainFault = false)
include hp hitem hlength hclock

theorem writeSetting_number (h : itemCurve item.toNat = none) :
    writeSetting p item part value s = writeNumber item.toNat value s := by
  unfold writeSetting
  rw [if_neg (not_not.2 hp), if_neg (by simp [hlength, hitem]), if_neg (by simp [hclock]), h]

theorem writeSetting_curve {i : Nat} (h : itemCurve item.toNat = some i) : writeSetting p item part value s =
    if part = 0 then writePart0 item.toNat i value s else writePart1 item.toNat i value s := by
  unfold writeSetting
  rw [if_neg (not_not.2 hp), if_neg (by simp [hlength, hitem]), if_neg (by simp [hclock]), h]

end

end

theorem writePart0_whole {value : List Byte} (hlow : 2 ≤ (value.headD 0).toNat) (hhigh : (value.headD 0).toNat ≤ 4) (n i : Nat)
    (s : State) : writePart0 n i value s = installCurve n i (decPoints value.tail) s := by
  unfold writePart0
  dsimp only
  rw [if_neg (by omega), if_pos hhigh, List.drop_one]

theorem writePart0_staged {value : List Byte} (hlow : 5 ≤ (value.headD 0).toNat) (hhigh : (value.headD 0).toNat ≤ 8) (n i : Nat)
    (s : State) : writePart0 n i value s = (setStaging (some ⟨n, (value.headD 0).toNat, decPoints value.tail⟩) s,
      ⟨.ok, settingContent s.settings.work n 0⟩) := by
  unfold writePart0
  dsimp only
  rw [if_neg (by omega), if_neg (by omega), List.drop_one]
  rfl

theorem writePart1_staged {g : Staging} {s : State} (h : s.settings.staging = some g) (i : Nat) (value : List Byte) :
    writePart1 g.item i value s = installCurve g.item i (g.points ++ decPoints value) s := by
  unfold writePart1
  rw [stagingFor_item h]

/-- Settles O57. -/
theorem writeSettingInstalls : Obligations.WriteSettingInstalls := by
  intro p item part value s hfree
  have hrefused {f : State → Answer} {st : Status} (hrun : serveWriteSetting p item part value s = answerAtOnce p f s)
      (hf : f s = (s, .bare st)) : Answered p ⟨st, []⟩ s (settle s (serveWriteSetting p item part value s))
        ∧ SameFigures s (settle s (serveWriteSetting p item part value s)) := by
    rw [hrun]
    exact refused_figures hfree hf
  refine ⟨settle s (serveWriteSetting p item part value s), rfl, ⟨fun hp => ?denied, fun hp hitem hlength => ?constant,
    fun hp hitem => ?unknown, fun hp hitem hlength => ?length, fun hp hlow hhigh hlength hfault => ?fault,
    fun r hp hlow hclock hrange hlength => ⟨fun hout => ?outside, fun hmin hmax => ?number⟩,
    fun i hp hclock hcurve hlength => ?curve⟩, fun a b hp hitem hvalue => ?krkf⟩
  case denied =>
    by_cases hitem : item.toNat ≤ 1
    · exact hrefused (serveWriteSetting_constant hitem (writeConstant_port hp)) (by rw [if_neg hp])
    · exact hrefused (serveWriteSetting_other (by omega)) (if_pos hp)
  case constant =>
    exact hrefused (serveWriteSetting_constant hitem (writeConstant_length hlength)) (by rw [if_pos hp])
  case unknown =>
    exact hrefused (serveWriteSetting_other (by omega)) ((if_neg (not_not.2 hp)).trans (if_pos (.inl hitem)))
  case length =>
    exact hrefused (serveWriteSetting_other hitem) ((if_neg (not_not.2 hp)).trans (if_pos (.inr hlength)))
  case fault =>
    exact hrefused (serveWriteSetting_other hlow)
      ((if_neg (not_not.2 hp)).trans ((if_neg (by simp [hlength, hhigh])).trans (if_pos hfault)))
  case outside =>
    obtain ⟨hhigh, hnumber⟩ := itemRange_number hrange
    have hgood : lengthGood s item.toNat part.toNat value = true := by simp [lengthGood_number hnumber, hlength]
    refine hrefused (serveWriteSetting_other hlow) ?_
    rw [writeSetting_number hp hhigh hgood hclock hnumber, writeNumber_eq hrange, if_neg]
    rw [inRange_iff]
    exact fun hin => hout.elim hin.1.not_gt hin.2.not_gt
  case number =>
    obtain ⟨hhigh, hnumber⟩ := itemRange_number hrange
    have hgood : lengthGood s item.toNat part.toNat value = true := by simp [lengthGood_number hnumber, hlength]
    have hf : writeSetting p item part value s = (numberSet item.toNat (numberOf item.toNat value) s,
        settingReply (numberSet item.toNat (numberOf item.toNat value) s) item.toNat) := by
      rw [writeSetting_number hp hhigh hgood hclock hnumber, writeNumber_eq hrange, if_pos]
      rw [inRange_iff]
      exact ⟨hmin, hmax⟩
    obtain ⟨hsettings, hfold⟩ := settled_settings hfree hf
    have hwritten := written_settled hfree (numberSet_written _ _ s) hf
    rw [serveWriteSetting_other hlow]
    refine ⟨?_, ?_, ?_, hwritten⟩
    · rw [hsettings, numberSet_settings]
      rfl
    · rw [hsettings, numberSet_settings]
      rfl
    · rw [hsettings, hfold]
      exact numberSet_tank _ _ _
  case curve =>
    obtain ⟨hlow, hhigh⟩ := itemCurve_range hcurve
    have hwrite := writeSetting_curve hp hhigh hlength hclock hcurve
    have hrun : serveWriteSetting p item part value s = answerAtOnce p (writeSetting p item part value) s :=
      serveWriteSetting_other hlow
    refine ⟨fun hpart hcount => ?_, fun hpart hmin hmax => ?_, fun hpart hmin hmax => ?_, fun g hpart hg hgitem => ?_⟩
    · exact hrefused hrun (hwrite.trans ((if_pos hpart).trans (if_pos hcount)))
    · rw [hrun]
      exact installCurve_judged hfree (hwrite.trans ((if_pos hpart).trans (writePart0_whole hmin hmax _ _ _)))
    · have hf := hwrite.trans ((if_pos hpart).trans (writePart0_staged hmin hmax _ _ _))
      rw [hrun]
      refine ⟨?_, ?_, (settle_answered hfree hf rfl).1⟩
      · rw [(settled_settings hfree hf).1]
        rfl
      · rw [(settled_settings hfree hf).1]
        rfl
    · rw [hrun]
      refine installCurve_judged hfree (hwrite.trans ((if_neg (by rw [hpart]; decide)).trans ?_))
      rw [← hgitem]
      exact writePart1_staged hg i value
  case krkf =>
    subst hp hvalue
    show Host.Outcome.next _ = Host.Outcome.next _
    have hrun : serveWriteSetting .service item part [a, b] s =
        serveWriteSettingKrKf .service (if item = 0 then .kr else .kf) (a ++ b) s := if_pos hitem
    rw [hrun]

end Sys2Proof.Proofs.WriteSettings

/-! PROOFS. COMMIT SETTINGS and its completion, and the write that a loss of supply cuts (R81, R184, R185). -/

namespace Sys2Proof.Proofs.Commits

open Sys2Proof Sys2Proof.Machine Sys2Proof.Proofs.Basics Sys2Proof.Proofs.Grants Sys2Proof.Proofs.Folds
  Sys2Proof.Proofs.RecordReads Sys2Proof.Proofs.Warnings Sys2Proof.Proofs.ServiceItems Sys2Proof.Proofs.WriteSettings

/-! ### A write that is cut -/

/-- A check word that is off by one is wrong. -/
theorem word16_succ (n : Nat) : word16 (word16 n + 1) ≠ word16 n := by
  unfold word16
  omega

theorem slotValid_cut (snap no seq : Nat) : slotValid no ⟨snap, seq, word16 (slotCheck no snap seq + 1)⟩ = false := by
  unfold slotValid
  rw [Bool.and_eq_false_iff]
  exact .inl (beq_false_of_ne (word16_succ _))

theorem goodBlock_cut (nv : NvArray) (image : Settings) :
    goodBlock { nv with flight := none, block := some ⟨image, word16 (blockCheck image + 1)⟩ } = none :=
  if_neg fun h => word16_succ _ h.1

/-- R81, R185: what the cut of the write in flight makes of the array. -/
structure FlightCut (nv cut : NvArray) : Prop where
  flight : cut.flight = none
  idle   : nv.flight = none → cut = nv
  slot   : ∀ snap (no : Fin 32) seq left, nv.flight = some (.slot snap no.val seq left) →
    slotValid no.val cut.slots[no] = false ∧ cut.block = nv.block ∧ ∀ j : Fin 32, j ≠ no → cut.slots[j] = nv.slots[j]
  commit : ∀ image left, nv.flight = some (.commit image left) → goodBlock cut = none ∧ cut.slots = nv.slots

theorem setIfInBounds_get {α : Type} (v : Vector α 32) (k : Fin 32) (x : α) (j : Fin 32) :
    (v.setIfInBounds k.val x)[j] = if j = k then x else v[j] := by
  simp [Vector.getElem_setIfInBounds, Fin.ext_iff, eq_comm]

theorem cutFlight_eq (s : State) : cutFlight s = { s with nv := (cutFlight s).nv } := by
  unfold cutFlight
  split
  · rfl
  · rfl
  · rfl

theorem cutFlight_cut (s : State) : FlightCut s.nv (cutFlight s).nv := by
  unfold cutFlight
  rcases hflight : s.nv.flight with _ | ⟨snap, no, seq, left⟩ | ⟨image, left⟩
  · exact ⟨hflight, fun _ => rfl, fun _ _ _ _ h => by simp [hflight] at h, fun _ _ h => by simp [hflight] at h⟩
  · refine ⟨rfl, fun h => by simp [hflight] at h, fun snap' no' seq' left' h => ?_, fun _ _ h => by simp [hflight] at h⟩
    rw [hflight] at h
    injection h with h
    injection h with hsnap hno hseq hleft
    subst hsnap hno hseq hleft
    refine ⟨?_, rfl, fun j hj => ?_⟩
    · dsimp only
      rw [setIfInBounds_get, if_pos rfl]
      exact slotValid_cut _ _ _
    · dsimp only
      rw [setIfInBounds_get, if_neg hj]
  · refine ⟨rfl, fun h => by simp [hflight] at h, fun _ _ _ _ h => by simp [hflight] at h, fun image' left' h => ⟨?_, rfl⟩⟩
    exact goodBlock_cut s.nv image

/-! ### A commit that completes -/

theorem commitWritten_agreed {s : State} {image : Settings} {left : Nat} (h : s.nv.flight = some (.commit image left)) :
    commitWritten true s = notifyBoth .status { s with
      nv := { s.nv with flight := none, block := some ⟨image, blockCheck image⟩ }
      settings := { s.settings with commit := .ok, defaulted := false } } := by
  unfold commitWritten
  rw [h]
  rfl

theorem commitWritten_failed {s : State} {image : Settings} {left : Nat} (h : s.nv.flight = some (.commit image left)) :
    ∃ check, commitWritten false s = notifyBoth .status { s with
      nv := { s.nv with flight := none, block := some ⟨image, check⟩ }
      settings := { s.settings with commit := .failed }
      own := { s.own with free := s.own.free + 1 } } := by
  unfold commitWritten
  rw [h]
  exact ⟨_, rfl⟩

/-! ### A commit that is queued -/

/-- A pending commit stays pending, or goes in flight. -/
theorem startWrite_commitQueued {s : State} (h : s.nv.pendingCommit = true) : (startWrite s).nv.pendingCommit = true
    ∨ (startWrite s).nv.flight = some (.commit s.settings.work commitPeriod) := by
  unfold startWrite
  split
  · split
    · exact .inl h
    · exact .inr rfl
  · exact .inl h

theorem settle_commitQueued {a s : State} (h : s.nv.pendingCommit = true) : (settle a s).nv.pendingCommit = true
    ∨ (settle a s).nv.flight = some (.commit s.settings.work commitPeriod) := by
  have hpending : (settlePark (arbitrate (settleChimes s))).nv.pendingCommit = true := by
    rcases settlePark_nv (arbitrate (settleChimes s)) with hpark | hpark
    · simpa [hpark] using h
    · simpa [hpark] using h
  have hsettings : (settlePark (arbitrate (settleChimes s))).settings = s.settings := by simp
  have hqueued := startWrite_commitQueued hpending
  rw [hsettings] at hqueued
  rwa [settle_nv]

theorem moving_iff (s : State) : moving s = true ↔ 30 ≤ s.meas.speed := by simp [moving]

/-- What COMMIT SETTINGS leaves whatever it answers. -/
theorem commitSettings_keeps (p : Port) (s : State) : (commitSettings p s).1 = { s with
    nv := { s.nv with pendingCommit := (commitSettings p s).1.nv.pendingCommit }
    settings := { s.settings with commit := (commitSettings p s).1.settings.commit } } := by
  unfold commitSettings
  split_ifs
  · rfl
  · rfl
  · rfl
  · rfl
  · rfl

/-- Settles O58. -/
theorem commitAndSupplyLoss : Obligations.CommitAndSupplyLoss := by
  intro p s
  refine ⟨fun hfree => ?commit, fun agrees image left hclock hflight => ?complete, ?loss⟩
  case commit =>
    have hrun : serveCommitSettings p s = deliver p (commitSettings p s).2 (commitSettings p s).1 :=
      answerAtOnce_free p (commitSettings p) s hfree
    have hkeeps := commitSettings_keeps p s
    have hwork : (commitSettings p s).1.settings.work = s.settings.work := by rw [hkeeps]
    have harray := settle_array s (serveCommitSettings p s)
    rw [hrun, deliver_nv] at harray
    have hrefused {st : Status} (hf : commitSettings p s = (s, .bare st)) :
        Answered p ⟨st, []⟩ s (settle s (serveCommitSettings p s))
          ∧ (settle s (serveCommitSettings p s)).settings = s.settings := by
      obtain ⟨hanswered, -, -, -, hsettings, -⟩ := refused_figures hfree hf
      exact ⟨hanswered, hsettings⟩
    refine ⟨settle s (serveCommitSettings p s), rfl, ?_, ?_, ?_, ?_, ?_, ?_, ?_, ?_, ?_⟩
    · rw [hrun, settle_meas, deliver_meas, hkeeps]
    · rw [hrun, settle_fold, deliver_fold, hkeeps]
    · rw [hrun, hkeeps]
      simp [SameRecords]
    · rw [hrun, settle_settings, deliver_settings, hwork]
    · rw [hrun, settle_units, deliver_units, hkeeps]
    · rw [hrun, settle_clock, deliver_clock, hkeeps]
    · rw [hrun, harray.1, hkeeps]
    · rw [hrun, harray.2, hkeeps]
    · refine ite_intro (fun hp => ?_) fun hp => ite_intro (fun hfault => ?_) fun hfault =>
        ite_intro (fun hmoving => ?_) fun hmoving => ite_intro (fun hbusy => ?_) fun hbusy => ?_
      · exact hrefused (if_pos hp)
      · exact hrefused ((if_neg hp).trans (if_pos hfault))
      · exact hrefused ((if_neg hp).trans ((if_neg hfault).trans (if_pos ((moving_iff s).2 hmoving))))
      · exact hrefused ((if_neg hp).trans ((if_neg hfault).trans ((if_neg (mt (moving_iff s).1 hmoving)).trans (if_pos hbusy))))
      · have hf : commitSettings p s = (queueCommit s, .bare .ok) :=
          (if_neg hp).trans ((if_neg hfault).trans ((if_neg (mt (moving_iff s).1 hmoving)).trans (if_neg hbusy)))
        refine ⟨(settle_answered hfree hf rfl).1, ?_, ?_⟩
        · rw [hrun, hf, settle_settings, deliver_settings]
          rfl
        · rw [hrun, hf]
          have hqueued := settle_commitQueued (a := s) (s := deliver p (.bare .ok) (queueCommit s))
            (by rw [deliver_nv]; rfl)
          rw [deliver_settings] at hqueued
          exact hqueued
  case complete =>
    have hexec : exec (.commitComplete agrees) s = .next (settle s (commitWritten agrees s)) := if_pos hclock
    have harray := settle_array s (commitWritten agrees s)
    refine ⟨_, hexec, ?_⟩
    cases agrees with
    | true =>
      rw [commitWritten_agreed hflight] at harray ⊢
      refine ⟨(settle_portsKept s _).notified (notified_notifyBoth _ _), ?_, fun _ => harray.2, fun h => absurd h (by decide),
        harray.1, ?_⟩
      · simp
      · simp [SameRecords]
    | false =>
      obtain ⟨check, hfailed⟩ := commitWritten_failed hflight
      rw [hfailed] at harray ⊢
      refine ⟨(settle_portsKept s _).notified (notified_notifyBoth _ _), ?_, fun h => absurd h (by decide), fun _ =>
        ⟨check, harray.2⟩, harray.1, ?_⟩
      · simp
      · simp [SameRecords]
  case loss =>
    have hcut := cutFlight_cut s
    refine ⟨(cutFlight s).withPower fun u => { u with supplied := false }, rfl, ?_, hcut.flight, hcut.idle, hcut.slot,
      hcut.commit⟩
    rw [cutFlight_eq]
    rfl

end Sys2Proof.Proofs.Commits

/-! PROOFS. What only the settling of an event and the events of a link change: the view sequences, and the state of a link's
transaction (R113, R168, R176). -/

namespace Sys2Proof.Proofs.Aside

open Sys2Proof Sys2Proof.Machine

/-! ### The view sequences and the links' transactions -/

/-- The three view sequences. -/
def sequences (s : State) : Nat × Nat × Nat := (s.warn.seqFront, s.warn.seqRear, s.warn.seqService)

/-- The transaction and the silence of a link. -/
def LinkState.line (x : LinkState) : Option Outgoing × Nat × Bool := (x.select, x.silence, x.silent)

/-- What no request and no hand-off between the blocks changes: the view sequences, and the links' transactions and silences. -/
def aside (s : State) : (Nat × Nat × Nat) × (Option Outgoing × Nat × Bool) × (Option Outgoing × Nat × Bool) :=
  (sequences s, LinkState.line s.port.front, LinkState.line s.port.rear)

theorem aside_congr {s t : State} (hwarn : t.warn = s.warn) (hport : t.port = s.port) : aside t = aside s := by
  simp only [aside, sequences, hwarn, hport]

theorem sequences_of_aside {s t : State} (h : aside t = aside s) : sequences t = sequences s := congrArg Prod.fst h

/-- The sequences and the lines stay as they are where neither the warning unit nor the ports are touched. -/
structure Untouched (s t : State) : Prop where
  warn : t.warn = s.warn := by simp
  port : t.port = s.port := by simp

theorem Untouched.aside {s t : State} (h : Untouched s t) : aside t = aside s := aside_congr h.warn h.port

theorem aside_ite {b : Prop} [Decidable b] {s t u : State} (h : aside t = aside s) (k : aside u = aside s) :
    aside (if b then t else u) = aside s := by
  split_ifs
  · exact h
  · exact k

/-! ### Notices and replies -/

@[simp] theorem aside_notify (l : Link) (n : Notice) (s : State) : aside (notify l n s) = aside s := by cases l <;> rfl

@[simp] theorem aside_notifyBoth (n : Notice) (s : State) : aside (notifyBoth n s) = aside s := by simp [notifyBoth]

@[simp] theorem aside_notifyBothIf (b : Bool) (n : Notice) (s : State) : aside (notifyBothIf b n s) = aside s :=
  aside_ite (aside_notifyBoth n s) rfl

@[simp] theorem aside_serviceReply (r : Reply) (s : State) : aside (serviceReply r s) = aside s := aside_ite rfl rfl

@[simp] theorem aside_deliver (p : Port) (r : Reply) (s : State) : aside (deliver p r s) = aside s := by
  cases p
  · rfl
  · rfl
  · exact aside_serviceReply r _

@[simp] theorem aside_holdRequest (p : Port) (r : Request) (s : State) : aside (holdRequest p r s) = aside s := by cases p <;> rfl

@[simp] theorem aside_turnAway (p : Port) (s : State) : aside (turnAway p s) = aside s := by
  cases p
  · rfl
  · rfl
  · exact aside_serviceReply _ s

@[simp] theorem aside_emptySlot (l : Link) (s : State) : aside (emptySlot l s) = aside s := by cases l <;> rfl

/-! ### The named parts of the state -/

@[simp] theorem aside_withStore (s : State) (f : RecordStore → RecordStore) : aside (s.withStore f) = aside s := rfl
@[simp] theorem aside_withFold (s : State) (f : FoldEngine → FoldEngine) : aside (s.withFold f) = aside s := rfl
@[simp] theorem aside_withFoldBare (s : State) (f : FoldEngine → FoldEngine) : aside (s.withFoldBare f) = aside s := rfl
@[simp] theorem aside_withWork (s : State) (f : Settings → Settings) : aside (s.withWork f) = aside s := rfl
@[simp] theorem aside_withClock (s : State) (f : ClockUnit → ClockUnit) : aside (s.withClock f) = aside s := rfl
@[simp] theorem aside_withGauge (s : State) (f : GaugeUnit → GaugeUnit) : aside (s.withGauge f) = aside s := rfl
@[simp] theorem aside_withMeas (s : State) (f : Measure → Measure) : aside (s.withMeas f) = aside s := rfl
@[simp] theorem aside_withList (s : State) (l : List Entry) : aside (s.withList l) = aside s := rfl
@[simp] theorem aside_withPlay (s : State) (sp : Speaker) (q : Option Play) : aside (s.withPlay sp q) = aside s := rfl
@[simp] theorem aside_withQueue (s : State) (sp : Speaker) (q : List QueueEntry) : aside (s.withQueue sp q) = aside s := rfl
@[simp] theorem aside_withService (s : State) (f : ServiceLine → ServiceLine) : aside (s.withService f) = aside s := rfl

/-! ### The active list -/

@[simp] theorem aside_raise (w : Fin 24) (add : Bool) (d : BitVec 8) (s : State) : aside (raise w add d s) = aside s := rfl

@[simp] theorem aside_release (w : Fin 24) (s : State) : aside (release w s) = aside s := rfl

@[simp] theorem aside_dropMember (w : Fin 24) (d : BitVec 8) (s : State) : aside (dropMember w d s) = aside s := by
  unfold dropMember
  split
  · rfl
  · exact aside_ite rfl rfl

@[simp] theorem aside_handItemSets (due overdue : BitVec 8) (s : State) : aside (handItemSets due overdue s) = aside s := by
  have hdue : aside (if due = 0 then release 13 s else raise 13 false due s) = aside s := aside_ite rfl rfl
  exact aside_ite hdue hdue

@[simp] theorem aside_remind (s : State) : aside (remind s) = aside s := rfl

/-! ### The records and the items -/

@[simp] theorem aside_storeItems (old new : Vector Item 8) (s : State) : aside (storeItems old new s) = aside s :=
  (aside_notifyBothIf _ _ _).trans rfl

@[simp] theorem aside_evaluateFrom (old items : Vector Item 8) (s : State) : aside (evaluateFrom old items s) = aside s := by
  simp [evaluateFrom]

@[simp] theorem aside_evaluate (s : State) : aside (evaluate s) = aside s := aside_evaluateFrom _ _ s

@[simp] theorem aside_firstSet (s : State) : aside (firstSet s) = aside s := aside_evaluateFrom _ _ s

@[simp] theorem aside_verifyTrip (k : TripNo) (s : State) : aside (verifyTrip k s) = aside s := aside_ite rfl rfl

@[simp] theorem aside_verifyCharter (s : State) : aside (verifyCharter s) = aside s :=
  aside_ite ((aside_raise _ _ _ _).trans (aside_notifyBothIf _ _ _)) rfl

@[simp] theorem aside_verifyOdo (s : State) : aside (verifyOdo s) = aside s :=
  aside_ite ((aside_raise _ _ _ _).trans (aside_notifyBothIf _ _ _)) rfl

@[simp] theorem aside_verifyRecord (r : RecordNo) (s : State) : aside (verifyRecord r s) = aside s := by
  cases r
  · exact aside_verifyOdo s
  · exact aside_verifyTrip .a s
  · exact aside_verifyTrip .b s
  · exact aside_verifyTrip .p s
  · exact aside_verifyCharter s

@[simp] theorem aside_foldTrip (metres ml run mov : Nat) (k : TripNo) (s : State) :
    aside (foldTrip metres ml run mov k s) = aside s :=
  aside_ite (aside_verifyTrip k s) (aside_verifyTrip k s)

@[simp] theorem aside_foldCharter (metres ml run mov : Nat) (s : State) : aside (foldCharter metres ml run mov s) = aside s :=
  aside_ite (aside_ite (aside_verifyCharter s) (aside_verifyCharter s)) rfl

@[simp] theorem aside_foldOdo (metres : Nat) (s : State) : aside (foldOdo metres s) = aside s := by
  exact aside_ite (aside_verifyOdo s) (aside_verifyOdo s)

@[simp] theorem aside_foldRecords (metres ml run mov : Nat) (s : State) : aside (foldRecords metres ml run mov s) = aside s := by
  simp [foldRecords]

@[simp] theorem aside_performFold (s : State) : aside (performFold s) = aside s := by simp [performFold, deliverItems]

@[simp] theorem aside_commandFold (s : State) : aside (commandFold s) = aside s := by
  unfold commandFold
  split
  · exact aside_performFold s
  · rw [aside_withFold, aside_performFold, aside_withFoldBare]

@[simp] theorem aside_fastWindowEnd (s : State) : aside (fastWindowEnd s) = aside s :=
  aside_ite rfl (aside_ite (aside_notifyBoth _ _) rfl)

/-! ### The speakers -/

@[simp] theorem aside_setChime (w : Fin 24) (sp : Speaker) (m : ChimeMark) (s : State) : aside (setChime w sp m s) = aside s := rfl

@[simp] theorem aside_takeCandidate (sp : Speaker) (c : Candidate) (s : State) : aside (takeCandidate sp c s) = aside s := by
  cases c <;> rfl

@[simp] theorem aside_choose (sp : Speaker) (s : State) : aside (choose sp s) = aside s := by
  unfold choose
  split
  · rfl
  · exact aside_takeCandidate _ _ s

@[simp] theorem aside_chooseIfIdle (sp : Speaker) (s : State) : aside (chooseIfIdle sp s) = aside s := by
  unfold chooseIfIdle
  split
  · exact aside_choose sp s
  · rfl

@[simp] theorem aside_settleQuiet (s : State) : aside (settleQuiet s) = aside s := aside_ite rfl rfl

@[simp] theorem aside_settleChimes (s : State) : aside (settleChimes s) = aside s := by
  unfold settleChimes chooseBoth
  exact aside_ite (by simp) (aside_settleQuiet s)

@[simp] theorem aside_chimeDone (p : Port) (s : State) : aside (chimeDone p s) = aside s := by cases p <;> rfl

@[simp] theorem aside_chimeDoneAll (q : List QueueEntry) (s : State) : aside (chimeDoneAll q s) = aside s := by
  have hfront : aside (if q.any fun e => e.requester == .front then notify .front .chimeDone s else s) = aside s :=
    aside_ite (aside_notify _ _ _) rfl
  exact aside_ite ((aside_notify _ _ _).trans hfront) hfront

@[simp] theorem aside_queuePassEnd (sp : Speaker) (s : State) : aside (queuePassEnd sp s) = aside s := by
  unfold queuePassEnd
  dsimp only
  split
  · rfl
  · exact aside_ite rfl (aside_chimeDone _ _)

@[simp] theorem aside_passEnd (sp : Speaker) (q : Play) (s : State) : aside (passEnd sp q s) = aside s := by
  unfold passEnd
  split
  · split
    · rfl
    · rfl
  · exact aside_queuePassEnd sp s

@[simp] theorem aside_giveBack (sp : Speaker) (q : Play) (s : State) : aside (giveBack sp q s) = aside s := by
  unfold giveBack
  split
  · rfl
  · rfl

@[simp] theorem aside_quietAtBoundary (sp : Speaker) (s : State) : aside (quietAtBoundary sp s) = aside s := aside_ite rfl rfl

@[simp] theorem aside_boundary (sp : Speaker) (q : Play) (s : State) : aside (boundary sp q s) = aside s := by
  unfold boundary
  refine aside_ite (by simp) (aside_ite (by simp) ?_)
  split
  · rfl
  · exact aside_ite (by simp) rfl

@[simp] theorem aside_suspendSpeaker (sp : Speaker) (s : State) : aside (suspendSpeaker sp s) = aside s := by
  unfold suspendSpeaker
  split
  · rfl
  · exact aside_ite (aside_giveBack _ _ s) rfl

@[simp] theorem aside_suspendChimes (s : State) : aside (suspendChimes s) = aside s := by
  have hidle : aside (suspendSpeaker .rear (suspendSpeaker .front s)) = aside s := by simp
  exact aside_ite hidle hidle

/-! ### Requests under a grant -/

@[simp] theorem aside_arbitrate (s : State) : aside (arbitrate s) = aside s := Untouched.aside {}

/-- A work that leaves the view sequences and the links' transactions. -/
abbrev WorkAside (work : Bool → State → Answer) : Prop := ∀ b s, aside (work b s).1 = aside s

theorem aside_runGranted {work : Bool → State → Answer} (h : WorkAside work) (p : Port) (b : Bool) (s : State) :
    aside (runGranted p b work s) = aside s := (aside_deliver p _ _).trans (h b s)

theorem aside_underGrant {work : Bool → State → Answer} (h : WorkAside work) (p : Port) (r : Request)
    (early : State → Option Status) (s : State) : aside (underGrant p r early work s) = aside s := by
  have hgranted : aside (arbitrate (holdRequest p r s)) = aside s := by simp
  unfold underGrant
  refine aside_ite ?_ rfl
  split
  · refine aside_ite ?_ (aside_turnAway p s)
    split
    · exact aside_ite (aside_runGranted h _ _ s) rfl
    · rfl
  · split
    · exact aside_deliver _ _ s
    · dsimp only
      split
      · exact aside_ite ((aside_runGranted h _ _ _).trans hgranted) hgranted
      · exact hgranted

theorem aside_answerAtOnce {f : State → Answer} {s : State} (p : Port) (h : aside (f s).1 = aside s) :
    aside (answerAtOnce p f s) = aside s := by
  unfold answerAtOnce
  refine aside_ite ?_ rfl
  split
  · exact (aside_deliver _ _ _).trans h
  · split
    · exact aside_serviceReply _ s
    · rfl
    · rfl

/-! ### The work of each request -/

theorem fst_aside {b : Prop} [Decidable b] {s : State} {x y : Answer} (h : aside x.1 = aside s) (k : aside y.1 = aside s) :
    aside (if b then x else y).1 = aside s := by
  split_ifs
  · exact h
  · exact k

theorem fst_aside_dite {b : Prop} [Decidable b] {s : State} {x : b → Answer} {y : ¬ b → Answer}
    (h : ∀ hb, aside (x hb).1 = aside s) (k : ∀ hb, aside (y hb).1 = aside s) :
    aside (if hb : b then x hb else y hb).1 = aside s := by
  split_ifs with hb
  · exact h hb
  · exact k hb

theorem workReadRecord_aside (record page : Byte) : WorkAside (workReadRecord record page) := by
  intro b s
  unfold workReadRecord
  split
  · rfl
  · exact aside_verifyRecord _ s

theorem workReadDerived_aside (p : Port) (record : Byte) : WorkAside (workReadDerived p record) := by
  intro b s
  unfold workReadDerived
  split
  · rfl
  · exact aside_verifyRecord _ s

theorem changeRecord_aside (r : RecordNo) (allowed : Bool) (check : State → Option Status) {act : State → State}
    (h : ∀ s, aside (act s) = aside s) : WorkAside (changeRecord r allowed check act) := by
  intro b s
  unfold changeRecord
  refine fst_aside rfl ?_
  dsimp only
  refine fst_aside (aside_verifyRecord r s) ?_
  split
  · exact aside_verifyRecord r s
  · exact (h _).trans (aside_verifyRecord r s)

theorem putCharter_aside (c : Charter) (s : State) : aside (putCharter c s) = aside s := aside_notifyBoth _ _

theorem openCharter_aside (s : State) : aside (openCharter s) = aside s := (putCharter_aside _ _).trans (aside_commandFold s)

theorem closeCharter_aside (s : State) : aside (closeCharter s) = aside s := putCharter_aside _ s

theorem vacateCharter_aside (s : State) : aside (vacateCharter s) = aside s := putCharter_aside _ s

theorem ackCharter_aside (p : Port) (s : State) : aside (ackCharter p s) = aside s :=
  aside_ite rfl (aside_ite (vacateCharter_aside s) rfl)

theorem presetOdo_aside (value : Nat) (s : State) : aside (presetOdo value s) = aside s :=
  Eq.trans (aside_congr rfl rfl) (aside_commandFold s)

theorem clearTrip_aside (k : TripNo) (s : State) : aside (clearTrip k (commandFold s)) = aside s :=
  Eq.trans (aside_congr rfl rfl) (aside_commandFold s)

theorem workClearRecord_aside (p : Port) (record : Byte) : WorkAside (workClearRecord p record) := by
  intro b s
  unfold workClearRecord
  split
  · rfl
  · exact changeRecord_aside _ _ _ (clearTrip_aside _) b s

theorem workOdoPreset_aside (p : Port) (value : BitVec 24) : WorkAside (workOdoPreset p value) :=
  fun b s => fst_aside rfl (changeRecord_aside _ _ _ (presetOdo_aside _) b s)

theorem workCharterClose_aside (p : Port) : WorkAside (workCharterClose p) := by
  intro b s
  have hverified := aside_verifyCharter s
  have hfolded := (aside_commandFold (verifyCharter s)).trans hverified
  unfold workCharterClose
  exact fst_aside rfl <| fst_aside hverified <| fst_aside hverified <| fst_aside hfolded <|
    (closeCharter_aside _).trans hfolded

theorem workKrKf_aside (c : CalConstant) (v : BitVec 16) : WorkAside (workKrKf c v) := by
  intro b s
  have hinstall (t : State) : aside (installCal c v.toNat t) = aside t := by cases c <;> rfl
  exact fst_aside rfl ((hinstall _).trans (aside_commandFold s))

theorem verifyShifted_aside (s : State) : aside (verifyShifted s) = aside s := by
  have htrips : aside (verifyTrip .p (verifyTrip .b (verifyTrip .a s))) = aside s := by simp
  exact aside_ite ((aside_verifyCharter _).trans htrips) htrips

theorem alarmEndsPark_aside (s : State) : aside (alarmEndsPark s) = aside s := aside_ite (Untouched.aside {}) rfl

theorem checkAlarm_aside (s : State) : aside (checkAlarm s) = aside s := by
  have hrings (t : State) : aside (alarmRings t) = aside t :=
    aside_ite ((alarmEndsPark_aside _).trans (aside_raise _ _ _ t)) (Untouched.aside {})
  unfold checkAlarm
  split
  · rfl
  · exact aside_ite ((hrings _).trans (aside_notifyBoth _ _)) rfl

theorem doSetClock_aside (n : Nat) (s : State) : aside (doSetClock n s) = aside s := by
  have hset (t : State) : aside (handClockSet t) = aside t := aside_ite (aside_firstSet (t.withClock _)) (aside_evaluate t)
  exact (aside_notifyBoth _ _).trans ((checkAlarm_aside _).trans ((hset _).trans rfl))

theorem doTrimClock_aside (n : Int) (s : State) : aside (doTrimClock n s) = aside s :=
  (aside_notifyBoth _ _).trans ((checkAlarm_aside _).trans ((aside_evaluate _).trans rfl))

theorem workSetClock_aside (p : Port) (seconds : BitVec 32) : WorkAside (workSetClock p seconds) := fun _ s =>
  have hverified := verifyShifted_aside s
  fst_aside rfl <| fst_aside hverified <| (doSetClock_aside _ _).trans hverified

theorem workTrimClock_aside (p : Port) (seconds : BitVec 8) : WorkAside (workTrimClock p seconds) := fun _ s =>
  have hverified := verifyShifted_aside s
  fst_aside rfl <| fst_aside hverified <| fst_aside hverified <| (doTrimClock_aside _ _).trans hverified

end Sys2Proof.Proofs.Aside

/-! PROOFS. No request that is served changes a view sequence or a link's transaction (R113, R168, R172). -/

namespace Sys2Proof.Proofs.AsideRequests

open Sys2Proof Sys2Proof.Machine Sys2Proof.Proofs.Aside

/-! ### The requests that are answered at once -/

section
variable (p : Port) (s : State)

theorem gaugeSet_aside (gauge : Byte) (angle : BitVec 16) : aside (gaugeSet p gauge angle s).1 = aside s :=
  fst_aside_dite (fun _ => fst_aside rfl <| fst_aside rfl <| fst_aside rfl rfl) fun _ => rfl

theorem gaugeRelease_aside (gauge : Byte) : aside (gaugeRelease p gauge s).1 = aside s :=
  fst_aside rfl <| fst_aside rfl <| fst_aside rfl <| fst_aside rfl <| fst_aside_dite (fun _ => fst_aside rfl rfl) fun _ => rfl

theorem readFold_aside (page : Byte) : aside (readFold p page s).1 = aside s := aside_ite rfl rfl

theorem setUnits_aside (choice : Byte) : aside (setUnits p choice s).1 = aside s :=
  fst_aside rfl <| fst_aside rfl <| fst_aside rfl (aside_ite rfl rfl)

theorem readWarnings_aside (start : Byte) : aside (readWarnings p start s).1 = aside s := fst_aside rfl rfl

theorem ackEntry_aside (e : Entry) : aside (ackEntry p e s).1 = aside s :=
  fst_aside rfl <| fst_aside rfl <| fst_aside rfl rfl

theorem ackWarning_aside (id : Byte) : aside (ackWarning p id s).1 = aside s := by
  refine fst_aside_dite (fun _ => fst_aside rfl (fst_aside rfl ?_)) fun _ => rfl
  split
  · rfl
  · exact ackEntry_aside p s _

theorem rearCall_aside : aside (rearCall p s).1 = aside s := by
  unfold rearCall
  refine fst_aside rfl (fst_aside rfl ?_)
  dsimp only
  split
  · rfl
  · rfl

theorem setOverspeed_aside (limit : BitVec 16) : aside (setOverspeed p limit s).1 = aside s :=
  fst_aside rfl <| fst_aside rfl rfl

theorem queueShare_aside (sh : Share) (sp : Speaker) (e : QueueEntry) (t : State) :
    aside (queueShare sh sp e t) = aside t := by cases sh <;> rfl

theorem queuePattern_aside (e : QueueEntry) (onFront onRear : Bool) :
    aside (queuePattern e onFront onRear s).1 = aside s :=
  fst_aside rfl ((queueShare_aside _ _ _ _).trans (queueShare_aside _ _ _ s))

theorem startLampTest_aside (l : Option (Fin 8)) (t : State) : aside (startLampTest l t) = aside t := by cases l <;> rfl

theorem warningTest_aside (id : Byte) : aside (warningTest p id s).1 = aside s := by
  have htest (w : Fin 24) : aside (testDefinition w s).1 = aside s := by
    unfold testDefinition
    split
    · exact startLampTest_aside _ s
    · exact fst_aside rfl ((startLampTest_aside _ _).trans (queuePattern_aside s _ _ _))
  exact fst_aside_dite (fun _ => fst_aside rfl (fst_aside rfl (htest _))) fun _ => rfl

theorem playChime_aside (pattern speakers cls : Byte) : aside (playChime p pattern speakers cls s).1 = aside s :=
  fst_aside_dite (fun _ => fst_aside rfl (queuePattern_aside s _ _ _)) fun _ => rfl

theorem cancelChimes_aside : aside (cancelChimes p s).1 = aside s := fst_aside rfl rfl

theorem setRearQuiet_aside (arg : Byte) : aside (setRearQuiet p arg s).1 = aside s := by
  have hquiet : aside (quietTakesRear s) = aside s := aside_chimeDoneAll s.chime.rear.queue s
  exact fst_aside rfl <| fst_aside rfl <| fst_aside rfl <| aside_ite rfl (aside_ite hquiet rfl)

theorem readService_aside (item page : Byte) : aside (readService p item page s).1 = aside s :=
  fst_aside_dite (fun _ => rfl) fun _ => rfl

theorem resetService_aside (item : Byte) : aside (resetService p item s).1 = aside s := by
  have hreset (k : Fin 8) : aside (resetItem k s) = aside s := (aside_notifyBoth _ _).trans (aside_evaluateFrom _ _ s)
  exact fst_aside_dite (fun _ => fst_aside rfl <| fst_aside rfl <| fst_aside rfl <| fst_aside rfl <| hreset _) fun _ => rfl

theorem writeServiceItem_aside (item : Byte) (d : ItemArgs) : aside (writeServiceItem p item d s).1 = aside s := by
  have hinstall (k : Fin 8) (x : ItemDef) : aside (installItem k x s) = aside s :=
    (aside_notifyBoth _ _).trans (aside_evaluateFrom _ _ (s.withWork _))
  refine fst_aside_dite (fun _ => ?_) fun _ => rfl
  split
  · rfl
  · exact fst_aside rfl (fst_aside rfl (hinstall _ _))

theorem setAlarm_aside (seconds : BitVec 32) : aside (setAlarm p seconds s).1 = aside s :=
  fst_aside rfl <| fst_aside rfl <| fst_aside rfl <| fst_aside rfl rfl

theorem clearAlarm_aside : aside (clearAlarm p s).1 = aside s := fst_aside rfl <| fst_aside rfl rfl

theorem keepAwake_aside (seconds : BitVec 16) : aside (keepAwake seconds s).1 = aside s :=
  fst_aside rfl <| fst_aside rfl (Untouched.aside {})

theorem emptyCauses_aside : aside (emptyCauses p s) = aside s := by cases p <;> rfl

theorem readNotices_aside : aside (readNotices p s).1 = aside s := by cases p <;> rfl

theorem commitSettings_aside : aside (commitSettings p s).1 = aside s :=
  fst_aside rfl <| fst_aside rfl <| fst_aside rfl <| fst_aside rfl rfl

theorem installCurve_aside (n i : Nat) (c : Curve) : aside (installCurve n i c s).1 = aside s := fst_aside rfl rfl

theorem writePart0_aside (n i : Nat) (value : List Byte) : aside (writePart0 n i value s).1 = aside s :=
  fst_aside rfl <| fst_aside (installCurve_aside s _ _ _) rfl

theorem writePart1_aside (n i : Nat) (value : List Byte) : aside (writePart1 n i value s).1 = aside s := by
  unfold writePart1
  split
  · rfl
  · exact installCurve_aside s _ _ _

theorem writeNumber_aside (n : Nat) (value : List Byte) : aside (writeNumber n value s).1 = aside s := by
  have hclamp (t : State) : aside (clampTank t) = aside t := aside_ite rfl rfl
  have hafter (t : State) : aside (afterNumber n t) = aside t := aside_ite (hclamp t) rfl
  unfold writeNumber
  dsimp only
  split
  · rfl
  · exact fst_aside (hafter (s.withWork _)) rfl

theorem writeSetting_aside (item part : Byte) (value : List Byte) : aside (writeSetting p item part value s).1 = aside s := by
  unfold writeSetting
  refine fst_aside rfl (fst_aside rfl (fst_aside rfl ?_))
  split
  · exact fst_aside (writePart0_aside s _ _ _) (writePart1_aside s _ _ _)
  · exact writeNumber_aside s _ _

theorem serveWriteSetting_aside (item part : Byte) (value : List Byte) : aside (serveWriteSetting p item part value s) = aside s := by
  unfold serveWriteSetting
  refine aside_ite ?_ (aside_answerAtOnce p (writeSetting_aside p s _ _ _))
  split
  · exact aside_underGrant (workKrKf_aside _ _) p _ _ s
  · exact aside_answerAtOnce p rfl

/-- R172: no request that is served changes a view sequence or a link's transaction. -/
theorem serve_aside (r : Request) : aside (serve p r s) = aside s := by
  cases r
  case readNotices => exact aside_answerAtOnce p (readNotices_aside p s)
  case readSetting item page => exact aside_answerAtOnce p (fst_aside rfl rfl)
  case writeSetting item part value => exact serveWriteSetting_aside p s item part value
  case writeKrKf c v => exact aside_underGrant (workKrKf_aside c v) p _ _ s
  case commitSettings => exact aside_answerAtOnce p (commitSettings_aside p s)
  case gaugeSet g a => exact aside_answerAtOnce p (gaugeSet_aside p s g a)
  case gaugeRelease g => exact aside_answerAtOnce p (gaugeRelease_aside p s g)
  case readFold page => exact aside_answerAtOnce p (readFold_aside p s page)
  case readRecord n page => exact aside_underGrant (workReadRecord_aside n page) p _ _ s
  case clearRecord n => exact aside_underGrant (workClearRecord_aside p n) p _ _ s
  case charterOpen => exact aside_underGrant (changeRecord_aside _ _ _ openCharter_aside) p _ _ s
  case charterClose => exact aside_underGrant (workCharterClose_aside p) p _ _ s
  case charterAck => exact aside_underGrant (changeRecord_aside _ _ _ (ackCharter_aside p)) p _ _ s
  case charterRelease => exact aside_underGrant (changeRecord_aside _ _ _ vacateCharter_aside) p _ _ s
  case odoPreset v => exact aside_underGrant (workOdoPreset_aside p v) p _ _ s
  case readDerived n => exact aside_underGrant (workReadDerived_aside p n) p _ _ s
  case setUnits c => exact aside_answerAtOnce p (setUnits_aside p s c)
  case readWarnings n => exact aside_answerAtOnce p (readWarnings_aside p s n)
  case ackWarning id => exact aside_answerAtOnce p (ackWarning_aside p s id)
  case rearCall => exact aside_answerAtOnce p (rearCall_aside p s)
  case setOverspeed n => exact aside_answerAtOnce p (setOverspeed_aside p s n)
  case warningTest id => exact aside_answerAtOnce p (warningTest_aside p s id)
  case playChime a b c => exact aside_answerAtOnce p (playChime_aside p s a b c)
  case cancelChimes => exact aside_answerAtOnce p (cancelChimes_aside p s)
  case rearQuiet a => exact aside_answerAtOnce p (setRearQuiet_aside p s a)
  case readService k page => exact aside_answerAtOnce p (readService_aside p s k page)
  case resetService k => exact aside_answerAtOnce p (resetService_aside p s k)
  case writeServiceItem k d => exact aside_answerAtOnce p (writeServiceItem_aside p s k d)
  case setClock n => exact aside_underGrant (workSetClock_aside p n) p _ _ s
  case trimClock n => exact aside_underGrant (workTrimClock_aside p n) p _ _ s
  case setAlarm n => exact aside_answerAtOnce p (setAlarm_aside p s n)
  case clearAlarm => exact aside_answerAtOnce p (clearAlarm_aside p s)
  case keepAwake n => exact aside_answerAtOnce p (keepAwake_aside s n)
  case readWakeCauses => exact aside_answerAtOnce p (emptyCauses_aside p s)
  case readStatus | readInputs | readGauges | readLive | readChimes | readClock => exact aside_answerAtOnce p rfl

theorem dispatch_aside (code : Byte) (args : List Byte) : aside (dispatch p code args s) = aside s := by
  unfold dispatch
  split
  · exact serve_aside p s _
  · exact aside_deliver p _ s

end

end Sys2Proof.Proofs.AsideRequests

/-! PROOFS. The transactions of a link, its silence, and what a port does with the frame that comes in (R168 to R172, R176). -/

namespace Sys2Proof.Proofs.Links

open Sys2Proof Sys2Proof.Machine Sys2Proof.Proofs.Basics Sys2Proof.Proofs.Grants Sys2Proof.Proofs.Views
  Sys2Proof.Proofs.Warnings Sys2Proof.Proofs.Parking Sys2Proof.Proofs.SecondEnds Sys2Proof.Proofs.Pins Sys2Proof.Proofs.Aside
  Sys2Proof.Proofs.AsideRequests

/-! ### Activity (R161, R164) -/

theorem endDelayPark_power (s : State) : (endDelayPark s).power =
    { s.power with park := if s.power.park = some .delay then none else s.power.park } := by
  unfold endDelayPark
  split_ifs with h
  · rw [endParkEntry_power]
  · rfl

theorem activity_awake {s : State} (h : inAwake s = true) : (activity s).power = { s.power with
    delay := some 983040, park := if s.power.park = some .delay then none else s.power.park } := by
  rw [activity, endDelayPark_power, restartDelay_awake h]
  rfl

theorem activity_asleep {s : State} (h : inAwake s = false) (hpark : s.power.park ≠ some .delay) : activity s = s := by
  have hrestart : restartDelay parkDelayDefault s = s := if_neg (by simp [h])
  rw [activity, hrestart]
  exact if_neg hpark

theorem activity_gauge {s : State} (h : s.power.park ≠ some .delay) : (activity s).gauge = s.gauge := by
  unfold activity endDelayPark
  rw [if_neg, restartDelay_gauge]
  unfold restartDelay
  split_ifs
  · exact h
  · exact h

theorem activity_ended {s t : State} (hawake : inAwake t = true) (hpark : t.power.park = some .delay) (hgauge : t.gauge = s.gauge) :
    ParkEntryEnded s (activity t) := by
  have hrestart : (restartDelay parkDelayDefault t).power.park = some .delay := by
    rw [restartDelay_awake hawake]
    exact hpark
  unfold activity endDelayPark
  rw [if_pos hrestart]
  refine endParkEntry_ended ?_ ?_
  · rw [restartDelay_gauge, hgauge]
  · rw [hrestart]
    rfl

theorem notDue_of_not_awake {s : State} (halive : alive s = true) (h : inAwake s = false) : ParkNotDue s := by
  refine .inl fun hstate => ?_
  simp [inAwake, halive, hstate] at h

/-- After activity no park entry is about to begin. -/
theorem activity_notDue {s : State} (halive : alive s = true) : ParkNotDue (activity s) := by
  by_cases h : inAwake s = true
  · rw [ParkNotDue, activity_awake h]
    exact .inr (by simp)
  · have hnot := Bool.eq_false_iff.2 h
    have hstate : (activity s).power.state = s.power.state := by
      rw [activity, endDelayPark_power]
      unfold restartDelay
      rw [hnot]
      rfl
    refine .inl fun hawake => ?_
    rw [hstate] at hawake
    simp [inAwake, halive, hawake] at hnot

/-! ### The links of two states -/

theorem line_of_aside {s t : State} (h : aside t = aside s) (l : Link) : LinkState.line (t.link l) = LinkState.line (s.link l) := by
  cases l
  · exact congrArg (fun x => x.2.1) h
  · exact congrArg (fun x => x.2.2) h

theorem settle_link_line (a s : State) (l : Link) : LinkState.line ((settle a s).link l) = LinkState.line (s.link l) := by
  cases l
  · exact congrArg (fun x => LinkState.line x.front) (settle_port a s)
  · exact congrArg (fun x => LinkState.line x.rear) (settle_port a s)

theorem settle_link_slot (a s : State) (l : Link) : ((settle a s).link l).slot = (s.link l).slot := by
  cases l
  · exact settle_front_slot a s
  · exact settle_rear_slot a s

theorem link_congr {s t : State} (h : t.port = s.port) (l : Link) : t.link l = s.link l := by
  cases l
  · exact congrArg PortBlock.front h
  · exact congrArg PortBlock.rear h

theorem setLink_same (s : State) (l : Link) (x : LinkState) : (s.setLink l x).link l = x := by cases l <;> rfl

theorem deliver_link_slot (l : Link) (r : Reply) (s : State) : ((deliver l.port r s).link l).slot = .done r := by cases l <;> rfl

theorem emptySlot_slot (l : Link) (s : State) : ((emptySlot l s).link l).slot = .empty := by
  unfold emptySlot
  rw [setLink_same]

theorem setLink_figures (s : State) (l : Link) (x : LinkState) : SameFigures s (s.setLink l x) := by simp [SameFigures, SameRecords]

theorem deliver_figures (p : Port) (r : Reply) (s : State) : SameFigures s (deliver p r s) := by simp [SameFigures, SameRecords]

theorem sameFigures_trans {s t u : State} (h : SameFigures s t) (k : SameFigures t u) : SameFigures s u := by
  obtain ⟨hmeas, hfold, ⟨hodo, ha, hb, hp, hcharter, hheld, hlog⟩, hsettings, hunits, hservice, hclock, htimers⟩ := h
  simpa only [SameFigures, SameRecords, hmeas, hfold, hodo, ha, hb, hp, hcharter, hheld, hlog, hsettings, hunits, hservice,
    hclock, htimers] using k

/-! ### The silence of a link -/

/-- The bit of a link in the detail of W23. -/
def linkBit (l : Link) : Nat := match l with | .front => 0 | .rear => 1

theorem linkMember_bit (l : Link) : (linkMember l).getLsbD (linkBit l) = true := by cases l <;> rfl

/-- An ACTIVE entry of W23 names the link. -/
def NamesLink (l : Link) (e : Entry) : Prop := e.w = 23 ∧ e.cleared = false ∧ (e.detail.getD 0).getLsbD (linkBit l) = true

/-- R176: after the link's member has been dropped, no ACTIVE entry names the link. -/
theorem dropMember_silent (l : Link) {s : State} (hl : ListOrdered s.warn.list) :
    ¬ ∃ e ∈ (dropMember 23 (linkMember l) s).warn.list, NamesLink l e := by
  rintro ⟨x, hx, hw, hc, hbit⟩
  unfold dropMember at hx
  rcases hfound : findEntry 23 s.warn.list with _ | e
  · rw [hfound] at hx
    exact findEntry_none.1 hfound x hx hw
  · rw [hfound] at hx
    dsimp only at hx
    split_ifs at hx with hleft
    · exact releaseList_gone 23 hl ⟨x, hx, hw, hc⟩
    · obtain ⟨y, -, rfl⟩ := List.mem_map.1 hx
      by_cases hy : y.w = 23
      · rw [if_pos hy] at hbit
        simp [linkMember_bit] at hbit
      · rw [if_neg hy] at hw
        exact hy hw

/-- R107: an entry that a raise adds to names the members that were added. -/
theorem raiseList_member (v : Fin 24) (d : BitVec 8) (stamp : Nat) (l : List Entry) : ∃ x ∈ raiseList v true d stamp l,
    x.w = v ∧ x.cleared = false ∧ ∀ m, x.detail = some m → m &&& d = d := by
  have hfresh (m : BitVec 8) (h : (freshEntry v stamp d).detail = some m) : m &&& d = d := by
    unfold freshEntry at h
    dsimp only at h
    split_ifs at h
    rw [← Option.some.inj h, BitVec.and_self]
  unfold raiseList
  rcases hfound : findEntry v l with _ | e
  · exact ⟨freshEntry v stamp d, (mem_insertEntry _ _ _).2 (.inl rfl), rfl, rfl, hfresh⟩
  · obtain ⟨hmem, hw⟩ := findEntry_some hfound
    dsimp only
    split_ifs with hc
    · exact ⟨freshEntry v stamp d, (mem_insertEntry _ _ _).2 (.inl rfl), rfl, rfl, hfresh⟩
    · refine ⟨e.updateDetail true d, List.mem_map.2 ⟨e, hmem, if_pos hw⟩, hw, Bool.eq_false_iff.2 hc, fun m hm => ?_⟩
      obtain ⟨o, -, ho⟩ := Option.map_eq_some_iff.1 hm
      rw [← ho]
      exact bit_or_self o d

theorem bit_of_member {l : Link} {m : BitVec 8} (h : m &&& linkMember l = linkMember l) : m.getLsbD (linkBit l) = true := by
  have hbit := congrArg (fun x => x.getLsbD (linkBit l)) h
  simpa [linkMember_bit] using hbit

/-! ### The end of a transaction -/

/-- R168: SELECT is released. -/
def unselected (l : Link) (s : State) : State := s.setLink l { s.link l with select := none }

/-- R176: a link's silence is over. -/
def silenceOver (l : Link) (s : State) : State := s.setLink l { s.link l with silence := 0, silent := false }

theorem endSilence_silent {l : Link} {s : State} (h : (s.link l).silent = true) :
    endSilence l s = dropMember 23 (linkMember l) (silenceOver l s) := by
  unfold endSilence
  dsimp only
  rw [if_pos h]
  rfl

theorem endSilence_port (l : Link) (s : State) : (endSilence l s).port = (silenceOver l s).port := by
  unfold endSilence
  dsimp only
  split_ifs
  · exact dropMember_port _ _ _
  · rfl

theorem endSilence_power (l : Link) (s : State) : (endSilence l s).power = s.power := by
  unfold endSilence
  dsimp only
  split_ifs
  · rw [dropMember_power, setLink_power]
  · rw [setLink_power]

theorem endSilence_gauge (l : Link) (s : State) : (endSilence l s).gauge = s.gauge := by
  unfold endSilence
  dsimp only
  split_ifs
  · rw [dropMember_gauge, setLink_gauge]
  · rw [setLink_gauge]

theorem endSilence_figures (l : Link) (s : State) : SameFigures s (endSilence l s) := by
  unfold endSilence
  dsimp only
  split_ifs
  · simp [SameFigures, SameRecords]
  · exact setLink_figures _ _ _

section
variable (l : Link) (s : State)

/-- The end of a transaction as the port block hands it on. -/
def handedOff : State := endSilence l (unselected l s)

theorem closeTransaction_eq : closeTransaction l s = settle s (activity (handedOff l s)) := rfl

theorem handedOff_power : (handedOff l s).power = s.power := (endSilence_power l _).trans (setLink_power s l _)

theorem handedOff_gauge : (handedOff l s).gauge = s.gauge := (endSilence_gauge l _).trans (setLink_gauge s l _)

theorem handedOff_link : (handedOff l s).link l = { s.link l with select := none, silence := 0, silent := false } := by
  rw [handedOff, link_congr (endSilence_port l _), silenceOver, setLink_same, unselected, setLink_same]

theorem closeTransaction_slot : ((closeTransaction l s).link l).slot = (s.link l).slot := by
  rw [closeTransaction_eq, settle_link_slot, link_congr (activity_port _), handedOff_link]

theorem closeTransaction_line : LinkState.line ((closeTransaction l s).link l) = (none, 0, false) := by
  rw [closeTransaction_eq, settle_link_line, link_congr (activity_port _)]
  rw [handedOff_link]
  rfl

theorem closeTransaction_figures : SameFigures s (closeTransaction l s) := by
  have hhanded : SameFigures s (handedOff l s) := by
    have hend := endSilence_figures l (unselected l s)
    unfold unselected at hend
    simpa [SameFigures, SameRecords, handedOff, unselected] using hend
  have hactivity : SameFigures s (activity (handedOff l s)) := by
    generalize handedOff l s = t at hhanded ⊢
    simpa [SameFigures, SameRecords] using hhanded
  exact settle_figures hactivity

theorem closeTransaction_silent (hsilent : (s.link l).silent = true) (hl : ListOrdered s.warn.list) :
    ¬ ∃ e ∈ (closeTransaction l s).warn.list, NamesLink l e := by
  have hwas : ((unselected l s).link l).silent = true := by rwa [unselected, setLink_same]
  have hordered : ListOrdered (silenceOver l (unselected l s)).warn.list := by
    rwa [silenceOver, setLink_warn, unselected, setLink_warn]
  rw [closeTransaction_eq, exists_of_view (P := NamesLink l) (fun _ => Iff.rfl) (settle_shown s _), activity_warn,
    handedOff, endSilence_silent hwas]
  exact dropMember_silent l hordered

end

/-- The transaction of a link is over. -/
def Ended (l : Link) (t : State) : Prop := (t.link l).select = none ∧ (t.link l).silence = 0 ∧ (t.link l).silent = false

theorem ended_of_line {l : Link} {t : State} (h : LinkState.line (t.link l) = (none, 0, false)) : Ended l t :=
  ⟨congrArg Prod.fst h, congrArg (fun x => x.2.1) h, congrArg (fun x => x.2.2) h⟩

theorem takeIncoming_aside (l : Link) (out : Outgoing) (incoming : List Byte) (s : State) :
    aside (takeIncoming l out incoming s) = aside s := by
  unfold takeIncoming
  split
  · split
    · rfl
    · rfl
    · exact aside_emptySlot l s
  · exact aside_deliver _ _ s
  · exact (dispatch_aside _ _ _ _).trans (aside_emptySlot l s)

theorem discards_iff (out : Outgoing) (x : ReqSlot) : discards out x = true ↔ ¬ (out ≠ .busy ∧ ∀ r, x ≠ .waiting r) := by
  unfold discards
  cases x with
  | empty => simp
  | waiting r => simp
  | done r => simp

theorem endTransaction_selected {l : Link} {s : State} {out : Outgoing} (h : (s.link l).select = some out) (incoming : List Byte) :
    endTransaction l incoming s = if discards out ((closeTransaction l s).link l).slot then closeTransaction l s
      else settle (closeTransaction l s) (takeIncoming l out incoming (closeTransaction l s)) := by
  unfold endTransaction
  rw [h]

theorem endTransaction_ended {l : Link} {s : State} {out : Outgoing} (h : (s.link l).select = some out) (incoming : List Byte) :
    Ended l (endTransaction l incoming s) := by
  have hclosed := closeTransaction_line l s
  rw [endTransaction_selected h]
  split_ifs
  · exact ended_of_line hclosed
  · refine ended_of_line ?_
    rw [settle_link_line, line_of_aside (takeIncoming_aside l out incoming _), hclosed]

theorem becomeSilent_link (l : Link) (s : State) : (becomeSilent l s).link l =
    { s.link l with silence := 2000000, silent := true } := by
  rw [becomeSilent, link_congr (raise_port _ _ _ _), setLink_same]
  rfl

theorem becomeSilent_figures (l : Link) (s : State) : SameFigures s (becomeSilent l s) := by
  simp [becomeSilent, SameFigures, SameRecords]

theorem becomeSilent_member (l : Link) (s : State) : ∃ e ∈ (becomeSilent l s).warn.list, e.w = 23 ∧ e.cleared = false
    ∧ ∀ m, e.detail = some m → m &&& linkMember l = linkMember l := raiseList_member 23 (linkMember l) _ _

/-- Settles O54. -/
theorem linkTransactions : Obligations.LinkTransactions := by
  intro l s
  refine ⟨fun hdead => ⟨?select, fun incoming => if_neg (by simp [hdead])⟩, fun halive hselect => ?selected,
    fun halive hselect => ?again, fun out incoming halive hselect => ?ended, fun hstate hsilent halive => ?silent⟩
  case select =>
    have hexec : exec (.linkSelect l) s = .next (fireSource (linkSource l) s) := if_neg (by simp [hdead])
    rw [hexec]
    cases l <;> rfl
  case selected =>
    have hexec : exec (.linkSelect l) s = .next (selectLink l s) := if_pos halive
    rw [hexec, selectLink_idle hselect]
    rfl
  case again =>
    have hexec : exec (.linkSelect l) s = .next (selectLink l s) := if_pos halive
    obtain ⟨out, hout⟩ := Option.ne_none_iff_exists'.1 hselect
    rw [hexec, selectLink, hout]
  case ended =>
    have hpower := handedOff_power l s
    have hnotDue : ParkNotDue (activity (handedOff l s)) := activity_notDue ((alive_congr hpower).trans halive)
    have hexec : exec (.linkTransactionEnd l incoming) s = .next (endTransaction l incoming s) := if_pos halive
    have hsettled := settle_gauge_notDue s _ hnotDue
    refine ⟨closeTransaction_slot l s, ended_of_line (closeTransaction_line l s), closeTransaction_figures l s,
      fun hawake => ?_, fun hawake hpark => ?_, fun hpark => ?_, fun hwas hordered e he hw hc => ?_,
      endTransaction l incoming s, hexec, ?_, ?_⟩
    · rw [closeTransaction_eq, settle_power_notDue s _ hnotDue, activity_awake ((inAwake_congr hpower).trans hawake), hpower]
    · rw [closeTransaction_eq]
      refine parkEntryEnded_settle s (activity_ended ((inAwake_congr hpower).trans hawake) ?_ (handedOff_gauge l s)) hnotDue
      rw [hpower, hpark]
    · rw [activity_gauge (by rwa [hpower]), handedOff_gauge] at hsettled
      exact hsettled
    · have hno := closeTransaction_silent l s hwas hordered
      have hbit : ¬ (e.detail.getD 0).getLsbD (linkBit l) = true := fun hbit => hno ⟨e, he, hw, hc, hbit⟩
      have hfalse := Bool.eq_false_iff.2 hbit
      cases l
      · exact hfalse
      · exact hfalse
    · exact endTransaction_ended hselect incoming
    · have hslot := closeTransaction_slot l s
      have hfigures := closeTransaction_figures l s
      have hrun := endTransaction_selected hselect incoming
      rw [hslot] at hrun
      have hkept {u : State} (h : SameFigures (closeTransaction l s) u) : SameFigures s (settle (closeTransaction l s) u) :=
        settle_figures (sameFigures_trans hfigures h)
      refine ⟨fun hbusy => ?_, fun hfree hpoll => ?_, fun hfree hbad => ?_, fun code args hfree hreq hnone => ?_,
        fun code args r hfree hreq hsome => ?_⟩
      · rw [hrun, if_pos ((discards_iff _ _).2 hbusy)]
      all_goals rw [hrun, if_neg (by rw [discards_iff]; exact not_not.2 hfree)]
      · unfold takeIncoming
        rw [hpoll]
        cases out with
        | idle => exact ⟨(settle_link_slot _ _ l).trans hslot, hkept (sameFigures_rfl _)⟩
        | busy => exact ⟨(settle_link_slot _ _ l).trans hslot, hkept (sameFigures_rfl _)⟩
        | reply r => exact ⟨(settle_link_slot _ _ l).trans (emptySlot_slot l _), hkept (setLink_figures _ _ _)⟩
      · unfold takeIncoming
        rw [hbad]
        exact ⟨(settle_link_slot _ _ l).trans (deliver_link_slot l _ _), hkept (deliver_figures _ _ _)⟩
      · unfold takeIncoming dispatch
        rw [hreq]
        dsimp only
        rw [hnone]
        exact ⟨(settle_link_slot _ _ l).trans (deliver_link_slot l _ _),
          hkept (sameFigures_trans (setLink_figures _ _ _) (deliver_figures _ _ _))⟩
      · unfold takeIncoming dispatch
        rw [hreq]
        dsimp only
        rw [hsome]
        rfl
  case silent =>
    have hcounts : silenceCounts s = true := by
      rcases hstate with hstate | hstate
      · simp [silenceCounts, halive, hstate]
      · simp [silenceCounts, halive, hstate]
    have hexec : exec (.silenceTimerExpiry l) s = .next (settle s (becomeSilent l s)) := if_pos (by simp [hcounts, hsilent])
    have hline := (settle_link_line s (becomeSilent l s) l).trans (congrArg LinkState.line (becomeSilent_link l s))
    obtain ⟨e, he, hw, hc, hmember⟩ := (exists_of_view
      (P := fun e => e.w = 23 ∧ e.cleared = false ∧ ∀ m, e.detail = some m → m &&& linkMember l = linkMember l)
      (fun _ => Iff.rfl) (settle_shown s (becomeSilent l s))).2 (becomeSilent_member l s)
    refine ⟨_, hexec, settle_figures (becomeSilent_figures l s), congrArg (fun x => x.2.2) hline, congrArg (fun x => x.2.1) hline,
      ?_, e, he, hw, hc, fun d hd => ?_⟩
    · rw [settle_link_slot, becomeSilent_link]
    · have hbit := bit_of_member (hmember d hd)
      cases l
      · exact hbit
      · exact hbit

end Sys2Proof.Proofs.Links

/-! PROOFS. The service line (R177 to R179). -/

namespace Sys2Proof.Proofs.ServiceLines

open Sys2Proof Sys2Proof.Machine Sys2Proof.Proofs.Basics Sys2Proof.Proofs.Warnings Sys2Proof.Proofs.Parking
  Sys2Proof.Proofs.SecondEnds Sys2Proof.Proofs.Links

/-! ### A start bit -/

/-- R177: a start bit restarts the quiet time. -/
def startBit (s : State) : State := s.withService fun x => { x with quiet := 0 }

theorem startBit_line (a s : State) :
    (settle a (activity (startBit s))).port.service = { s.port.service with quiet := 0 } := by
  rw [settle_service_line, activity_port]
  rfl

theorem startBit_figures (a s : State) : SameFigures s (settle a (activity (startBit s))) := by
  have hactivity (t : State) : SameFigures t (activity t) := by simp [SameFigures, SameRecords]
  exact settle_figures (hactivity (startBit s))

/-! ### Bytes and frames -/

theorem takeByte_building (b : Byte) (good transmitting : Bool) (bytes : List Byte) :
    takeByte b good transmitting (.building bytes) =
      if transmitting = true ∨ good = false ∨ (bytes = [] ∧ (b.toNat ≤ 2 ∨ 33 ≤ b.toNat)) then .discarding
      else .building (bytes ++ [b]) := by
  refine if_congr ?_ rfl rfl
  simp [badLength, or_assoc]

theorem endFrame_building {s : State} {bytes : List Byte} (h : s.port.service.rx = .building bytes) :
    endFrame s = if frameComplete bytes then
      takeFrame bytes (frameActivity (s.withService fun x => { x with rx := .building [] })) else s := by
  unfold endFrame
  rw [h]

theorem endFrame_idle {s : State} (h : s.port.service.rx = .waitQuiet ∨ s.port.service.rx = .discarding) : endFrame s = s := by
  unfold endFrame
  rcases h with h | h
  · rw [h]
  · rw [h]

/-- R178: a byte that ends no frame changes the receiver at most. -/
theorem receiveByte_line {s : State} (h : endFrame s = s) (b : Byte) (good : Bool) (a : State) :
    (settle a (receiveByte b good s)).port.service =
      { s.port.service with rx := takeByte b good s.port.service.transmitting s.port.service.rx } := by
  rw [settle_service_line, receiveByte, h]
  rfl

theorem receiveByte_figures {s : State} (h : endFrame s = s) (b : Byte) (good : Bool) (a : State) :
    SameFigures s (settle a (receiveByte b good s)) := by
  rw [receiveByte, h]
  exact settle_figures (sameFigures_rfl s)

/-- R178: the receiver is ready for a frame, and the manual silence count starts again. -/
def frameTaken (s : State) : State := { s with
  gauge := { s.gauge with silence := s.gauge.silence.map fun _ => 0 }
  port := { s.port with service := { s.port.service with rx := .building [] } } }

theorem frameTaken_eq (s : State) : frameActivity (s.withService fun x => { x with rx := .building [] }) = frameTaken s := rfl

theorem serviceReply_line (r : Reply) (s : State) : (serviceReply r s).port.service = { s.port.service with
    output := if s.port.service.output.length < 4 then s.port.service.output ++ [r] else s.port.service.output } := by
  unfold serviceReply
  split_ifs
  · rfl
  · rfl

theorem serviceReply_figures (r : Reply) (s : State) : SameFigures s (serviceReply r s) := by simp [SameFigures, SameRecords]

theorem deliver_service_line (r : Reply) (s : State) : (deliver .service r s).port.service = { s.port.service with
    request := none
    output := if s.port.service.output.length < 4 then s.port.service.output ++ [r] else s.port.service.output } :=
  serviceReply_line r { s with port := { s.port with service := { s.port.service with request := none } } }

/-- R178, R179: a frame has been taken and answered with a status. -/
def FrameAnswered (st : Status) (s t : State) : Prop :=
  t.port.service.rx = .building [] ∧ SameFigures s t ∧ t.gauge.silence = s.gauge.silence.map (fun _ => 0)
    ∧ t.port.service.request = s.port.service.request ∧ Answered .service ⟨st, []⟩ s t

/-- A frame that is answered with a status is settled. -/
theorem frameAnswered_settled {s u : State} {st : Status} (hdue : ParkNotDue s) (hpower : u.power = s.power)
    (hgauge : u.gauge = (frameTaken s).gauge) (hfigures : SameFigures s u) (hline : u.port.service = { s.port.service with
      rx := .building []
      output := if s.port.service.output.length < 4 then s.port.service.output ++ [.bare st] else s.port.service.output }) :
    FrameAnswered st s (settle s u) := by
  have hservice : (settle s u).port.service = u.port.service := settle_service_line s u
  refine ⟨?_, settle_figures hfigures, ?_, ?_, ?_⟩
  · rw [hservice, hline]
  · rw [settle_gauge_notDue s u (by rwa [ParkNotDue, hpower]), hgauge]
    rfl
  · rw [hservice, hline]
  · rw [Answered, hservice, hline]
    rfl

theorem takeFrame_bad {bytes : List Byte} (h : judgeFrame bytes = .bad) (s : State) :
    takeFrame bytes s = serviceReply (.bare .checkError) s := by
  unfold takeFrame
  rw [h]

theorem takeFrame_busy {bytes args : List Byte} {code : Byte} (h : judgeFrame bytes = .request code args) {s : State}
    (hbusy : s.port.service.request ≠ none) : takeFrame bytes s = serviceReply (.bare .busy) s := by
  obtain ⟨r, hr⟩ := Option.ne_none_iff_exists'.1 hbusy
  unfold takeFrame
  rw [h]
  dsimp only
  rw [hr]

theorem takeFrame_free {bytes args : List Byte} {code : Byte} (h : judgeFrame bytes = .request code args) {s : State}
    (hfree : s.port.service.request = none) : takeFrame bytes s = dispatch .service code args s := by
  unfold takeFrame
  rw [h]
  dsimp only
  rw [hfree]

theorem dispatch_none {code : Byte} {args : List Byte} (h : requestOf code args = none) (p : Port) (s : State) :
    dispatch p code args s = deliver p (.bare (refusalOf code)) s := by
  unfold dispatch
  rw [h]

theorem dispatch_some {code : Byte} {args : List Byte} {r : Request} (h : requestOf code args = some r) (p : Port) (s : State) :
    dispatch p code args s = serve p r s := by
  unfold dispatch
  rw [h]

/-- Settles O55. -/
theorem serviceLineFrames : Obligations.ServiceLineFrames := by
  intro s halive
  refine ⟨?start, fun b good => ⟨fun hidle => ?idle, fun bytes hrx hcomplete => ?byte⟩, fun bytes hrx hcomplete hdue => ?frame,
    fun howes => ?quiet, fun r rest houtput hsilent hfree => ?transmit, fun hsending => ?sent⟩
  case start =>
    have hexec : exec .serviceStartBit s = .next (settle s (activity (startBit s))) := if_pos halive
    have hnotDue : ParkNotDue (activity (startBit s)) := activity_notDue (s := startBit s) halive
    have hpower := settle_power_notDue s _ hnotDue
    have hgauge := settle_gauge_notDue s _ hnotDue
    refine ⟨_, hexec, startBit_figures s s, startBit_line s s, fun hawake => ?_, fun hawake hpark => ?_, fun hawake hpark => ?_,
      fun hasleep hpark => ?_⟩
    · rw [hpower, activity_awake (s := startBit s) hawake]
      rfl
    · exact parkEntryEnded_settle s (activity_ended (t := startBit s) hawake hpark rfl) hnotDue
    · rwa [activity_gauge (s := startBit s) hpark] at hgauge
    · have hnone : (startBit s).power.park ≠ some .delay := by
        rw [show (startBit s).power.park = none from hpark]
        exact (Option.some_ne_none _).symm
      rw [hpower, activity_asleep (s := startBit s) hasleep hnone]
      rfl
  case idle =>
    have hexec : exec (.serviceByteReceived b good) s = .next (settle s (receiveByte b good s)) := if_pos halive
    have hend := endFrame_idle hidle
    refine ⟨_, hexec, receiveByte_figures hend b good s, ?_⟩
    rw [receiveByte_line hend]
    rcases hidle with h | h
    · rw [h, takeByte, ← h]
    · rw [h, takeByte, ← h]
  case byte =>
    have hexec : exec (.serviceByteReceived b good) s = .next (settle s (receiveByte b good s)) := if_pos halive
    have hend : endFrame s = s := (endFrame_building hrx).trans (if_neg (by simp [hcomplete]))
    refine ⟨_, hexec, receiveByte_figures hend b good s, ?_⟩
    rw [receiveByte_line hend, hrx, takeByte_building]
  case frame =>
    have hend : endFrame s = takeFrame bytes (frameTaken s) := (endFrame_building hrx).trans (if_pos hcomplete)
    have hexec : exec .serviceFrameEnd s = .next (settle s (takeFrame bytes (frameTaken s))) := by
      rw [← hend]
      exact if_pos halive
    have hfigures : SameFigures s (frameTaken s) := sameFigures_rfl s
    have hreply (st : Status) : FrameAnswered st s (settle s (serviceReply (.bare st) (frameTaken s))) := by
      refine frameAnswered_settled hdue ?_ ?_ ?_ ?_
      · rw [serviceReply_power]
        rfl
      · rw [serviceReply_gauge]
      · exact sameFigures_trans hfigures (serviceReply_figures _ _)
      · rw [serviceReply_line]
        rfl
    refine ⟨_, hexec, fun hbad => ?_, fun code args hreq hbusy => ?_, fun code args hreq hfree hnone => ?_,
      fun code args r hreq hfree hsome => ?_⟩
    · rw [takeFrame_bad hbad]
      exact hreply .checkError
    · rw [takeFrame_busy (s := frameTaken s) hreq hbusy]
      exact hreply .busy
    · rw [takeFrame_free (s := frameTaken s) hreq hfree, dispatch_none hnone]
      have hanswered : FrameAnswered (refusalOf code) s
          (settle s (deliver .service (.bare (refusalOf code)) (frameTaken s))) := by
        refine frameAnswered_settled hdue ?_ ?_ (sameFigures_trans hfigures (deliver_figures _ _ _)) ?_
        · rw [deliver_power]
          rfl
        · rw [deliver_gauge]
        · rw [deliver_service_line, ← hfree]
          rfl
      exact hanswered
    · rw [takeFrame_free (s := frameTaken s) hreq hfree, dispatch_some hsome]
      rfl
  case quiet =>
    have hexec : exec .serviceQuietExpiry s = .next (serviceReply (.bare .lineError) (frameTaken s)) := by
      rw [← frameTaken_eq]
      exact if_pos (by simp [halive, howes])
    have hline := serviceReply_line (.bare .lineError) (frameTaken s)
    refine ⟨_, hexec, ?_, ?_, ?_, ?_⟩
    · exact sameFigures_trans (sameFigures_rfl s : SameFigures s (frameTaken s)) (serviceReply_figures _ _)
    · rw [hline]
      rfl
    · rw [Answered, hline]
      rfl
    · rw [serviceReply_gauge]
      rfl
  case transmit =>
    show execServiceTransmitStart s = _
    unfold execServiceTransmitStart
    split
    · rename_i hnil
      rw [houtput] at hnil
      cases hnil
    · rename_i q tail hcons
      rw [houtput] at hcons
      cases hcons
      rw [if_pos (by simp [halive, hsilent, hfree])]
      rfl
  case sent =>
    show execServiceFrameSent s = _
    unfold execServiceFrameSent
    rw [if_pos (by simp [halive, hsending]), ← List.drop_one]
    rfl

end Sys2Proof.Proofs.ServiceLines

/-! PROOFS. What a release makes of the list, and the counting of the views (R108, R113). -/

namespace Sys2Proof.Proofs.ViewCounts

open Sys2Proof Sys2Proof.Machine Sys2Proof.Proofs.StepInvariants Sys2Proof.Proofs.Lamps Sys2Proof.Proofs.Aside
  Sys2Proof.Proofs.AsideRequests Sys2Proof.Proofs.Links Sys2Proof.Proofs.RaiseOfDefinition Sys2Proof.Proofs.Grants
  Sys2Proof.Proofs.Views Sys2Proof.Proofs.Basics

/-! ### A release -/

theorem release_kept {w : Fin 24} {s : State} (h : releaseList w s.warn.list = s.warn.list) : release w s = s := by
  rw [release, h]
  rfl

theorem releaseList_none {w : Fin 24} {l : List Entry} (h : ∀ x ∈ l, x.w ≠ w) : releaseList w l = l := by
  unfold releaseList
  rw [findEntry_none.2 h]

section
variable {w : Fin 24} {l : List Entry} {x : Entry} (hfound : findEntry w l = some x)
include hfound

theorem releaseList_cleared (h : x.cleared = true) : releaseList w l = l := by
  unfold releaseList
  rw [hfound]
  exact if_pos h

theorem releaseList_removed (hc : x.cleared = false) (h : (warnDef w).latched = false ∨ fullyAcked x = true) :
    releaseList w l = dropEntry w l := by
  unfold releaseList
  rw [hfound]
  dsimp only
  rw [if_neg (by simp [hc]), if_neg]
  rcases h with h | h
  · simp [h]
  · simp [h]

theorem releaseList_latched (hc : x.cleared = false) (hlatched : (warnDef w).latched = true) (h : fullyAcked x = false) :
    releaseList w l = mapEntry w Entry.clear l := by
  unfold releaseList
  rw [hfound]
  dsimp only
  rw [if_neg (by simp [hc]), if_pos (by simp [hlatched, h])]

end

/-- R108: a chime mark of an entry that becomes CLEARED. -/
def restedMark (m : ChimeMark) : ChimeMark := if m.state = .resting then ⟨.done, none⟩ else m

theorem clearResting_eq : ChimeMark.clearResting = restedMark := by
  funext m
  unfold ChimeMark.clearResting restedMark
  rcases m with ⟨state, timer⟩
  cases state <;> rfl

theorem latched_iff (w : Fin 24) : (warnDef w).latched = true ↔ w = 16 ∨ w = 18 ∨ w = 19 ∨ w = 20 := by
  revert w
  decide

/-! ### The counting of the views -/

theorem countViews_sequences (old : List Entry) (s : State) : sequences (countViews old s) =
    (if view .front s.warn.list = view .front old then s.warn.seqFront else (s.warn.seqFront + 1) % 65536,
      if view .rear s.warn.list = view .rear old then s.warn.seqRear else (s.warn.seqRear + 1) % 65536,
      if view .service s.warn.list = view .service old then s.warn.seqService else (s.warn.seqService + 1) % 65536) := by
  have hseq (p : Port) (n : Nat) : (if view p old != view p s.warn.list then nextSeq n else n) =
      if view p s.warn.list = view p old then n else (n + 1) % 65536 := by
    by_cases h : view p s.warn.list = view p old
    · rw [if_pos h, h, if_neg (by simp)]
    · rw [if_neg h, if_pos (by simpa using Ne.symm h)]
      rfl
  rw [← hseq .front, ← hseq .rear, ← hseq .service]
  unfold countViews
  dsimp only
  split_ifs <;> rfl

theorem countViews_front {old : List Entry} {s : State} (h : view .front s.warn.list ≠ view .front old) :
    (countViews old s).port.front.notices &&& Notice.warnings.bit = Notice.warnings.bit := by
  unfold countViews
  dsimp only
  rw [if_pos (c := (view .front old != view .front s.warn.list) = true) (by simpa using Ne.symm h)]
  exact (PortsKept.when (notify_portsKept .rear .warnings _)).front .warnings (bit_or_self _ _)

theorem countViews_rear {old : List Entry} {s : State} (h : view .rear s.warn.list ≠ view .rear old) :
    (countViews old s).port.rear.notices &&& Notice.warnings.bit = Notice.warnings.bit := by
  unfold countViews
  dsimp only
  rw [if_pos (c := (view .rear old != view .rear s.warn.list) = true) (by simpa using Ne.symm h)]
  exact bit_or_self _ _

theorem countViews_counted (a b : State) {s : State} (hseq : sequences s = sequences b) :
    ViewsCounted a b (countViews a.warn.list s) := by
  have hfront : s.warn.seqFront = b.warn.seqFront := congrArg Prod.fst hseq
  have hrear : s.warn.seqRear = b.warn.seqRear := congrArg (fun x => x.2.1) hseq
  have hservice : s.warn.seqService = b.warn.seqService := congrArg (fun x => x.2.2) hseq
  have hlist : (countViews a.warn.list s).warn.list = s.warn.list := by rw [countViews_warn]
  have hcounted := countViews_sequences a.warn.list s
  rw [hfront, hrear, hservice] at hcounted
  have hfrontSeq := congrArg Prod.fst hcounted
  have hrearSeq := congrArg (fun x => x.2.1) hcounted
  have hserviceSeq := congrArg (fun x => x.2.2) hcounted
  unfold ViewsCounted
  rw [hlist]
  refine ⟨ite_intro (fun h => ?_) fun h => ⟨?_, countViews_front h⟩, ite_intro (fun h => ?_) fun h => ⟨?_, countViews_rear h⟩,
    ite_intro (fun h => ?_) fun h => ?_⟩
  · exact hfrontSeq.trans (if_pos h)
  · exact hfrontSeq.trans (if_neg h)
  · exact hrearSeq.trans (if_pos h)
  · exact hrearSeq.trans (if_neg h)
  · exact hserviceSeq.trans (if_pos h)
  · exact hserviceSeq.trans (if_neg h)

/-- What is settled counts each view that changed once. -/
theorem settle_counted (a : State) {b s : State} (h : sequences s = sequences b) : ViewsCounted a b (settle a s) := by
  refine countViews_counted a b (Eq.trans ?_ h)
  have hquiet := sequences_of_aside (aside_settleChimes s)
  have hworked (t : State) : sequences (workLamps (startWrite (settlePark (arbitrate t)))) = sequences t := by simp [sequences]
  exact (hworked _).trans hquiet

/-- What leaves the list and the sequences has nothing to count. -/
theorem kept_counted {s t : State} (hlist : t.warn.list = s.warn.list) (hseq : sequences t = sequences s) :
    ViewsCounted s s t := by
  unfold ViewsCounted
  rw [hlist, if_pos rfl, if_pos rfl, if_pos rfl]
  exact ⟨congrArg Prod.fst hseq, congrArg (fun x => x.2.1) hseq, congrArg (fun x => x.2.2) hseq⟩

/-! ### The events -/

theorem sequences_foldl {α : Type} {f : State → α → State} (h : ∀ s x, sequences (f s x) = sequences s) (l : List α) (s : State) :
    sequences (l.foldl f s) = sequences s := by
  induction l generalizing s with
  | nil => rfl
  | cons x xs ih => exact (ih (f s x)).trans (h s x)

theorem sequences_ite {b : Prop} [Decidable b] {s t u : State} (h : sequences t = sequences s) (k : sequences u = sequences s) :
    sequences (if b then t else u) = sequences s := by
  split_ifs
  · exact h
  · exact k

theorem sequences_when {b : Prop} [Decidable b] {f : State → State} (h : ∀ s, sequences (f s) = sequences s) {s : State} :
    sequences (if b then f s else s) = sequences s := sequences_ite (h s) rfl

theorem activity_sequences (s : State) : sequences (activity s) = sequences s := by simp [sequences]

theorem leaveAwake_sequences (s : State) : sequences (leaveAwake s) = sequences s := by simp [sequences]

theorem leaveRun_sequences (s : State) : sequences (leaveRun s) = sequences s := by simp [sequences]

theorem runEntry_sequences (fromAcc : Bool) (s : State) : sequences (runEntry fromAcc s) = sequences s := by
  have hgauges : sequences (gaugesRunEntry fromAcc s) = sequences s := by simp [sequences]
  exact hgauges

theorem enterAwake_sequences (s : State) : sequences (enterAwake s) = sequences s := rfl

theorem setPower_sequences (s : State) : sequences (setPower s) = sequences s := by
  unfold setPower
  dsimp only
  refine sequences_ite rfl ?_
  rw [sequences_when (runEntry_sequences _), sequences_when enterAwake_sequences, sequences_when leaveAwake_sequences,
    sequences_when leaveRun_sequences]
  rfl

theorem switchEvent_sequences (s : State) (i : Fin 16) : sequences (switchEvent s i) = sequences s := by
  unfold switchEvent
  dsimp only
  have hpump (active : Bool) (t : State) : sequences (pumpChange active t) = sequences t := rfl
  have hraise (t : State) : sequences (raise 19 false 0 t) = sequences t := rfl
  rw [sequences_when (hpump _), sequences_when hraise, activity_sequences, sequences_when setPower_sequences]

theorem switchScan_sequences (lines : BitVec 16) (s : State) : sequences (switchScan lines s) = sequences s :=
  (sequences_foldl switchEvent_sequences _ _).trans rfl

theorem analogScan_sequences (samples : Vector Byte 6) (s : State) : sequences (analogScan samples s) = sequences s := by
  have hchannel (old new : Vector Channel 6) (t : State) (i : Fin 6) : sequences (handChannel old new t i) = sequences t :=
    sequences_ite rfl (sequences_ite (sequences_of_aside (aside_dropMember _ _ t)) rfl)
  have hfast (t : State) : sequences (countFast t) = sequences t := by
    unfold countFast
    split
    · rfl
    · exact sequences_ite rfl (sequences_ite rfl (sequences_of_aside (aside_fastWindowEnd (t.withMeas _))))
  exact (hfast _).trans ((sequences_foldl (hchannel _ _) _ _).trans rfl)

theorem sampleOne_sequences (s : State) (w : Fin 24) : sequences (sampleOne s w) = sequences s := by
  unfold sampleOne
  split
  · rfl
  · exact sequences_ite rfl (sequences_ite (sequences_ite rfl rfl) (sequences_ite (sequences_ite rfl rfl) rfl))

theorem sampleAll_sequences (s : State) : sequences (sampleAll s) = sequences s := (sequences_foldl sampleOne_sequences _ _).trans rfl

theorem repeatEnd_sequences (w : Fin 24) (sp : Speaker) (s : State) : sequences (repeatEnd w sp s) = sequences s := by
  unfold repeatEnd
  split
  · rfl
  · exact sequences_ite rfl rfl

theorem slotWritten_sequences (s : State) : sequences (slotWritten s) = sequences s := by
  unfold slotWritten
  split
  · rfl
  · rfl
  · rfl

theorem commitWritten_sequences (agrees : Bool) (s : State) : sequences (commitWritten agrees s) = sequences s := by
  have hstatus (t : State) : sequences (notifyBoth .status t) = sequences t := sequences_of_aside (aside_notifyBoth _ t)
  unfold commitWritten
  split
  · exact sequences_ite ((hstatus _).trans rfl) ((hstatus _).trans rfl)
  · rfl
  · rfl

theorem takeFrame_aside (bytes : List Byte) (s : State) : aside (takeFrame bytes s) = aside s := by
  unfold takeFrame
  split
  · rfl
  · exact aside_serviceReply _ s
  · split
    · exact aside_serviceReply _ s
    · exact dispatch_aside _ s _ _

theorem endFrame_aside (s : State) : aside (endFrame s) = aside s := by
  unfold endFrame
  split
  · exact aside_ite (takeFrame_aside _ (frameActivity (s.withService _))) rfl
  · rfl
  · rfl

theorem receiveByte_aside (b : Byte) (good : Bool) (s : State) : aside (receiveByte b good s) = aside s :=
  (aside_withService _ _).trans (endFrame_aside s)

theorem limitOut_sequences (s : State) : sequences (limitOut s) = sequences s := by
  unfold limitOut
  dsimp only
  split
  · rfl
  · rfl

theorem enterParked_sequences (raw : BitVec 16) (s : State) : sequences (enterParked raw s) = sequences s := by
  have hchimes : (parkChimes s).warn = s.warn := chimeDoneAll_warn _ s
  show sequences { s with warn := parkWarnings (parkChimes s).warn } = sequences s
  rw [hchimes]
  rfl

theorem handMarks_aside (m : HeldMarks) (s : State) : aside (handMarks m s) = aside s := aside_ite rfl rfl

theorem faultStart_aside (s : State) : aside (faultStart s) = aside s :=
  (aside_notifyBoth _ _).trans ((handMarks_aside _ _).trans ((aside_suspendChimes _).trans rfl))

theorem handDegraded_aside (s : State) : aside (handDegraded s) = aside s :=
  aside_ite ((handMarks_aside _ _).trans rfl) rfl

theorem dropDegraded_aside (s : State) : aside (dropDegraded s) = aside s := aside_ite rfl rfl

theorem secondEnd_aside (s : State) : aside (checkAlarm (dayChange (today s) (tickSecond s))) = aside s := by
  have hday (old : Nat) (t : State) : aside (dayChange old t) = aside t := aside_ite (aside_evaluate t) rfl
  exact (checkAlarm_aside _).trans ((hday _ _).trans rfl)

/-! ### Every command -/

/-- The command counts each view that it changed once. -/
abbrev Counted (s : State) (x : Outcome) : Prop := EndsIn (ViewsCounted s s) x

theorem counted_rfl (s : State) : ViewsCounted s s s := kept_counted rfl rfl

theorem Counted.ite {b : Prop} [Decidable b] {s : State} {x y : Outcome} (h : Counted s x) (k : Counted s y) :
    Counted s (if b then x else y) := EndsIn.ite h k

theorem Counted.same (s : State) : Counted s (.next s) := .next (counted_rfl s)

theorem Counted.kept {s t : State} (hlamps : SameLamps s t) (hseq : sequences t = sequences s) : Counted s (.next t) :=
  .next (kept_counted hlamps.list hseq)

theorem Counted.keptWhen {b : Prop} [Decidable b] {s t : State} (hlamps : SameLamps s t) (hseq : sequences t = sequences s) :
    Counted s (if b then .next t else .next s) := EndsIn.when (counted_rfl s) (kept_counted hlamps.list hseq)

theorem Counted.settled {s t : State} (h : sequences t = sequences s) : Counted s (.next (settle s t)) :=
  .next (settle_counted s h)

theorem Counted.settledWhen {b : Prop} [Decidable b] {s t : State} (h : sequences t = sequences s) :
    Counted s (if b then .next (settle s t) else .next s) := EndsIn.when (counted_rfl s) (settle_counted s h)

theorem request_counted {c : Instr} {p : Port} {r : Request} (h : commandRequest c = some (p, r)) (s : State) :
    Counted s (exec c s) := by
  have hserved := sequences_of_aside (serve_aside p s r)
  rw [exec_of_request h]
  split_ifs with hr
  · exact .kept (serve_sameLamps p hr s) hserved
  · exact .settled hserved

theorem execRoadPulseEdge_counted (s : State) : Counted s (execRoadPulseEdge s) := by
  have hcount (t : State) : sequences (countPulse t) = sequences t := sequences_ite rfl rfl
  exact Counted.ite (.ite (.kept (countPulse_sameLamps s) (hcount s))
    (.kept ((countPulse_sameLamps s).trans ⟨rfl, rfl⟩) (hcount s))) (.same s)

theorem stepGauges_aside (s : State) : aside (stepGauges s) = aside s := Untouched.aside {}

theorem fireSource_sequences (w : WakeSource) (s : State) : sequences (fireSource w s) = sequences s := by simp [sequences]

theorem selectLink_sequences (l : Link) (s : State) : sequences (selectLink l s) = sequences s := by
  unfold selectLink
  split
  · cases l <;> rfl
  · rfl

theorem becomeSilent_sequences (l : Link) (s : State) : sequences (becomeSilent l s) = sequences s := by cases l <;> rfl

theorem execTransmitStart_counted (s : State) : Counted s (execServiceTransmitStart s) := by
  unfold execServiceTransmitStart
  split
  · exact .same s
  · exact .keptWhen ⟨rfl, rfl⟩ rfl

theorem execNoteBoundary_counted (sp : Speaker) (s : State) : Counted s (execNoteBoundary sp s) := by
  unfold execNoteBoundary
  refine Counted.ite ?_ (.same s)
  split
  · exact .same s
  · exact .settled (sequences_of_aside (aside_boundary sp _ s))

theorem event_counted {c : Instr} (h : commandRequest c = none) (hcold : ∀ i, c ≠ .coldStart i) (hrestart : ∀ i, c ≠ .restart i)
    (hwake : ∀ i, c ≠ .wakeSequence i) (hlink : ∀ l bytes, c ≠ .linkTransactionEnd l bytes) (s : State) :
    Counted s (exec c s) := by
  cases c
  case coldStart i => exact absurd rfl (hcold i)
  case restart i => exact absurd rfl (hrestart i)
  case wakeSequence i => exact absurd rfl (hwake i)
  case linkTransactionEnd l incoming => exact absurd rfl (hlink l incoming)
  case roadPulseEdge => exact execRoadPulseEdge_counted s
  case openTick => exact .keptWhen ((countTick_sameLamps _).after ⟨rfl, rfl⟩) (sequences_ite rfl rfl)
  case gaugeStepExpiry => exact .keptWhen ((stepGauges_sameLamps _).after ⟨rfl, rfl⟩) (sequences_of_aside (stepGauges_aside _))
  case modelExpiry => exact .keptWhen ((correctTank_sameLamps _).after ⟨rfl, rfl⟩) (sequences_ite rfl rfl)
  case wakeSourceFires w => exact .kept (fireSource_sameLamps w s) (fireSource_sequences w s)
  case linkSelect l =>
    exact Counted.ite (.kept (selectLink_sameLamps l s) (selectLink_sequences l s))
      (.kept (fireSource_sameLamps _ s) (fireSource_sequences _ s))
  case serviceStartBit =>
    exact Counted.ite (.settled ((activity_sequences _).trans rfl)) (.kept (fireSource_sameLamps _ s) (fireSource_sequences _ s))
  case serviceQuietExpiry =>
    exact .keptWhen ((serviceReply_sameLamps _ _).after ⟨rfl, rfl⟩) (sequences_of_aside (aside_serviceReply _ (frameActivity _)))
  case serviceTransmitStart => exact execTransmitStart_counted s
  case noteBoundary sp => exact execNoteBoundary_counted sp s
  case supplyLoss => exact .kept {} (by simp [sequences])
  case secondEnd => exact .settled (sequences_of_aside (secondEnd_aside s))
  case subMissing =>
    exact Counted.ite (.same s)
      (.settled (sequences_of_aside ((handDegraded_aside _).trans (aside_notifyBoth _ (s.withClock _)))))
  case subBack =>
    exact .settledWhen (sequences_of_aside ((dropDegraded_aside _).trans (aside_notifyBoth _ (s.withClock _))))
  case analogScanExpiry samples => exact .settledWhen ((analogScan_sequences _ _).trans rfl)
  case switchScanExpiry lines => exact .settledWhen ((switchScan_sequences _ _).trans rfl)
  case fold => exact .settledWhen (sequences_of_aside ((aside_withFoldBare _ _).trans (aside_performFold s)))
  case recordMarkApply => exact .settledWhen rfl
  case slotWriteComplete => exact .settledWhen (slotWritten_sequences s)
  case warningExpiry => exact .settledWhen ((sampleAll_sequences _).trans rfl)
  case repeatTimerExpiry w sp => exact .settledWhen (repeatEnd_sequences w sp s)
  case mainClockFaultStart => exact .settledWhen (sequences_of_aside (faultStart_aside s))
  case mainClockFaultEnd => exact .settledWhen (sequences_of_aside (aside_notifyBoth .status _))
  case parkDelayExpiry => exact .settledWhen rfl
  case awakeLimitExpiry => exact .settledWhen (limitOut_sequences s)
  case parkedEntry raw => exact .settledWhen (enterParked_sequences raw s)
  case silenceTimerExpiry l => exact .settledWhen (becomeSilent_sequences l s)
  case serviceFrameEnd => exact .settledWhen (sequences_of_aside (endFrame_aside s))
  case serviceByteReceived b good => exact .settledWhen (sequences_of_aside (receiveByte_aside b good s))
  case commitComplete agrees => exact .settledWhen (commitWritten_sequences agrees s)
  case roadAgeStale | speedSampleExpiry | enginePulseEdge | engineAgeStale | rpmSampleExpiry | manualSilenceRelease
    | pwmFrameStart | flasherPhaseChange | bulbCheckEnd | lampTestEnd | foldExpiry | transferHoldEnd | calibrationExpiry
    | calibrationComplete | wakeLineEdge | serviceFrameSent => exact .keptWhen ⟨rfl, rfl⟩ rfl
  all_goals cases h

/-- Settles O41. -/
theorem releasesAndViewSequences : Obligations.ReleasesAndViewSequences := by
  refine ⟨fun w s hl => ⟨fun hnone => ?_, fun x hx hw hc => ?_, fun x hx hw hc hgone => ?_, fun x hx hw hc hlatched hacked => ?_,
    latched_iff w⟩, fun a b => settle_counted a rfl, fun c s t hcold hrestart hwake hlink hexec => ?_⟩
  · exact release_kept (releaseList_none hnone)
  · have hfound := findEntry_of_mem hl hx
    rw [hw] at hfound
    exact release_kept (releaseList_cleared hfound hc)
  · have hfound := findEntry_of_mem hl hx
    rw [hw] at hfound
    have hfully : (warnDef w).latched = false ∨ fullyAcked x = true := hgone.imp id fun h => by
      unfold fullyAcked
      rw [hw]
      exact h
    rw [release, releaseList_removed hfound hc hfully]
    rfl
  · have hfound := findEntry_of_mem hl hx
    rw [hw] at hfound
    have hnot : fullyAcked x = false := by
      unfold fullyAcked
      rw [hw]
      exact hacked
    rw [release, releaseList_latched hfound hc hlatched hnot]
    unfold mapEntry Entry.clear
    rw [clearResting_eq]
    rfl
  · rcases hrequest : commandRequest c with _ | ⟨p, r⟩
    · exact event_counted hrequest hcold hrestart hwake hlink s t hexec
    · exact request_counted hrequest s t hexec

end Sys2Proof.Proofs.ViewCounts

/-! PROOFS. What an analog scan makes of the channels, of W15 and of the tank model (R9 to R13, R54, R104). -/

namespace Sys2Proof.Proofs.AnalogScans

open Sys2Proof Sys2Proof.Machine Sys2Proof.Proofs.StepSafety Sys2Proof.Proofs.StepInvariants Sys2Proof.Proofs.Grants Sys2Proof.Proofs.Views
  Sys2Proof.Proofs.Links Sys2Proof.Proofs.Basics Sys2Proof.Proofs.RaiseOfDefinition

/-! ### One channel -/

theorem inRange_iff (v : Byte) : sampleInRange v = true ↔ 4 ≤ v.toNat ∧ v.toNat ≤ 251 := by simp [sampleInRange]

/-- R9, R12, R13: the scan of a channel, by its state and whether the sample is in range. -/
theorem scan_sound {c : Channel} (h : c.state ≠ .fault) (k : Nat) (curve : Curve) (v : Byte) : c.scan k curve v =
    if sampleInRange v then (Channel.good { c with sample := v } k v).pass curve else Channel.bad { c with sample := v } curve := by
  unfold Channel.scan
  dsimp only
  split
  · contradiction
  · rfl
  · rfl

theorem scan_fault {c : Channel} (h : c.state = .fault) (k : Nat) (curve : Curve) (v : Byte) : c.scan k curve v =
    Channel.recover { c with sample := v } curve v := by
  unfold Channel.scan
  dsimp only
  rw [h]

theorem scan_good {c : Channel} {v : Byte} (h : c.state ≠ .fault) (hin : 4 ≤ v.toNat ∧ v.toNat ≤ 251) (k : Nat) (curve : Curve) :
    let d := c.scan k curve v
    d.filter = (if c.provisional then v.toNat * 256
      else ((c.filter : Int) + Int.tdiv ((v.toNat * 256 : Nat) - (c.filter : Int)) (2 ^ k : Nat)).toNat)
    ∧ d.state = .normal ∧ d.outCount = 0 ∧ d.provisional = false
    ∧ d.x = (2 * d.filter + 256) / 512 ∧ d.value = curve.apply d.x := by
  rw [scan_sound h, if_pos ((inRange_iff v).2 hin)]
  exact ⟨rfl, rfl, rfl, rfl, rfl, rfl⟩

theorem scan_counting {c : Channel} {v : Byte} (h : c.state ≠ .fault) (hout : ¬ (4 ≤ v.toNat ∧ v.toNat ≤ 251))
    (hcount : c.outCount + 1 < 8) (k : Nat) (curve : Curve) :
    let d := c.scan k curve v
    d.filter = c.filter ∧ d.state = .counting ∧ d.outCount = c.outCount + 1 ∧ d.provisional = c.provisional
    ∧ d.x = (2 * c.filter + 256) / 512 ∧ d.value = curve.apply d.x := by
  rw [scan_sound h, if_neg (mt (inRange_iff v).1 hout), Channel.bad, if_pos hcount]
  exact ⟨rfl, rfl, rfl, rfl, rfl, rfl⟩

theorem scan_entersFault {c : Channel} {v : Byte} (h : c.state ≠ .fault) (hout : ¬ (4 ≤ v.toNat ∧ v.toNat ≤ 251))
    (hcount : 8 ≤ c.outCount + 1) (k : Nat) (curve : Curve) :
    let d := c.scan k curve v
    d.filter = c.filter ∧ d.state = .fault ∧ d.inCount = 0 ∧ d.value = c.value := by
  rw [scan_sound h, if_neg (mt (inRange_iff v).1 hout), Channel.bad, if_neg (Nat.not_lt.2 hcount)]
  exact ⟨rfl, rfl, rfl, rfl⟩

theorem scan_staysOut {c : Channel} {v : Byte} (h : c.state = .fault) (hout : ¬ (4 ≤ v.toNat ∧ v.toNat ≤ 251)) (k : Nat)
    (curve : Curve) : c.scan k curve v = { c with sample := v, inCount := 0 } := by
  rw [scan_fault h, Channel.recover, if_pos (Bool.eq_false_iff.2 (mt (inRange_iff v).1 hout))]

theorem scan_recovering {c : Channel} {v : Byte} (h : c.state = .fault) (hin : 4 ≤ v.toNat ∧ v.toNat ≤ 251)
    (hcount : c.inCount + 1 < 16) (k : Nat) (curve : Curve) :
    c.scan k curve v = { c with sample := v, inCount := c.inCount + 1 } := by
  rw [scan_fault h, Channel.recover, if_neg (ne_false_of_eq_true ((inRange_iff v).2 hin)), if_pos hcount]

theorem scan_recovered {c : Channel} {v : Byte} (h : c.state = .fault) (hin : 4 ≤ v.toNat ∧ v.toNat ≤ 251)
    (hcount : 16 ≤ c.inCount + 1) (k : Nat) (curve : Curve) :
    let d := c.scan k curve v
    d.filter = v.toNat * 256 ∧ d.state = .normal ∧ d.outCount = 0 ∧ d.provisional = false ∧ d.value = curve.apply v.toNat := by
  have hround : roundHalfUp (v.toNat * 256) 256 = v.toNat := by
    unfold roundHalfUp
    omega
  rw [scan_fault h, Channel.recover, if_neg (ne_false_of_eq_true ((inRange_iff v).2 hin)), if_neg (Nat.not_lt.2 hcount)]
  exact ⟨rfl, rfl, rfl, rfl, congrArg (fun n : Nat => curve.apply n) hround⟩

/-! ### The members of W15 -/

/-- An ACTIVE entry of W15. -/
def Standing (e : Entry) : Prop := e.w = 15 ∧ e.cleared = false

/-- An ACTIVE entry of W15 names the channel. -/
def Named (i : Fin 6) (s : State) : Prop := ∃ e ∈ s.warn.list, Standing e ∧ (e.detail.getD 0).getLsbD i.val = true

/-- Every ACTIVE entry of W15 names the channel and no other. -/
def Alone (i : Fin 6) (s : State) : Prop := ∀ e ∈ s.warn.list, Standing e → e.detail = some (member i.val)

theorem member_bit (i j : Fin 6) : (member j.val).getLsbD i.val = decide (i = j) := by
  revert i j
  decide

theorem standing_unique {l : List Entry} (hl : ListOrdered l) {e x : Entry} (hfound : findEntry 15 l = some e) (hx : x ∈ l)
    (hw : x.w = 15) : x = e := by
  have hother := findEntry_of_mem hl hx
  rw [hw, hfound] at hother
  exact (Option.some.inj hother).symm

section
variable {s : State} (hl : ListOrdered s.warn.list)
include hl

/-- R104: what stands in W15 after a member was dropped stood before, with the rest of its members, of which there are some. -/
theorem standing_of_dropMember {d : BitVec 8} {x : Entry} (hx : x ∈ (dropMember 15 d s).warn.list) (hstands : Standing x) :
    ∃ e ∈ s.warn.list, Standing e ∧ e.detail.getD 0 &&& ~~~d ≠ 0 ∧ x.detail = some (e.detail.getD 0 &&& ~~~d) := by
  unfold dropMember at hx
  rcases hfound : findEntry 15 s.warn.list with _ | e
  · rw [hfound] at hx
    exact absurd hstands.1 (findEntry_none.1 hfound x hx)
  · rw [hfound] at hx
    dsimp only at hx
    split_ifs at hx with hleft
    · exact absurd ⟨x, hx, hstands⟩ (releaseList_gone 15 hl)
    · obtain ⟨y, hy, rfl⟩ := List.mem_map.1 hx
      by_cases hw : y.w = 15
      · rw [if_pos hw] at hstands ⊢
        cases standing_unique hl hfound hy hw
        exact ⟨e, hy, hstands, hleft, rfl⟩
      · rw [if_neg hw] at hstands
        exact absurd hstands.1 hw

theorem dropMember_named {i j : Fin 6} (h : i ≠ j) (hnamed : Named i s) : Named i (dropMember 15 (member j.val) s) := by
  obtain ⟨e, he, hstands, hbit⟩ := hnamed
  have hfound := findEntry_of_mem hl he
  rw [hstands.1] at hfound
  have hkept : (e.detail.getD 0 &&& ~~~member j.val).getLsbD i.val = true := by
    rw [BitVec.getLsbD_and, BitVec.getLsbD_not, member_bit, hbit]
    simp [h, i.isLt.trans (by decide : 6 < 8)]
  have hleft : ¬ e.detail.getD 0 &&& ~~~member j.val = 0 := fun h0 => by
    rw [h0] at hkept
    exact absurd hkept (by simp)
  unfold Named dropMember
  rw [hfound]
  dsimp only
  rw [if_neg hleft]
  exact ⟨_, List.mem_map.2 ⟨e, he, if_pos hstands.1⟩, hstands, hkept⟩

theorem dropMember_notNamed_self (i : Fin 6) : ¬ Named i (dropMember 15 (member i.val) s) := by
  rintro ⟨x, hx, hstands, hbit⟩
  obtain ⟨e, -, -, -, hdetail⟩ := standing_of_dropMember hl hx hstands
  rw [hdetail] at hbit
  simp [member_bit] at hbit

theorem dropMember_notNamed {i : Fin 6} (d : BitVec 8) (h : ¬ Named i s) : ¬ Named i (dropMember 15 d s) := by
  rintro ⟨x, hx, hstands, hbit⟩
  obtain ⟨e, he, hbefore, -, hdetail⟩ := standing_of_dropMember hl hx hstands
  rw [hdetail] at hbit
  rw [Option.getD_some, BitVec.getLsbD_and, Bool.and_eq_true] at hbit
  exact h ⟨e, he, hbefore, hbit.1⟩

theorem dropMember_alone {i j : Fin 6} (h : Alone i s) : Alone i (dropMember 15 (member j.val) s) := by
  intro x hx hstands
  obtain ⟨e, he, hbefore, hleft, hdetail⟩ := standing_of_dropMember hl hx hstands
  rw [h e he hbefore, Option.getD_some] at hleft hdetail
  have hbits (i j : Fin 6) : member i.val &&& ~~~member j.val = if i = j then 0 else member i.val := by
    revert i j
    decide
  rw [hbits] at hleft hdetail
  split_ifs at hleft hdetail
  · contradiction
  · exact hdetail

theorem dropMember_gone {i : Fin 6} (h : Alone i s) : ¬ ActiveEntry 15 (dropMember 15 (member i.val) s) := by
  rintro ⟨x, hx, hstands⟩
  obtain ⟨e, he, hbefore, hleft, -⟩ := standing_of_dropMember hl hx hstands
  rw [h e he hbefore, Option.getD_some, BitVec.and_not_self] at hleft
  exact hleft rfl

theorem dropMember_notActive (d : BitVec 8) (h : ¬ ActiveEntry 15 s) : ¬ ActiveEntry 15 (dropMember 15 d s) := by
  rintro ⟨x, hx, hstands⟩
  obtain ⟨e, he, hbefore, -, -⟩ := standing_of_dropMember hl hx hstands
  exact h ⟨e, he, hbefore⟩

theorem raise_named {i : Fin 6} (d : BitVec 8) (hnamed : Named i s) : Named i (raise 15 true d s) := by
  obtain ⟨e, he, hstands, hbit⟩ := hnamed
  have hfound := findEntry_of_mem hl he
  rw [hstands.1] at hfound
  unfold Named
  rw [raise_list, raiseList, hfound]
  dsimp only
  rw [if_neg (ne_true_of_eq_false hstands.2)]
  refine ⟨_, List.mem_map.2 ⟨e, he, if_pos hstands.1⟩, hstands, ?_⟩
  unfold Entry.updateDetail
  cases hdetail : e.detail with
  | none => simp [hdetail] at hbit
  | some o =>
    rw [hdetail, Option.getD_some] at hbit
    simp [hdetail, hbit]

omit hl in
theorem raise_notNamed {i j : Fin 6} (hne : i ≠ j) (h : ¬ Named i s) : ¬ Named i (raise 15 true (member j.val) s) := by
  rintro ⟨x, hx, hstands, hbit⟩
  have hfresh {l : List Entry} (hx : x ∈ insertEntry (freshEntry 15 s.clock.seconds (member j.val)) l)
      (hlist : ∀ e ∈ l, e.w = 15 → False) : False := by
    rcases (mem_insertEntry _ _ _).1 hx with rfl | hx
    · have hdetail : (freshEntry 15 s.clock.seconds (member j.val)).detail = some (member j.val) := rfl
      rw [hdetail, Option.getD_some, member_bit, decide_eq_true_eq] at hbit
      exact hne hbit
    · exact hlist x hx hstands.1
  rw [raise_list, raiseList] at hx
  rcases hfound : findEntry 15 s.warn.list with _ | e
  · rw [hfound] at hx
    exact hfresh hx fun y hy hw => findEntry_none.1 hfound y hy hw
  · rw [hfound] at hx
    dsimp only at hx
    split_ifs at hx
    · exact hfresh hx fun y hy hw => (mem_dropEntry.1 hy).2 hw
    · obtain ⟨y, hy, rfl⟩ := List.mem_map.1 hx
      by_cases hw : y.w = 15
      · rw [if_pos hw] at hstands hbit
        refine h ⟨y, hy, hstands, ?_⟩
        unfold Entry.updateDetail at hbit
        cases hdetail : y.detail with
        | none => simp [hdetail] at hbit
        | some o => simpa [hdetail, member_bit, hne] using hbit
      · rw [if_neg hw] at hstands
        exact hw hstands.1

end

theorem raise_named_self {s : State} (hd : DetailsPresent s.warn.list) (i : Fin 6) : Named i (raise 15 true (member i.val) s) := by
  obtain ⟨x, hx, hw, hc, hbits⟩ := raiseList_member 15 (member i.val) s.clock.seconds s.warn.list
  have hpresent := (raise_safe 15 true (member i.val) s).list.details hd x hx
  rw [hw] at hpresent
  obtain ⟨o, ho⟩ := Option.isSome_iff_exists.1 (hpresent.trans rfl)
  refine ⟨x, hx, ⟨hw, hc⟩, ?_⟩
  have hbit := congrArg (fun m => m.getLsbD i.val) (hbits o ho)
  simpa [member_bit, ho] using hbit

/-! ### The channels handed on in turn -/

/-- A channel of the scan has entered FAULT. -/
def Enters (old new : Vector Channel 6) (i : Fin 6) : Prop := old[i].state ≠ .fault ∧ new[i].state = .fault

/-- A channel of the scan has left FAULT. -/
def Leaves (old new : Vector Channel 6) (i : Fin 6) : Prop := old[i].state = .fault ∧ new[i].state ≠ .fault

theorem handChannel_enters {old new : Vector Channel 6} {i : Fin 6} (h : Enters old new i) (s : State) :
    handChannel old new s i = raise 15 true (member i.val) s := by
  have hcond : (new[i].state == .fault && !(old[i].state == .fault)) = true := by
    rw [Bool.and_eq_true, Bool.not_eq_true', beq_eq_false_iff_ne, beq_iff_eq]
    exact ⟨h.2, h.1⟩
  exact if_pos hcond

theorem handChannel_leaves {old new : Vector Channel 6} {i : Fin 6} (h : Leaves old new i) (s : State) :
    handChannel old new s i = dropMember 15 (member i.val) s := by
  have hnot : ¬ (new[i].state == .fault && !(old[i].state == .fault)) = true := by
    rw [Bool.and_eq_true, beq_iff_eq]
    exact fun hboth => h.2 hboth.1
  have hcond : (old[i].state == .fault && !(new[i].state == .fault)) = true := by
    rw [Bool.and_eq_true, Bool.not_eq_true', beq_eq_false_iff_ne, beq_iff_eq]
    exact h
  exact (if_neg hnot).trans (if_pos hcond)

theorem handChannel_same {old new : Vector Channel 6} {i : Fin 6} (h : ¬ Enters old new i) (k : ¬ Leaves old new i) (s : State) :
    handChannel old new s i = s := by
  have henters : ¬ (new[i].state == .fault && !(old[i].state == .fault)) = true := by
    rw [Bool.and_eq_true, Bool.not_eq_true', beq_eq_false_iff_ne, beq_iff_eq]
    exact fun hboth => h hboth.symm
  have hleaves : ¬ (old[i].state == .fault && !(new[i].state == .fault)) = true := by
    rw [Bool.and_eq_true, Bool.not_eq_true', beq_eq_false_iff_ne, beq_iff_eq]
    exact k
  exact (if_neg henters).trans (if_neg hleaves)

/-- What handing one channel on can do. -/
theorem handChannel_cases {P : State → Prop} {old new : Vector Channel 6} {i : Fin 6} {s : State}
    (hraise : Enters old new i → P (raise 15 true (member i.val) s))
    (hdrop : Leaves old new i → P (dropMember 15 (member i.val) s)) (hsame : P s) : P (handChannel old new s i) := by
  by_cases h : Enters old new i
  · rw [handChannel_enters h]
    exact hraise h
  by_cases k : Leaves old new i
  · rw [handChannel_leaves k]
    exact hdrop k
  · rw [handChannel_same h k]
    exact hsame

/-- The list as the handing on of channels keeps it. -/
structure Sound (s : State) : Prop where
  ordered : ListOrdered s.warn.list
  details : DetailsPresent s.warn.list

theorem handChannel_sound (old new : Vector Channel 6) {s : State} (h : Sound s) (i : Fin 6) : Sound (handChannel old new s i) :=
  have hsafe := handChannel_safe old new s i
  ⟨hsafe.list.ordered h.ordered, hsafe.list.details h.details⟩

/-- What one member of a list brings about and the others keep stands after them all. -/
theorem foldl_brings {α : Type} {f : State → α → State} {I P : State → Prop} {i : α} (hkeep : ∀ s j, I s → I (f s j))
    (hbring : ∀ s, I s → P (f s i)) (hstay : ∀ s j, j ≠ i → I s → P s → P (f s j)) {l : List α} (hmem : i ∈ l) (hl : l.Nodup)
    {s : State} (hs : I s) : P (l.foldl f s) := by
  have hrest (m : List α) (hi : i ∉ m) : ∀ s, I s → P s → P (m.foldl f s) := by
    induction m with
    | nil => exact fun _ _ hp => hp
    | cons j js ih =>
      obtain ⟨hj, hjs⟩ := not_or.1 (mt List.mem_cons.2 hi)
      exact fun s h hp => ih hjs _ (hkeep s j h) (hstay s j (Ne.symm hj) h hp)
  induction l generalizing s with
  | nil => cases hmem
  | cons j js ih =>
    obtain ⟨hj, hjs⟩ := List.nodup_cons.1 hl
    rcases List.mem_cons.1 hmem with rfl | hmem
    · exact hrest js hj _ (hkeep s i hs) (hbring s hs)
    · exact ih hmem hjs (hkeep s j hs)

/-- Every channel of a scan handed on. -/
def handChannels (old new : Vector Channel 6) (s : State) : State := (List.finRange 6).foldl (handChannel old new) s

section
variable {old new : Vector Channel 6} {s : State} (hs : Sound s) {i : Fin 6}
include hs

theorem handChannels_enters (h : Enters old new i) : Named i (handChannels old new s) := by
  refine foldl_brings (I := Sound) (fun t j ht => handChannel_sound old new ht j) (fun t ht => ?_) (fun t j hj ht hnamed => ?_)
    (List.mem_finRange i) (List.nodup_finRange 6) hs
  · rw [handChannel_enters h]
    exact raise_named_self ht.details i
  · exact handChannel_cases (fun _ => raise_named ht.ordered _ hnamed) (fun _ => dropMember_named ht.ordered hj.symm hnamed) hnamed

theorem handChannels_leaves (h : Leaves old new i) : ¬ Named i (handChannels old new s) := by
  refine foldl_brings (P := fun t => ¬ Named i t) (I := Sound) (fun t j ht => handChannel_sound old new ht j) (fun t ht => ?_)
    (fun t j hj ht hnamed => ?_) (List.mem_finRange i) (List.nodup_finRange 6) hs
  · rw [handChannel_leaves h]
    exact dropMember_notNamed_self ht.ordered i
  · exact handChannel_cases (P := fun t => ¬ Named i t) (fun _ => raise_notNamed hj.symm hnamed)
      (fun _ => dropMember_notNamed ht.ordered _ hnamed) hnamed

/-- R104: the last member that leaves takes W15 with it. -/
theorem handChannels_last (h : Leaves old new i) (hnone : ∀ j, ¬ Enters old new j) (halone : Alone i s) :
    ¬ ActiveEntry 15 (handChannels old new s) := by
  refine foldl_brings (P := fun t => ¬ ActiveEntry 15 t) (I := fun t => Sound t ∧ Alone i t)
    (fun t j ⟨ht, ha⟩ => ⟨handChannel_sound old new ht j, ?_⟩) (fun t ⟨ht, ha⟩ => ?_) (fun t j _ ⟨ht, _⟩ hgone => ?_)
    (List.mem_finRange i) (List.nodup_finRange 6) ⟨hs, halone⟩
  · exact handChannel_cases (fun henters => absurd henters (hnone j)) (fun _ => dropMember_alone ht.ordered ha) ha
  · rw [handChannel_leaves h]
    exact dropMember_gone ht.ordered ha
  · exact handChannel_cases (P := fun t => ¬ ActiveEntry 15 t) (fun henters => absurd henters (hnone j))
      (fun _ => dropMember_notActive ht.ordered _ hgone) hgone

end

theorem handChannels_same {old new : Vector Channel 6} (h : ∀ j, ¬ Enters old new j ∧ ¬ Leaves old new j) (s : State) :
    handChannels old new s = s := by
  have hall (l : List (Fin 6)) : l.foldl (handChannel old new) s = s := by
    induction l with
    | nil => rfl
    | cons j js ih => rw [List.foldl_cons, handChannel_same (h j).1 (h j).2, ih]
  exact hall _

/-- Handing the channels on changes the active list and nothing else. -/
theorem handChannels_withList (old new : Vector Channel 6) (s : State) :
    handChannels old new s = s.withList (handChannels old new s).warn.list := by
  have hone (t : State) (j : Fin 6) : ∃ l, handChannel old new t j = t.withList l :=
    handChannel_cases (P := fun u => ∃ l, u = t.withList l) (fun _ => ⟨_, rfl⟩) (fun _ => by
      unfold dropMember
      split
      · exact ⟨_, rfl⟩
      · dsimp only
        split_ifs
        · exact ⟨_, rfl⟩
        · exact ⟨_, rfl⟩) ⟨t.warn.list, rfl⟩
  have hall (js : List (Fin 6)) : ∀ t, ∃ l, js.foldl (handChannel old new) t = t.withList l := by
    induction js with
    | nil => exact fun t => ⟨t.warn.list, rfl⟩
    | cons j js ih =>
      intro t
      obtain ⟨l, hl⟩ := hone t j
      obtain ⟨m, hm⟩ := ih (t.withList l)
      exact ⟨m, by rw [List.foldl_cons, hl, hm]; rfl⟩
  obtain ⟨l, hl⟩ := hall (List.finRange 6) s
  unfold handChannels
  rw [hl]
  rfl

/-! ### The fast window -/

/-- R54: the end of a fast window snaps the tank model. -/
def Snaps (s : State) : Prop :=
  s.power.state = .run ∧ (∃ n, s.meas.fastWindow = some n ∧ 8 ≤ n + 1) ∧ fuelFault s = false
    ∧ (s.fold.tank.settled = false ∨ 5000 < (senderSum s - s.fold.tank.q).natAbs)

/-- R54: the tank model as it has snapped. -/
def snapped (s : State) : State :=
  notifyBoth .status (s.withFold fun f => { f with tank := ⟨clampQ s (senderSum s), true, true, true, true⟩ })

theorem fastWindowEnd_cases (s : State) : fastWindowEnd s =
    if fuelFault s = false ∧ (s.fold.tank.settled = false ∨ 5000 < (senderSum s - s.fold.tank.q).natAbs) then snapped s else s := by
  unfold fastWindowEnd
  by_cases hfault : fuelFault s = true
  · rw [if_pos hfault, if_neg (by simp [hfault])]
  · rw [if_neg hfault]
    exact if_congr (by simp [hfault]) rfl rfl

theorem countFast_meas (s : State) : (countFast s).meas = { s.meas with
    fastWindow := if s.power.state = .run then s.meas.fastWindow.bind fun n => if n + 1 < 8 then some (n + 1) else none
      else s.meas.fastWindow } := by
  unfold countFast
  rcases hwindow : s.meas.fastWindow with _ | n
  · have hsame : s.meas = { s.meas with fastWindow := none } := by rw [← hwindow]
    rw [Option.bind_none, ite_self]
    exact hsame
  · dsimp only [Option.bind_some]
    by_cases hrun : s.power.state = .run
    · rw [if_neg (not_not.2 hrun), if_pos hrun]
      split_ifs with hn
      · rfl
      · rw [fastWindowEnd_meas]
        rfl
    · rw [if_pos hrun, if_neg hrun, ← hwindow]

theorem countFast_snaps {s : State} (h : Snaps s) : countFast s = snapped (s.withMeas fun m => { m with fastWindow := none }) := by
  obtain ⟨hrun, ⟨n, hn, hlast⟩, hfault, hfar⟩ := h
  unfold countFast
  rw [hn]
  dsimp only
  rw [if_neg (not_not.2 hrun), if_neg (Nat.not_lt.2 hlast), fastWindowEnd_cases]
  exact if_pos ⟨hfault, hfar⟩

theorem countFast_fold {s : State} (h : ¬ Snaps s) : (countFast s).fold = s.fold := by
  unfold countFast
  rcases hwindow : s.meas.fastWindow with _ | n
  · rfl
  · dsimp only
    split_ifs with hrun hn
    · rfl
    · rfl
    · rw [fastWindowEnd_cases]
      exact (congrArg State.fold (if_neg fun hends => h ⟨not_not.1 hrun, ⟨n, hwindow, Nat.not_lt.1 hn⟩, hends⟩)).trans rfl

/-- Nothing but the fast window, the tank model and the notices comes of counting the fast window. -/
theorem countFast_rest (s : State) : (countFast s).warn = s.warn ∧ (countFast s).pins = s.pins ∧ (countFast s).timers = s.timers
    ∧ SameRecords s (countFast s) ∧ (countFast s).settings = s.settings ∧ (countFast s).units = s.units
    ∧ (countFast s).service = s.service ∧ (countFast s).clock = s.clock := by
  unfold countFast
  split
  · simp [SameRecords]
  · split_ifs <;> simp [SameRecords]

/-! ### The scan -/

theorem settled_named (i : Fin 6) (a s : State) : Named i (settle a s) ↔ Named i s :=
  exists_of_view (P := fun e => Standing e ∧ (e.detail.getD 0).getLsbD i.val = true) (fun _ => Iff.rfl) (settle_shown a s)

theorem scanChannels_get (samples : Vector Byte 6) (s : State) (i : Fin 6) : (scanChannels samples s)[i] =
    (s.meas.channels[i]).scan (filterConstant s i) s.settings.work.senders[i] samples[i] := by simp [scanChannels]

/-- R9: the state as the analog expiry has it, with its channels scanned. -/
def scanned (samples : Vector Byte 6) (s : State) : State :=
  { s with
    timers := { s.timers with analog := samplePeriod }, pins := { s.pins with samples := samples }
    meas := { s.meas with channels := scanChannels samples s } }

/-- R12, R13: the channels of the scan have been handed on. -/
def handed (samples : Vector Byte 6) (s : State) : State :=
  handChannels s.meas.channels (scanChannels samples s) (scanned samples s)

theorem analogScanExpiry_settled {s : State} (h : clocked s = true) (samples : Vector Byte 6) :
    exec (.analogScanExpiry samples) s = .next (settle s (countFast (handed samples s))) := if_pos h

theorem handed_eq (samples : Vector Byte 6) (s : State) : handed samples s =
    (scanned samples s).withList (handed samples s).warn.list := handChannels_withList _ _ _

/-- R9, R10: the measurements after an analog scan. -/
theorem settled_meas (samples : Vector Byte 6) (s : State) : (settle s (countFast (handed samples s))).meas = { s.meas with
    channels := scanChannels samples s
    fastWindow := if s.power.state = .run then s.meas.fastWindow.bind fun n => if n + 1 < 8 then some (n + 1) else none
      else s.meas.fastWindow } := by
  rw [settle_meas, countFast_meas, handed_eq]
  rfl

theorem handed_rest (samples : Vector Byte 6) (s : State) : (countFast (handed samples s)).pins = { s.pins with samples := samples }
    ∧ (countFast (handed samples s)).timers = { s.timers with analog := 62500 } ∧ SameRecords s (countFast (handed samples s))
    ∧ (countFast (handed samples s)).settings = s.settings ∧ (countFast (handed samples s)).units = s.units
    ∧ (countFast (handed samples s)).service = s.service ∧ (countFast (handed samples s)).clock = s.clock := by
  have hrest := (countFast_rest (handed samples s)).2
  rw [handed_eq] at hrest ⊢
  exact hrest

theorem handed_list (samples : Vector Byte 6) (s : State) : (countFast (handed samples s)).warn = (handed samples s).warn :=
  (countFast_rest _).1

theorem countFast_named (i : Fin 6) (a s : State) : Named i (settle a (countFast s)) ↔ Named i s := by
  rw [settled_named, Named, (countFast_rest s).1]
  rfl

theorem countFast_active (a s : State) : ActiveEntry 15 (settle a (countFast s)) ↔ ActiveEntry 15 s := by
  rw [activeEntry_of_shown (settle_shown a _) 15, ActiveEntry, (countFast_rest s).1]

/-- R51, R54: the scan snaps the tank model. -/
theorem handed_snaps (samples : Vector Byte 6) (s : State) : Snaps (handed samples s) ↔
    s.power.state = .run ∧ (∃ n, s.meas.fastWindow = some n ∧ 8 ≤ n + 1)
    ∧ (scanChannels samples s)[0].state ≠ .fault ∧ (scanChannels samples s)[1].state ≠ .fault
    ∧ (s.fold.tank.settled = false
      ∨ 5000 < (((scanChannels samples s)[0].value : Int) + (scanChannels samples s)[1].value - s.fold.tank.q).natAbs) := by
  rw [handed_eq]
  have hfault : fuelFault ((scanned samples s).withList (handed samples s).warn.list) = false
      ↔ (scanChannels samples s)[0].state ≠ .fault ∧ (scanChannels samples s)[1].state ≠ .fault := by
    unfold fuelFault
    rw [Bool.or_eq_false_iff, beq_eq_false_iff_ne, beq_eq_false_iff_ne]
    rfl
  unfold Snaps
  rw [hfault, and_assoc]
  rfl

/-- Settles O11. -/
theorem analogScanStepsChannels : Obligations.AnalogScanStepsChannels := by
  intro s samples i hclock hordered hdetails
  refine ⟨_, analogScanExpiry_settled hclock samples, ?_⟩
  have hsound : Sound (scanned samples s) := ⟨hordered, hdetails⟩
  obtain ⟨hpins, htimers, ⟨hodo, ha, hb, hp, hcharter, hheld, hlog⟩, hsettings, hunits, hservice, hclocks⟩ := handed_rest samples s
  have hmeas := settled_meas samples s
  have hchannels := congrArg Measure.channels hmeas
  dsimp only at hchannels
  have hchannel : (settle s (countFast (handed samples s))).meas.channels[i] =
      (s.meas.channels[i]).scan (filterConstant s i) s.settings.work.senders[i] samples[i] := by
    rw [hchannels, scanChannels_get]
  refine ⟨?_, ?_, ?_, ?_, by simpa using hpins, by simpa using htimers, by rw [hmeas], by rw [hmeas], by rw [hmeas], ?_,
    by simpa using hsettings, by simpa using hunits, by simpa using hservice, by simpa using hclocks⟩
  · dsimp only
    rw [hchannel]
    exact ⟨fun h hin => scan_good h hin _ _, fun h hout hcount => scan_counting h hout hcount _ _,
      fun h hout hcount => scan_entersFault h hout hcount _ _, fun h hout => scan_staysOut h hout _ _,
      fun h hin hcount => scan_recovering h hin hcount _ _, fun h hin hcount => scan_recovered h hin hcount _ _⟩
  · intro hrun n hn
    rw [hmeas, if_pos hrun, hn, Option.bind_some]
  · dsimp only
    rw [hchannels]
    refine ⟨fun h => ?_, fun h e he hw hc => ?_, fun h hnone halone => ?_, fun h => ?_⟩
    · obtain ⟨e, he, ⟨hw, hc⟩, hbit⟩ := (countFast_named i s (handed samples s)).2 (handChannels_enters hsound h)
      exact ⟨e, he, hw, hc, hbit⟩
    · exact Bool.eq_false_iff.2 fun hbit => handChannels_leaves hsound h
        ((countFast_named i s (handed samples s)).1 ⟨e, he, ⟨hw, hc⟩, hbit⟩)
    · exact mt (countFast_active s (handed samples s)).1
        (handChannels_last hsound h hnone fun e he hstands => halone e he hstands.1 hstands.2)
    · refine (settle_shown s _).trans ?_
      rw [handed_list, handed, handChannels_same h]
      rfl
  · dsimp only
    rw [hchannels]
    refine ⟨fun h => ?_, fun h => ?_⟩
    · have hsnap := countFast_snaps ((handed_snaps samples s).2 h)
      rw [handed_eq] at hsnap
      refine ⟨?_, ?_, ?_⟩
      · rw [settle_fold, handed_eq, hsnap, snapped, notifyBoth_fold]
        rfl
      · rw [settle_fold, handed_eq, hsnap, snapped, notifyBoth_fold]
        rfl
      · rw [handed_eq, hsnap]
        exact (settle_portsKept s _).notified (notified_notifyBoth .status _)
    · rw [settle_fold, countFast_fold (mt (handed_snaps samples s).1 h), handed_eq]
      rfl
  · simpa [SameRecords] using ⟨hodo, ha, hb, hp, hcharter, hheld, hlog⟩

end Sys2Proof.Proofs.AnalogScans

/-! PROOFS. What W16 names (R61, R76, R77, R104): the first entry of a definition through raises and releases, and a record
that the ACTIVE entry of W16 names. -/

namespace Sys2Proof.Proofs.NamedRecords

open Sys2Proof Sys2Proof.Machine Sys2Proof.Proofs.RaiseOfDefinition Sys2Proof.Proofs.Views Sys2Proof.Proofs.Warnings

/-! ### The entry of one definition, through a change of another -/

theorem findEntry_cons (w : Fin 24) (x : Entry) (l : List Entry) :
    findEntry w (x :: l) = if x.w = w then some x else findEntry w l := by
  unfold findEntry
  rw [List.find?_cons]
  by_cases h : x.w = w
  · simp [h]
  · simp [h, beq_false_of_ne h]

theorem findEntry_insert_other {w : Fin 24} {e : Entry} (h : e.w ≠ w) (l : List Entry) :
    findEntry w (insertEntry e l) = findEntry w l := by
  induction l with
  | nil => exact (findEntry_cons w e []).trans (if_neg h)
  | cons x xs ih =>
    unfold insertEntry
    split_ifs
    · rw [findEntry_cons, findEntry_cons, ih]
    · rw [findEntry_cons, if_neg h]

theorem findEntry_drop_other {w v : Fin 24} (h : w ≠ v) (l : List Entry) : findEntry w (dropEntry v l) = findEntry w l := by
  unfold findEntry dropEntry
  rw [List.find?_filter]
  congr 1
  funext e
  by_cases he : e.w = w
  · simp [he, h]
  · simp [he]

theorem findEntry_map_other {w v : Fin 24} (h : w ≠ v) {f : Entry → Entry} (hf : ∀ e, (f e).w = e.w) (l : List Entry) :
    findEntry w (mapEntry v f l) = findEntry w l := by
  induction l with
  | nil => rfl
  | cons x xs ih =>
    have hcons : mapEntry v f (x :: xs) = (if x.w = v then f x else x) :: mapEntry v f xs := rfl
    rw [hcons, findEntry_cons, findEntry_cons, ih]
    by_cases hx : x.w = v
    · rw [if_pos hx, hf, hx, if_neg h.symm, if_neg h.symm]
    · rw [if_neg hx]

theorem findEntry_raise_other {w v : Fin 24} (h : w ≠ v) (add : Bool) (d : BitVec 8) (s : State) :
    findEntry w (raise v add d s).warn.list = findEntry w s.warn.list := by
  have hfresh (l : List Entry) : findEntry w (insertEntry (freshEntry v s.clock.seconds d) l) = findEntry w l :=
    findEntry_insert_other h.symm l
  show findEntry w (raiseList v add d s.clock.seconds s.warn.list) = _
  unfold raiseList
  rcases findEntry v s.warn.list with _ | e
  · exact hfresh _
  · dsimp only
    split_ifs
    · rw [hfresh, findEntry_drop_other h]
    · exact findEntry_map_other h (f := fun x => x.updateDetail add d) (fun _ => rfl) _

theorem findEntry_release_other {w v : Fin 24} (h : w ≠ v) (s : State) :
    findEntry w (release v s).warn.list = findEntry w s.warn.list := by
  show findEntry w (releaseList v s.warn.list) = _
  unfold releaseList
  rcases findEntry v s.warn.list with _ | e
  · rfl
  · dsimp only
    split_ifs
    · rfl
    · exact findEntry_map_other h (f := Entry.clear) (fun _ => rfl) _
    · exact findEntry_drop_other h _

/-! ### W16 names a record -/

/-- The entry of W16 is ACTIVE and names a record. -/
def Carried (k : Nat) (s : State) : Prop :=
  ∃ e, findEntry 16 s.warn.list = some e ∧ e.cleared = false ∧ ∃ d, e.detail = some d ∧ d.getLsbD k = true

theorem Carried.of_find {k : Nat} {s t : State} (h : Carried k s) (hfind : findEntry 16 t.warn.list = findEntry 16 s.warn.list) :
    Carried k t := by
  unfold Carried
  rw [hfind]
  exact h

theorem Carried.of_warn {k : Nat} {s t : State} (h : Carried k s) (hwarn : t.warn = s.warn) : Carried k t :=
  h.of_find (by rw [hwarn])

theorem Carried.of_shown {k : Nat} {s t : State} (h : Carried k s) (hshown : SameShown s t) : Carried k t := by
  obtain ⟨e, he, hc, d, hd, hbit⟩ := h
  obtain ⟨x, hx, hview⟩ := findEntry_of_view hshown he
  have hcleared := congrArg Entry.cleared hview
  have hdetail := congrArg Entry.detail hview
  exact ⟨x, hx, hcleared.trans hc, d, hdetail.trans hd, hbit⟩

theorem Carried.raise_other {k : Nat} {s : State} (h : Carried k s) {v : Fin 24} (hv : 16 ≠ v) (add : Bool) (d : BitVec 8) :
    Carried k (raise v add d s) := h.of_find (findEntry_raise_other hv add d s)

theorem Carried.release_other {k : Nat} {s : State} (h : Carried k s) {v : Fin 24} (hv : 16 ≠ v) : Carried k (release v s) :=
  h.of_find (findEntry_release_other hv s)

/-- R104: a further member leaves the members that stand. -/
theorem Carried.raise {k : Nat} {s : State} (h : Carried k s) (m : BitVec 8) : Carried k (raise 16 true m s) := by
  obtain ⟨e, he, hc, d, hd, hbit⟩ := h
  refine ⟨e.updateDetail true m, ?_, hc, d ||| m, ?_, ?_⟩
  · rw [raise_list, raiseList, he]
    dsimp only
    rw [if_neg (ne_true_of_eq_false hc), findEntry_mapEntry 16 (f := fun x => x.updateDetail true m) (fun _ => rfl), he]
    rfl
  · unfold Entry.updateDetail
    rw [hd]
    rfl
  · rw [BitVec.getLsbD_or, hbit, Bool.true_or]

/-- R61, R77: a record that is handed is named. -/
theorem carried_raise {s : State} (hd : DetailsPresent s.warn.list) {k : Nat} (hk : k < 8) :
    Carried k (raise 16 true (member k) s) := by
  have hbit : (member k).getLsbD k = true := by simp [member, hk]
  have hfresh {l : List Entry} (hl : ∀ x ∈ l, x.w ≠ 16) :
      findEntry 16 (insertEntry (freshEntry 16 s.clock.seconds (member k)) l) = some (freshEntry 16 s.clock.seconds (member k)) :=
    findEntry_insert rfl hl
  unfold Carried
  rw [raise_list, raiseList]
  rcases hfound : findEntry 16 s.warn.list with _ | e
  · exact ⟨_, hfresh (findEntry_none.1 hfound), rfl, _, rfl, hbit⟩
  · obtain ⟨hmem, hw⟩ := findEntry_some hfound
    dsimp only
    split_ifs with hc
    · exact ⟨_, hfresh fun x hx => (mem_dropEntry.1 hx).2, rfl, _, rfl, hbit⟩
    · have hpresent := hd e hmem
      rw [hw] at hpresent
      obtain ⟨o, ho⟩ := Option.isSome_iff_exists.1 (hpresent.trans rfl)
      refine ⟨e.updateDetail true (member k), ?_, Bool.eq_false_iff.2 hc, o ||| member k, ?_, ?_⟩
      · rw [findEntry_mapEntry 16 (f := fun x => x.updateDetail true (member k)) (fun _ => rfl), hfound]
        rfl
      · unfold Entry.updateDetail
        rw [ho]
        rfl
      · rw [BitVec.getLsbD_or, hbit, Bool.or_true]

/-- What the statements ask of W16. -/
theorem Carried.exists {k : Nat} {s : State} (h : Carried k s) :
    ∃ e ∈ s.warn.list, e.w = 16 ∧ e.cleared = false ∧ ∃ d, e.detail = some d ∧ d.getLsbD k = true := by
  obtain ⟨e, he, hrest⟩ := h
  obtain ⟨hmem, hw⟩ := findEntry_some he
  exact ⟨e, hmem, hw, hrest⟩

end Sys2Proof.Proofs.NamedRecords

/-! PROOFS. The steps of the three resets (R64, R78, R82, R83, R117, R138, R139, R155, R159, R166, R182): what each retention check
leaves unchanged, and the blocks as the checks and the starts leave them. -/

namespace Sys2Proof.Proofs.Resets

open Sys2Proof Sys2Proof.Machine Sys2Proof.Proofs.StepSafety Sys2Proof.Proofs.BlockSafety Sys2Proof.Proofs.StepInvariants
  Sys2Proof.Proofs.Grants Sys2Proof.Proofs.Views Sys2Proof.Proofs.NamedRecords

/-! ### startFault -/

@[simp] theorem startFault_fold (i : StartInputs) (s : State) : (startFault i s).fold = s.fold := by simp [startFault]
@[simp] theorem startFault_store (i : StartInputs) (s : State) : (startFault i s).store = s.store := by simp [startFault]
@[simp] theorem startFault_nv (i : StartInputs) (s : State) : (startFault i s).nv = s.nv := by simp [startFault]
@[simp] theorem startFault_units (i : StartInputs) (s : State) : (startFault i s).units = s.units := by simp [startFault]
@[simp] theorem startFault_service (i : StartInputs) (s : State) : (startFault i s).service = s.service := by simp [startFault]
@[simp] theorem startFault_power (i : StartInputs) (s : State) : (startFault i s).power = s.power := by simp [startFault]
@[simp] theorem startFault_settings (i : StartInputs) (s : State) : (startFault i s).settings = s.settings := by simp [startFault]

/-! ### reloadSettings -/

@[simp] theorem reloadSettings_fold (s : State) : (reloadSettings s).fold = s.fold := by unfold reloadSettings; split <;> simp
@[simp] theorem reloadSettings_store (s : State) : (reloadSettings s).store = s.store := by unfold reloadSettings; split <;> simp
@[simp] theorem reloadSettings_nv (s : State) : (reloadSettings s).nv = s.nv := by unfold reloadSettings; split <;> simp
@[simp] theorem reloadSettings_units (s : State) : (reloadSettings s).units = s.units := by unfold reloadSettings; split <;> simp
@[simp] theorem reloadSettings_service (s : State) : (reloadSettings s).service = s.service := by unfold reloadSettings; split <;> simp
@[simp] theorem reloadSettings_clock (s : State) : (reloadSettings s).clock = s.clock := by unfold reloadSettings; split <;> simp
@[simp] theorem reloadSettings_power (s : State) : (reloadSettings s).power = s.power := by unfold reloadSettings; split <;> simp

/-! ### checkSettings -/

@[simp] theorem checkSettings_fold (s : State) : (checkSettings s).fold = s.fold := by unfold checkSettings; split_ifs <;> simp
@[simp] theorem checkSettings_store (s : State) : (checkSettings s).store = s.store := by unfold checkSettings; split_ifs <;> simp
@[simp] theorem checkSettings_nv (s : State) : (checkSettings s).nv = s.nv := by unfold checkSettings; split_ifs <;> simp
@[simp] theorem checkSettings_units (s : State) : (checkSettings s).units = s.units := by unfold checkSettings; split_ifs <;> simp
@[simp] theorem checkSettings_service (s : State) : (checkSettings s).service = s.service := by unfold checkSettings; split_ifs <;> simp
@[simp] theorem checkSettings_clock (s : State) : (checkSettings s).clock = s.clock := by unfold checkSettings; split_ifs <;> simp
@[simp] theorem checkSettings_power (s : State) : (checkSettings s).power = s.power := by unfold checkSettings; split_ifs <;> simp

/-! ### checkFold -/

@[simp] theorem checkFold_store (s : State) : (checkFold s).store = s.store := by unfold checkFold; split_ifs <;> simp
@[simp] theorem checkFold_nv (s : State) : (checkFold s).nv = s.nv := by unfold checkFold; split_ifs <;> simp
@[simp] theorem checkFold_units (s : State) : (checkFold s).units = s.units := by unfold checkFold; split_ifs <;> simp
@[simp] theorem checkFold_service (s : State) : (checkFold s).service = s.service := by unfold checkFold; split_ifs <;> simp
@[simp] theorem checkFold_clock (s : State) : (checkFold s).clock = s.clock := by unfold checkFold; split_ifs <;> simp
@[simp] theorem checkFold_power (s : State) : (checkFold s).power = s.power := by unfold checkFold; split_ifs <;> simp
@[simp] theorem checkFold_settings (s : State) : (checkFold s).settings = s.settings := by unfold checkFold; split_ifs <;> simp

/-! ### reloadFold -/

@[simp] theorem reloadFold_store (old : Settings) (s : State) : (reloadFold old s).store = s.store := by simp [reloadFold]
@[simp] theorem reloadFold_nv (old : Settings) (s : State) : (reloadFold old s).nv = s.nv := by simp [reloadFold]
@[simp] theorem reloadFold_units (old : Settings) (s : State) : (reloadFold old s).units = s.units := by simp [reloadFold]
@[simp] theorem reloadFold_service (old : Settings) (s : State) : (reloadFold old s).service = s.service := by simp [reloadFold]
@[simp] theorem reloadFold_clock (old : Settings) (s : State) : (reloadFold old s).clock = s.clock := by simp [reloadFold]
@[simp] theorem reloadFold_power (old : Settings) (s : State) : (reloadFold old s).power = s.power := by simp [reloadFold]
@[simp] theorem reloadFold_settings (old : Settings) (s : State) : (reloadFold old s).settings = s.settings := by simp [reloadFold]

/-! ### checkItems -/

@[simp] theorem checkItems_fold (s : State) : (checkItems s).fold = s.fold := by unfold checkItems; split_ifs <;> simp
@[simp] theorem checkItems_store (s : State) : (checkItems s).store = s.store := by unfold checkItems; split_ifs <;> simp
@[simp] theorem checkItems_nv (s : State) : (checkItems s).nv = s.nv := by unfold checkItems; split_ifs <;> simp
@[simp] theorem checkItems_units (s : State) : (checkItems s).units = s.units := by unfold checkItems; split_ifs <;> simp
@[simp] theorem checkItems_clock (s : State) : (checkItems s).clock = s.clock := by unfold checkItems; split_ifs <;> simp
@[simp] theorem checkItems_power (s : State) : (checkItems s).power = s.power := by unfold checkItems; split_ifs <;> simp
@[simp] theorem checkItems_settings (s : State) : (checkItems s).settings = s.settings := by unfold checkItems; split_ifs <;> simp

/-! ### reloadItems -/

@[simp] theorem reloadItems_fold (old : Settings) (s : State) : (reloadItems old s).fold = s.fold := rfl
@[simp] theorem reloadItems_store (old : Settings) (s : State) : (reloadItems old s).store = s.store := rfl
@[simp] theorem reloadItems_nv (old : Settings) (s : State) : (reloadItems old s).nv = s.nv := rfl
@[simp] theorem reloadItems_units (old : Settings) (s : State) : (reloadItems old s).units = s.units := rfl
@[simp] theorem reloadItems_clock (old : Settings) (s : State) : (reloadItems old s).clock = s.clock := rfl
@[simp] theorem reloadItems_power (old : Settings) (s : State) : (reloadItems old s).power = s.power := rfl
@[simp] theorem reloadItems_settings (old : Settings) (s : State) : (reloadItems old s).settings = s.settings := rfl

/-! ### checkTables -/

@[simp] theorem checkTables_store (old : Settings) (b : Bool) (s : State) : (checkTables old b s).store = s.store := by unfold checkTables; dsimp only; split_ifs <;> simp
@[simp] theorem checkTables_nv (old : Settings) (b : Bool) (s : State) : (checkTables old b s).nv = s.nv := by unfold checkTables; dsimp only; split_ifs <;> simp
@[simp] theorem checkTables_units (old : Settings) (b : Bool) (s : State) : (checkTables old b s).units = s.units := by unfold checkTables; dsimp only; split_ifs <;> simp
@[simp] theorem checkTables_clock (old : Settings) (b : Bool) (s : State) : (checkTables old b s).clock = s.clock := by unfold checkTables; dsimp only; split_ifs <;> simp
@[simp] theorem checkTables_power (old : Settings) (b : Bool) (s : State) : (checkTables old b s).power = s.power := by unfold checkTables; dsimp only; split_ifs <;> simp
@[simp] theorem checkTables_settings (old : Settings) (b : Bool) (s : State) : (checkTables old b s).settings = s.settings := by unfold checkTables; dsimp only; split_ifs <;> simp

/-! ### startMarks -/

@[simp] theorem startMarks_fold (m : HeldMarks) (s : State) : (startMarks m s).fold = s.fold := by simp [startMarks]
@[simp] theorem startMarks_nv (m : HeldMarks) (s : State) : (startMarks m s).nv = s.nv := by simp [startMarks]
@[simp] theorem startMarks_units (m : HeldMarks) (s : State) : (startMarks m s).units = s.units := by simp [startMarks]
@[simp] theorem startMarks_service (m : HeldMarks) (s : State) : (startMarks m s).service = s.service := by simp [startMarks]
@[simp] theorem startMarks_clock (m : HeldMarks) (s : State) : (startMarks m s).clock = s.clock := by simp [startMarks]
@[simp] theorem startMarks_power (m : HeldMarks) (s : State) : (startMarks m s).power = s.power := by simp [startMarks]
@[simp] theorem startMarks_settings (m : HeldMarks) (s : State) : (startMarks m s).settings = s.settings := by simp [startMarks]

/-! ### checkUnits -/

@[simp] theorem checkUnits_fold (s : State) : (checkUnits s).fold = s.fold := by unfold checkUnits; split_ifs <;> simp
@[simp] theorem checkUnits_store (s : State) : (checkUnits s).store = s.store := by unfold checkUnits; split_ifs <;> simp
@[simp] theorem checkUnits_nv (s : State) : (checkUnits s).nv = s.nv := by unfold checkUnits; split_ifs <;> simp
@[simp] theorem checkUnits_service (s : State) : (checkUnits s).service = s.service := by unfold checkUnits; split_ifs <;> simp
@[simp] theorem checkUnits_clock (s : State) : (checkUnits s).clock = s.clock := by unfold checkUnits; split_ifs <;> simp
@[simp] theorem checkUnits_power (s : State) : (checkUnits s).power = s.power := by unfold checkUnits; split_ifs <;> simp
@[simp] theorem checkUnits_settings (s : State) : (checkUnits s).settings = s.settings := by unfold checkUnits; split_ifs <;> simp

/-! ### checkLimit -/

@[simp] theorem checkLimit_fold (s : State) : (checkLimit s).fold = s.fold := by unfold checkLimit storeLimit; split_ifs <;> simp
@[simp] theorem checkLimit_store (s : State) : (checkLimit s).store = s.store := by unfold checkLimit storeLimit; split_ifs <;> simp
@[simp] theorem checkLimit_nv (s : State) : (checkLimit s).nv = s.nv := by unfold checkLimit storeLimit; split_ifs <;> simp
@[simp] theorem checkLimit_units (s : State) : (checkLimit s).units = s.units := by unfold checkLimit storeLimit; split_ifs <;> simp
@[simp] theorem checkLimit_service (s : State) : (checkLimit s).service = s.service := by unfold checkLimit storeLimit; split_ifs <;> simp
@[simp] theorem checkLimit_clock (s : State) : (checkLimit s).clock = s.clock := by unfold checkLimit storeLimit; split_ifs <;> simp
@[simp] theorem checkLimit_power (s : State) : (checkLimit s).power = s.power := by unfold checkLimit storeLimit; split_ifs <;> simp
@[simp] theorem checkLimit_settings (s : State) : (checkLimit s).settings = s.settings := by unfold checkLimit storeLimit; split_ifs <;> simp

/-! ### checkAlarmWord -/

@[simp] theorem checkAlarmWord_fold (s : State) : (checkAlarmWord s).fold = s.fold := by unfold checkAlarmWord storeAlarm; split_ifs <;> simp
@[simp] theorem checkAlarmWord_store (s : State) : (checkAlarmWord s).store = s.store := by unfold checkAlarmWord storeAlarm; split_ifs <;> simp
@[simp] theorem checkAlarmWord_nv (s : State) : (checkAlarmWord s).nv = s.nv := by unfold checkAlarmWord storeAlarm; split_ifs <;> simp
@[simp] theorem checkAlarmWord_units (s : State) : (checkAlarmWord s).units = s.units := by unfold checkAlarmWord storeAlarm; split_ifs <;> simp
@[simp] theorem checkAlarmWord_service (s : State) : (checkAlarmWord s).service = s.service := by unfold checkAlarmWord storeAlarm; split_ifs <;> simp
@[simp] theorem checkAlarmWord_power (s : State) : (checkAlarmWord s).power = s.power := by unfold checkAlarmWord storeAlarm; split_ifs <;> simp
@[simp] theorem checkAlarmWord_settings (s : State) : (checkAlarmWord s).settings = s.settings := by unfold checkAlarmWord storeAlarm; split_ifs <;> simp
/-! ### What a check makes of its block -/

theorem startFault_clock (i : StartInputs) (s : State) : (startFault i s).clock = { s.clock with mainFault := !i.mainEdge } := by
  simp [startFault]

/-- R182: the store after a reload, by whether the block is good. -/
theorem reloadSettings_good {s : State} {w : Settings} (h : goodBlock s.nv = some w) : (reloadSettings s).settings =
    { s.settings with work := w, check := settingsCheck w } := by
  unfold reloadSettings
  rw [h]
  exact notifyBoth_settings _ _

theorem reloadSettings_none {s : State} (h : goodBlock s.nv = none) : (reloadSettings s).settings =
    { s.settings with work := .builtIn, check := settingsCheck .builtIn, defaulted := true } := by
  unfold reloadSettings
  rw [h]
  exact notifyBoth_settings _ _

theorem checkSettings_same {s : State} (h : s.settings.check = settingsCheck s.settings.work) : checkSettings s = s := if_pos h

theorem checkSettings_reload {s : State} (h : s.settings.check ≠ settingsCheck s.settings.work) :
    checkSettings s = reloadSettings s := if_neg h

theorem checkUnits_units (s : State) : (checkUnits s).units =
    if s.units.check = unitCheck s.units.front s.units.rear ∧ s.units.front ≤ 2 ∧ s.units.rear ≤ 2 then s.units else ⟨0, 0, 5⟩ := by
  unfold checkUnits
  split_ifs
  · rfl
  · rw [notifyBoth_units]
    rfl

theorem checkAlarmWord_clock (s : State) : (checkAlarmWord s).clock =
    if s.clock.alarmCheck = alarmCheck s.clock.alarm then s.clock
    else { s.clock with alarm := none, alarmCheck := alarmCheck none } := by
  unfold checkAlarmWord
  split_ifs
  · rfl
  · rw [notifyBoth_clock]
    rfl

/-- R117: the overspeed limit with its check word. -/
def limitWord (s : State) : Nat × Nat := (s.warn.limit, s.warn.limitCheck)

theorem limitWord_of_warn {s t : State} (h : t.warn = s.warn) : limitWord t = limitWord s := by rw [limitWord, h]; rfl

theorem checkLimit_limitWord (s : State) : limitWord (checkLimit s) =
    if s.warn.limitCheck = limitCheck s.warn.limit then limitWord s else (0, limitCheck 0) := by
  unfold checkLimit
  split_ifs
  · rfl
  · exact (limitWord_of_warn (notifyBoth_warn _ _)).trans rfl

theorem verifyAll_limitWord (s : State) : limitWord (verifyAll s) = limitWord s := by
  have hodo (t : State) : limitWord (verifyOdo t) = limitWord t := by
    unfold verifyOdo
    split_ifs
    · rw [reloadOdo_eq]
      exact (limitWord_of_warn (notifyBothIf_warn _ _ _)).trans rfl
    · rfl
  have htrip (k : TripNo) (t : State) : limitWord (verifyTrip k t) = limitWord t := by
    unfold verifyTrip
    dsimp only
    split_ifs
    · rfl
    · rfl
  have hcharter (t : State) : limitWord (verifyCharter t) = limitWord t := by
    unfold verifyCharter
    dsimp only
    split_ifs
    · exact (limitWord_of_warn (notifyBothIf_warn _ _ _)).trans rfl
    · exact (limitWord_of_warn (notifyBothIf_warn _ _ _)).trans rfl
    · rfl
  rw [verifyAll, hcharter, htrip, htrip, htrip, hodo]

/-! ### The checks together -/

/-- R38, R138, R182: the settings, the fold state and the service table checked and reloaded. -/
def tables (s : State) : State :=
  checkTables s.settings.work (decide (s.settings.check ≠ settingsCheck s.settings.work)) (checkSettings s)

/-- R61, R78: the records verified and marked. -/
def marked (i : StartInputs) (m : HeldMarks) (s : State) : State :=
  startMarks ⟨m.timeDegraded, m.fuelIncomplete || !i.mainEdge⟩ (verifyAll (tables s))

/-- R166: every retention check made. -/
def checked (i : StartInputs) (m : HeldMarks) (s : State) : State := checkAlarmWord (checkLimit (checkUnits (marked i m s)))

theorem restartBlocks_eq (i : StartInputs) (m : HeldMarks) (s : State) : restartBlocks i m s =
    handRecords (handedRecords (decide (s.store.odo.check ≠ odoCheck s.store.odo)) (checked i m s))
      (startItems (startBlocks i (checked i m s))) := rfl

@[simp] theorem tables_settings (s : State) : (tables s).settings = (checkSettings s).settings := by simp [tables]
@[simp] theorem tables_store (s : State) : (tables s).store = s.store := by simp [tables]
@[simp] theorem tables_nv (s : State) : (tables s).nv = s.nv := by simp [tables]
@[simp] theorem tables_units (s : State) : (tables s).units = s.units := by simp [tables]
@[simp] theorem tables_clock (s : State) : (tables s).clock = s.clock := by simp [tables]
@[simp] theorem tables_power (s : State) : (tables s).power = s.power := by simp [tables]

theorem tables_warn (s : State) : (tables s).warn = s.warn := by
  have hsettings : (checkSettings s).warn = s.warn := by
    unfold checkSettings reloadSettings
    split_ifs
    · rfl
    · split
      · rw [notifyBoth_warn]
        rfl
      · rw [notifyBoth_warn]
        rfl
  have hfold (t : State) : (checkFold t).warn = t.warn := by
    unfold checkFold
    split_ifs
    · rfl
    · rw [notifyBoth_warn]
  have hitems (t : State) : (checkItems t).warn = t.warn := by
    unfold checkItems
    split_ifs
    · rfl
    · rw [notifyBoth_warn]
  have hreload (old : Settings) (t : State) : (reloadItems old (reloadFold old t)).warn = t.warn := by
    simp [reloadItems, reloadFold]
  unfold tables checkTables
  dsimp only
  split_ifs
  · rw [hreload, hitems, hfold, hsettings]
  · rw [hitems, hfold, hsettings]

variable (i : StartInputs) (m : HeldMarks) (s : State)

theorem checked_settings : (checked i m s).settings = (checkSettings s).settings := by simp [checked, marked]

theorem checked_fold : (checked i m s).fold = (tables s).fold := by simp [checked, marked]

theorem checked_service : (checked i m s).service = (tables s).service := by simp [checked, marked]

theorem checked_nv : (checked i m s).nv = s.nv := by simp [checked, marked]

theorem checked_power : (checked i m s).power = s.power := by simp [checked, marked]

theorem checked_store : (checked i m s).store = (marked i m s).store := by simp [checked]

theorem checked_units : (checked i m s).units = if s.units.check = unitCheck s.units.front s.units.rear ∧ s.units.front ≤ 2
    ∧ s.units.rear ≤ 2 then s.units else ⟨0, 0, 5⟩ := by
  rw [checked, checkAlarmWord_units, checkLimit_units, checkUnits_units]
  simp [marked]

theorem checked_clock : (checked i m s).clock = if s.clock.alarmCheck = alarmCheck s.clock.alarm then s.clock
    else { s.clock with alarm := none, alarmCheck := alarmCheck none } := by
  rw [checked, checkAlarmWord_clock]
  simp [marked]

theorem checked_limitWord : limitWord (checked i m s) =
    if s.warn.limitCheck = limitCheck s.warn.limit then limitWord s else (0, limitCheck 0) := by
  have halarm (t : State) : limitWord (checkAlarmWord t) = limitWord t := by
    unfold checkAlarmWord
    split_ifs
    · rfl
    · exact (limitWord_of_warn (notifyBoth_warn _ _)).trans rfl
  have hunits (t : State) : limitWord (checkUnits t) = limitWord t := by
    unfold checkUnits
    split_ifs
    · rfl
    · exact limitWord_of_warn (notifyBoth_warn _ _)
  have hmarked : limitWord (checkUnits (marked i m s)) = limitWord s :=
    (hunits _).trans ((verifyAll_limitWord (tables s)).trans (limitWord_of_warn (tables_warn s)))
  have hparts := Prod.mk.inj hmarked
  rw [checked, halarm, checkLimit_limitWord, hmarked, hparts.1, hparts.2]

end Sys2Proof.Proofs.Resets

/-! PROOFS. The starts of the blocks and the hand-offs of a reset (R121, R135, R160, R166): the blocks as the starts leave them,
what the hand-offs and the choice of the power state then keep, and the notices that the checks set. -/

namespace Sys2Proof.Proofs.Starts

open Sys2Proof Sys2Proof.Machine Sys2Proof.Proofs.StepSafety Sys2Proof.Proofs.BlockSafety Sys2Proof.Proofs.StepInvariants
  Sys2Proof.Proofs.Grants Sys2Proof.Proofs.Views Sys2Proof.Proofs.NamedRecords Sys2Proof.Proofs.Resets Sys2Proof.Proofs.Folds
  Sys2Proof.Proofs.Basics

/-! ### The blocks after their starts -/

/-- R166: the blocks checked and started, with the service unit's evaluation made. -/
def started (i : StartInputs) (m : HeldMarks) (s : State) : State := startItems (startBlocks i (checked i m s))

theorem startBlocks_fold (i : StartInputs) (s : State) : (startBlocks i s).fold =
    { s.fold with waiting := false, merges := 0, hold := startHold i.lines } := rfl

theorem startBlocks_settings (i : StartInputs) (s : State) : (startBlocks i s).settings = { s.settings with staging := none } := rfl

theorem startBlocks_store (i : StartInputs) (s : State) : (startBlocks i s).store = startArbiter s.store := rfl

theorem startBlocks_meas (i : StartInputs) (s : State) : (startBlocks i s).meas = startMeasure i s.settings.work := rfl

theorem startBlocks_clock (i : StartInputs) (s : State) : (startBlocks i s).clock =
    { s.clock with calib := none, mainGap := 0, mainGood := 0 } := rfl

theorem startBlocks_service (i : StartInputs) (s : State) : (startBlocks i s).service = s.service := rfl

section
variable (i : StartInputs) (m : HeldMarks) (s : State)

theorem started_fold : (started i m s).fold = { (tables s).fold with waiting := false, merges := 0, hold := startHold i.lines } := by
  rw [started, startItems_fold, startBlocks_fold, checked_fold]

theorem started_settings : (started i m s).settings = { (checkSettings s).settings with staging := none } := by
  rw [started, startItems_settings, startBlocks_settings, checked_settings]

theorem started_store : (started i m s).store = startArbiter (marked i m s).store := by
  rw [started, startItems_store, startBlocks_store, checked_store]

theorem started_nv : (started i m s).nv = s.nv := (startItems_nv _).trans (checked_nv i m s)

theorem started_units : (started i m s).units = if s.units.check = unitCheck s.units.front s.units.rear ∧ s.units.front ≤ 2
    ∧ s.units.rear ≤ 2 then s.units else ⟨0, 0, 5⟩ := (startItems_units _).trans (checked_units i m s)

theorem started_power : (started i m s).power = s.power := (startItems_power _).trans (checked_power i m s)

theorem started_meas : (started i m s).meas = startMeasure i (checkSettings s).settings.work := by
  rw [started, startItems_meas, startBlocks_meas, checked_settings]

theorem started_clock : (started i m s).clock = { (checked i m s).clock with calib := none, mainGap := 0, mainGood := 0 } := by
  rw [started, startItems_clock, startBlocks_clock]

theorem checked_seconds : (checked i m s).clock.seconds = s.clock.seconds := by
  rw [checked_clock]
  split_ifs
  · rfl
  · rfl

/-- R155: the alarm check changes the alarm alone. -/
theorem started_seconds : (started i m s).clock.seconds = s.clock.seconds := by
  rw [started_clock, checked_seconds]

theorem raiseAtStart_service (b : Bool) (w : Fin 24) (add : Bool) (d : BitVec 8) (t : State) :
    (raiseAtStart b w add d t).service = t.service := by simp

theorem startItems_service (t : State) :
    (startItems t).service = sealItems (evalItems t.settings.work (today t) t.service.items) := by
  unfold startItems
  dsimp only
  rw [raiseAtStart_service, raiseAtStart_service, storeItems, notifyBothIf_service]

theorem started_service : (started i m s).service =
    sealItems (evalItems (checkSettings s).settings.work (today s) (tables s).service.items) := by
  have hday : today (startBlocks i (checked i m s)) = today s := by
    rw [today, startBlocks_clock, today, checked_seconds]
  rw [started, startItems_service, hday, startBlocks_settings, checked_settings, startBlocks_service, checked_service]

end

/-! ### What a hand-off keeps -/

/-- Nothing of the blocks is lost between two states but the choices of the chimes and the power state: the warnings that stand
and the notices that are set stay, and the clock's held hand-offs may be taken. -/
structure Handed (s t : State) : Prop where
  fold     : t.fold = s.fold := by simp
  units    : t.units = s.units := by simp
  settings : t.settings = s.settings := by simp
  service  : t.service = s.service := by simp
  records  : SameRecords s t := by simp [SameRecords]
  array    : t.nv.slots = s.nv.slots ∧ t.nv.block = s.nv.block := by simp
  meas     : t.meas = { s.meas with fastWindow := t.meas.fastWindow } := by simp
  clock    : t.clock = { s.clock with heldW17 := t.clock.heldW17, alarmRang := t.clock.alarmRang } := by simp
  limit    : limitWord t = limitWord s
  ports    : PortsKept s t
  active   : ∀ w, ActiveEntry w s → ActiveEntry w t
  carried  : ∀ k, Carried k s → Carried k t

theorem Handed.rfl' (s : State) : Handed s s where
  limit := rfl
  ports := .rfl' s
  active _ := id
  carried _ := id

theorem Handed.trans {s t u : State} (h : Handed s t) (k : Handed t u) : Handed s u where
  fold := k.fold.trans h.fold
  units := k.units.trans h.units
  settings := k.settings.trans h.settings
  service := k.service.trans h.service
  records := by
    obtain ⟨hodo, ha, hb, hp, hcharter, hheld, hlog⟩ := h.records
    obtain ⟨kodo, ka, kb, kp, kcharter, kheld, klog⟩ := k.records
    exact ⟨kodo.trans hodo, ka.trans ha, kb.trans hb, kp.trans hp, kcharter.trans hcharter, kheld.trans hheld, klog.trans hlog⟩
  array := ⟨k.array.1.trans h.array.1, k.array.2.trans h.array.2⟩
  meas := by rw [k.meas, h.meas]
  clock := by rw [k.clock, h.clock]
  limit := k.limit.trans h.limit
  ports := h.ports.trans k.ports
  active w := k.active w ∘ h.active w
  carried n := k.carried n ∘ h.carried n

theorem chooseBoth_limitWord (s : State) : limitWord (chooseBoth s) = limitWord s := by
  have htake (sp : Speaker) (c : Candidate) (t : State) : limitWord (takeCandidate sp c t) = limitWord t := by cases c <;> rfl
  have hchoice (sp : Speaker) (t : State) : limitWord (chooseIfIdle sp t) = limitWord t := by
    unfold chooseIfIdle choose
    split
    · split
      · rfl
      · exact htake _ _ _
    · rfl
  rw [chooseBoth, hchoice, hchoice]

theorem startChoice_shown (s : State) : SameShown s (startChoice s) := .ite (.of_warn rfl) (chooseBoth_shown s)

theorem startChoice_handed (s : State) : Handed s (startChoice s) where
  limit := by
    unfold startChoice
    split_ifs
    · rfl
    · exact chooseBoth_limitWord s
  ports := .of_port (by simp)
  active w := (activeEntry_of_shown (startChoice_shown s) w).2
  carried _ h := h.of_shown (startChoice_shown s)

theorem raise_handed (w : Fin 24) (add : Bool) (d : BitVec 8) (s : State) (h : ∀ k, Carried k s → Carried k (raise w add d s)) :
    Handed s (raise w add d s) where
  limit := rfl
  ports := .of_port (by simp)
  active v hv := (activeEntry_raise v w add d s).2 (.inr hv)
  carried := h

theorem raiseAtStart_handed {w : Fin 24} (h : 16 ≠ w) (b : Bool) (add : Bool) (d : BitVec 8) (s : State) :
    Handed s (raiseAtStart b w add d s) := by
  unfold raiseAtStart
  split_ifs
  · exact (raise_handed w add d s fun _ hk => hk.raise_other h add d).trans (startChoice_handed _)
  · exact .rfl' s

theorem raiseRecord_handed (k : Nat) (s : State) : Handed s (raiseAtStart true 16 true (member k) s) :=
  (raise_handed 16 true _ s fun _ h => h.raise _).trans (startChoice_handed _)

theorem handRecords_handed (rs : List Nat) (s : State) : Handed s (handRecords rs s) := by
  unfold handRecords
  induction rs generalizing s with
  | nil => exact .rfl' s
  | cons k ks ih => exact (raiseRecord_handed k s).trans (ih _)

/-- R121: W16 names each record handed. -/
theorem handRecords_carried {rs : List Nat} {k : Nat} (hmem : k ∈ rs) (hk : k < 8) {s : State} (hd : DetailsPresent s.warn.list) :
    Carried k (handRecords rs s) := by
  unfold handRecords
  induction rs generalizing s with
  | nil => cases hmem
  | cons j js ih =>
    rcases List.mem_cons.1 hmem with rfl | hmem
    · refine (handRecords_handed js (raiseAtStart true 16 true (member k) s)).carried k ?_
      exact (carried_raise hd hk).of_shown (startChoice_shown _)
    · exact ih hmem ((raiseAtStart_safe true 16 true (member j) s).list.details hd)

/-! ### The choice of the power state (R160) -/

theorem remind_handed (s : State) : Handed s (remind s) := by
  have hmap (w : Fin 24) : findEntry w (remind s).warn.list =
      (findEntry w s.warn.list).map fun e => if e.w = 13 ∨ e.w = 14 then e.remind else e := by
    have hsame : (fun e => e.w == w) ∘ (fun e : Entry => if e.w = 13 ∨ e.w = 14 then e.remind else e) = fun e => e.w == w := by
      funext e
      show ((if e.w = 13 ∨ e.w = 14 then e.remind else e).w == w) = (e.w == w)
      split_ifs
      · rfl
      · rfl
    rw [findEntry, show (remind s).warn.list = s.warn.list.map _ from rfl, List.find?_map, hsame]
    rfl
  refine { limit := rfl, ports := .of_port (by simp), active := fun w => ?_, carried := fun k => ?_ }
  · rintro ⟨e, he, hw, hc⟩
    refine ⟨_, List.mem_map_of_mem he, ?_⟩
    split_ifs
    · exact ⟨hw, hc⟩
    · exact ⟨hw, hc⟩
  · rintro ⟨e, he, hc, hd⟩
    have hw := (findEntry_some he).2
    have hplain : ¬ (e.w = 13 ∨ e.w = 14) := by
      rw [hw]
      decide
    refine ⟨e, ?_, hc, hd⟩
    rw [hmap, he, Option.map_some, if_neg hplain]

theorem runEntry_handed (fromAcc : Bool) (s : State) : Handed s (runEntry fromAcc s) := by
  have hgauges : Handed s { gaugesRunEntry fromAcc s with meas := { s.meas with fastWindow := some 0 } } :=
    { limit := rfl, ports := .of_port rfl, active := fun _ => id, carried := fun _ => id }
  exact hgauges.trans (remind_handed _)

theorem choosePower_handed (s : State) : Handed s (choosePower s) := by
  have hpower (f : PowerUnit → PowerUnit) (t : State) : Handed t (t.withPower f) :=
    { limit := rfl, ports := .of_port rfl, active := fun _ => id, carried := fun _ => id }
  unfold choosePower
  dsimp only
  split
  · exact (hpower _ s).trans (runEntry_handed false _)
  · exact hpower _ s
  · exact (hpower _ s).trans (hpower _ _)
  · exact hpower _ s

/-- R160: the power controller once the state is chosen. -/
theorem choosePower_power (s : State) : (choosePower s).power = { s.power with
    state := ignitionState s, park := none
    delay := if ignitionState s = .awake then some 983040 else none
    limit := if ignitionState s = .awake then some 39321600 else none } := by
  unfold choosePower
  dsimp only
  split <;> rename_i hstate
  · rw [runEntry_power, hstate]
    rfl
  · rw [hstate]
    rfl
  · rw [hstate]
    rfl
  · rw [hstate]
    rfl

theorem choosePower_notDue (s : State) : ParkNotDue (choosePower s) := by
  refine .inr ?_
  rw [choosePower_power]
  dsimp only
  split_ifs
  · decide
  · decide

/-! ### What the resets leave settled -/

theorem settleFrom_nil (s : State) : settleFrom [] s = settle (s.withList []) s := rfl

theorem notifyBoth_handed (n : Notice) (s : State) : Handed s (notifyBoth n s) where
  limit := limitWord_of_warn (notifyBoth_warn n s)
  ports := notifyBoth_portsKept n s
  active w h := by rwa [ActiveEntry, notifyBoth_warn]
  carried _ h := h.of_warn (notifyBoth_warn n s)

theorem settle_handed (a s : State) : Handed s (settle a s) where
  array := settle_array a s
  limit := by rw [limitWord, settle_warn_limit, settle_warn_limitCheck]; rfl
  ports := settle_portsKept a s
  active w := (activeEntry_of_shown (settle_shown a s) w).2
  carried _ h := h.of_shown (settle_shown a s)

theorem wakeHandoffs_handed (s : State) : Handed s (wakeHandoffs s) := by
  have htaken (t : State) : Handed t (t.withClock fun c => { c with heldW17 := false, alarmRang := false }) :=
    { limit := rfl, ports := .of_port rfl, active := fun _ => id, carried := fun _ => id }
  unfold wakeHandoffs
  exact (raiseAtStart_handed (by decide) _ false 0 s).trans <| (raiseAtStart_handed (by decide) _ false 0 _).trans <|
    (raiseAtStart_handed (by decide) _ false 0 _).trans (htaken _)

/-- R185: the state as a RESTART checks it: the writes cut and dropped, a cut commit failed, the battery-held blocks put back and
the log scanned. -/
def prepared (s : State) : State := rescan (failCommit (restartHeld (restartNotices (dropWrites (cutFlight s)))))

/-- R166: the state as a wake sequence checks it. -/
def roused (s : State) : State := s.withPower fun u => { u with waking := none }

/-- R78: the records marked at a RESTART: TIME DEGRADED while the clock runs from the RC oscillator. -/
def restartMarks (s : State) : HeldMarks := ⟨s.clock.onRc, false⟩

theorem restartBlocks_handed (i : StartInputs) (m : HeldMarks) (s : State) : Handed (started i m s) (restartBlocks i m s) := by
  rw [restartBlocks_eq]
  exact handRecords_handed _ _

/-- Everything of a RESTART but what it leaves settled. -/
theorem restart_eq (i : StartInputs) (s : State) : restart i s = choosePower
    (raiseAtStart (restartBlocks i ⟨(startFault i (prepared s)).clock.onRc, false⟩ (startFault i (prepared s))).clock.onRc 17 false 0
      (restartBlocks i ⟨(startFault i (prepared s)).clock.onRc, false⟩ (startFault i (prepared s)))) := rfl

theorem restart_handed (i : StartInputs) (s : State) :
    Handed (restartBlocks i ⟨(startFault i (prepared s)).clock.onRc, false⟩ (startFault i (prepared s))) (settleFrom [] (restart i s)) := by
  rw [restart_eq, settleFrom_nil]
  exact (raiseAtStart_handed (by decide) _ false 0 _).trans ((choosePower_handed _).trans (settle_handed _ _))

theorem wake_handed (i : StartInputs) (s : State) :
    Handed (restartBlocks i (startFault i (roused s)).store.held (startFault i (roused s))) (settleFrom [] (wake i s)) := by
  have hwake : wake i s = notifyBoth .wake (choosePower (wakeHandoffs
      (restartBlocks i (startFault i (roused s)).store.held (startFault i (roused s))))) := rfl
  rw [hwake, settleFrom_nil]
  exact (wakeHandoffs_handed _).trans ((choosePower_handed _).trans ((notifyBoth_handed .wake _).trans (settle_handed _ _)))

end Sys2Proof.Proofs.Starts

/-! PROOFS. The fold state, the service table and the notices as the retention checks leave them (R38, R50, R138, R139, R150,
R166), and the rings through a fold and through the resets (R47, R48). -/

namespace Sys2Proof.Proofs.Checks

open Sys2Proof Sys2Proof.Machine Sys2Proof.Proofs.StepInvariants Sys2Proof.Proofs.Grants Sys2Proof.Proofs.Resets
  Sys2Proof.Proofs.Starts Sys2Proof.Proofs.Folds Sys2Proof.Proofs.Basics

/-! ### The fold state -/

/-- R38: the fold state after its check. -/
def checkedFold (f : FoldEngine) : FoldEngine := if f.check = foldCheck f then { f with lost := false } else emptyFold true

/-- R50: the fold state after a reload of the settings. -/
def reloadedFold (old w : Settings) (f : FoldEngine) : FoldEngine := FoldEngine.seal { f with
  rd := if w.kr = old.kr then f.rd else 0
  rf := if w.kf = old.kf then f.rf else 0
  tank := { f.tank with q := min (w.cm + w.ca) f.tank.q } }

theorem checkFold_fold (s : State) : (checkFold s).fold = checkedFold s.fold := by
  unfold checkFold checkedFold
  split_ifs
  · rfl
  · rw [notifyBoth_fold]

theorem reloadFold_fold (old : Settings) (s : State) : (reloadFold old s).fold = reloadedFold old s.settings.work s.fold := by
  unfold reloadFold clampTank reloadedFold
  by_cases h : s.settings.work.cm + s.settings.work.ca < s.fold.tank.q
  · rw [min_eq_left h.le]
    exact (congrArg State.fold (if_pos h)).trans rfl
  · rw [min_eq_right (Nat.not_lt.1 h)]
    exact (congrArg State.fold (if_neg h)).trans rfl

/-- R38, R50, R182: the fold state after the checks, by whether the settings were reloaded. -/
theorem tables_fold_kept {s : State} (h : s.settings.check = settingsCheck s.settings.work) :
    (tables s).fold = checkedFold s.fold := by
  unfold tables checkTables
  rw [checkSettings_same h, if_neg (by simp [h]), checkItems_fold, checkFold_fold]

theorem tables_fold_reload {s : State} (h : s.settings.check ≠ settingsCheck s.settings.work) :
    (tables s).fold = reloadedFold s.settings.work (checkSettings s).settings.work (checkedFold s.fold) := by
  unfold tables checkTables
  rw [if_pos (decide_eq_true h), reloadItems_fold, reloadFold_fold, checkItems_fold, checkFold_fold, checkItems_settings,
    checkFold_settings, checkSettings_fold]

/-- R47, R48: the rings and the open segment. -/
def rings (f : FoldEngine) : List WindowEntry × Segment × List Segment := (f.window, f.seg, f.closed)

theorem reloadedFold_rings (old w : Settings) (f : FoldEngine) : rings (reloadedFold old w f) = rings f := rfl

theorem tables_rings (s : State) : rings (tables s).fold = rings (checkedFold s.fold) := by
  by_cases h : s.settings.check = settingsCheck s.settings.work
  · rw [tables_fold_kept h]
  · rw [tables_fold_reload h, reloadedFold_rings]

/-! ### The service table -/

/-- R138, R139: the service table after its check. -/
def checkedItems (w : Settings) (x : ServiceTable) : ServiceTable :=
  if x.check = serviceCheck x.items then x else sealItems (Vector.ofFn fun k => unknownItem w.items[k])

theorem checkItems_service (s : State) : (checkItems s).service = checkedItems s.settings.work s.service := by
  unfold checkItems checkedItems
  split_ifs
  · rfl
  · rw [notifyBoth_service]

theorem tables_service_kept {s : State} (h : s.settings.check = settingsCheck s.settings.work) :
    (tables s).service = checkedItems s.settings.work s.service := by
  unfold tables checkTables
  rw [checkSettings_same h, if_neg (by simp [h]), checkItems_service, checkFold_service, checkFold_settings]

theorem tables_service_reload {s : State} (h : s.settings.check ≠ settingsCheck s.settings.work) (k : Fin 8) :
    (tables s).service.items[k] = reloadItem s.settings.work.items[k] (checkSettings s).settings.work.items[k]
      (checkedItems (checkSettings s).settings.work s.service).items[k] := by
  have hitems : (tables s).service = (reloadItems s.settings.work (reloadFold s.settings.work (checkItems (checkFold (checkSettings s))))).service := by
    unfold tables checkTables
    rw [if_pos (decide_eq_true h)]
  rw [hitems]
  simp [reloadItems, sealItems, checkItems_service]

/-! ### Notices -/

theorem startFault_portsKept (i : StartInputs) (s : State) : PortsKept s (startFault i s) :=
  (notifyBothIf_portsKept _ _ _).after (withClock_port s _)

theorem reloadSettings_notified (s : State) : Notified .status (reloadSettings s) := by
  unfold reloadSettings
  split
  · exact notified_notifyBoth _ _
  · exact notified_notifyBoth _ _

theorem checkFold_portsKept (s : State) : PortsKept s (checkFold s) :=
  .ite (.of_port rfl) ((notifyBoth_portsKept .status _).after rfl)

theorem checkItems_portsKept (s : State) : PortsKept s (checkItems s) := .ite (.rfl' s) ((notifyBoth_portsKept .service _).after rfl)

theorem checkSettings_portsKept (s : State) : PortsKept s (checkSettings s) := by
  refine .ite (.rfl' s) ?_
  unfold reloadSettings
  split
  · exact (notifyBoth_portsKept .status _).after rfl
  · exact (notifyBoth_portsKept .status _).after rfl

theorem reloaded_portsKept (old : Settings) (b : Bool) (s : State) :
    PortsKept s (if b then reloadItems old (reloadFold old s) else s) := by
  refine .when (.of_port ?_)
  show (reloadFold old s).port = s.port
  simp [reloadFold]

theorem tables_portsKept (s : State) : PortsKept (checkSettings s) (tables s) :=
  ((checkFold_portsKept _).trans (checkItems_portsKept _)).trans (reloaded_portsKept _ _ _)

theorem verifyAll_portsKept (s : State) : PortsKept s (verifyAll s) :=
  (verifyOdo_portsKept s).trans <| (PortsKept.of_port (by simp)).trans (verifyCharter_portsKept _)

theorem checkUnits_portsKept (s : State) : PortsKept s (checkUnits s) := .ite (.rfl' s) ((notifyBoth_portsKept .status _).after rfl)

theorem checkLimit_portsKept (s : State) : PortsKept s (checkLimit s) := .ite (.rfl' s) ((notifyBoth_portsKept .status _).after rfl)

theorem checkAlarmWord_portsKept (s : State) : PortsKept s (checkAlarmWord s) :=
  .ite (.rfl' s) ((notifyBoth_portsKept .clock _).after rfl)

theorem startBlocks_notified (i : StartInputs) {n : Notice} {s : State} (h : Notified n s) : Notified n (startBlocks i s) := h

theorem startItems_portsKept (s : State) : PortsKept s (startItems s) := by
  have hstored := storeItems_portsKept s.service.items (evalItems s.settings.work (today s) s.service.items) s
  exact hstored.trans (.of_port (by simp [startItems]))

theorem started_notified {i : StartInputs} {m : HeldMarks} {s : State} {n : Notice} (h : Notified n (checked i m s)) :
    Notified n (started i m s) := by
  unfold started
  generalize checked i m s = u at h
  exact (startItems_portsKept _).notified (startBlocks_notified i h)

/-- A notice that stands once the checks are made stands when the blocks have started and the reset is over. -/
theorem Handed.notified {i : StartInputs} {m : HeldMarks} {s t : State} (h : Handed (restartBlocks i m s) t) {n : Notice}
    (hn : Notified n (checked i m s)) : Notified n t :=
  h.ports.notified ((restartBlocks_handed i m s).ports.notified (started_notified hn))

section
variable {i : StartInputs} {m : HeldMarks} {s : State}

theorem checked_of_records {n : Notice} (h : Notified n (verifyAll (tables s))) : Notified n (checked i m s) := by
  have hmarked : Notified n (marked i m s) := h
  exact (checkAlarmWord_portsKept _).notified ((checkLimit_portsKept _).notified ((checkUnits_portsKept _).notified hmarked))

theorem checked_of_tables {n : Notice} (h : Notified n (tables s)) : Notified n (checked i m s) :=
  checked_of_records ((verifyAll_portsKept _).notified h)

theorem checked_settingsNotice (h : s.settings.check ≠ settingsCheck s.settings.work) : Notified .status (checked i m s) := by
  refine checked_of_tables ((tables_portsKept s).notified ?_)
  rw [checkSettings_reload h]
  exact reloadSettings_notified s

theorem checked_foldNotice (h : s.fold.check ≠ foldCheck s.fold) : Notified .status (checked i m s) := by
  have hfold : (checkSettings s).fold.check ≠ foldCheck (checkSettings s).fold := by rwa [checkSettings_fold]
  refine checked_of_tables ((reloaded_portsKept _ _ _).notified ((checkItems_portsKept _).notified ?_))
  rw [checkFold, if_neg hfold]
  exact notified_notifyBoth _ _

theorem checked_itemsNotice (h : s.service.check ≠ serviceCheck s.service.items) : Notified .service (checked i m s) := by
  have hitems : (checkFold (checkSettings s)).service.check ≠ serviceCheck (checkFold (checkSettings s)).service.items := by
    rwa [checkFold_service, checkSettings_service]
  refine checked_of_tables ((reloaded_portsKept _ _ _).notified ?_)
  rw [checkItems, if_neg hitems]
  exact notified_notifyBoth _ _

theorem checked_unitsNotice (h : ¬ (s.units.check = unitCheck s.units.front s.units.rear ∧ s.units.front ≤ 2 ∧ s.units.rear ≤ 2)) :
    Notified .status (checked i m s) := by
  have hunits : (marked i m s).units = s.units := by simp [marked]
  refine (checkAlarmWord_portsKept _).notified ((checkLimit_portsKept _).notified ?_)
  rw [checkUnits, if_neg (by rwa [hunits])]
  exact notified_notifyBoth _ _

theorem checked_limitNotice (h : s.warn.limitCheck ≠ limitCheck s.warn.limit) : Notified .status (checked i m s) := by
  have hunits (t : State) : limitWord (checkUnits t) = limitWord t := by
    unfold checkUnits
    split_ifs
    · rfl
    · exact limitWord_of_warn (notifyBoth_warn _ _)
  have hmarked : limitWord (checkUnits (marked i m s)) = limitWord s :=
    (hunits _).trans ((verifyAll_limitWord (tables s)).trans (limitWord_of_warn (tables_warn s)))
  obtain ⟨hlimit, hcheck⟩ := Prod.mk.inj hmarked
  refine (checkAlarmWord_portsKept _).notified ?_
  rw [checkLimit, if_neg (by rwa [hlimit, hcheck])]
  exact notified_notifyBoth _ _

theorem checked_alarmNotice (h : s.clock.alarmCheck ≠ alarmCheck s.clock.alarm) : Notified .clock (checked i m s) := by
  have hclock : (checkLimit (checkUnits (marked i m s))).clock = s.clock := by simp [marked]
  rw [checked, checkAlarmWord, if_neg (by rwa [hclock])]
  exact notified_notifyBoth _ _

end

end Sys2Proof.Proofs.Checks

/-! PROOFS. The retention checks of a RESTART and of a wake sequence (R38, R50, R51, R83, R117, R138, R139, R145, R150, R155, R166,
R182), the rings (R47, R48) and the alarm (R155) through the resets. -/

namespace Sys2Proof.Proofs.Retention

open Sys2Proof Sys2Proof.Machine Sys2Proof.Proofs.StepInvariants Sys2Proof.Proofs.Grants Sys2Proof.Proofs.Resets
  Sys2Proof.Proofs.Starts Sys2Proof.Proofs.Checks Sys2Proof.Proofs.Folds Sys2Proof.Proofs.Basics

/-! ### What a reset checks is what retention held -/

/-- The retention memory of a state stands in the state whose checks are made. -/
structure Retained (s p : State) : Prop where
  fold     : p.fold = s.fold
  units    : p.units = s.units
  service  : p.service = s.service
  warn     : p.warn = s.warn
  settings : p.settings = { s.settings with commit := p.settings.commit }
  clock    : p.clock = { s.clock with
    alarmRang := p.clock.alarmRang, heldW17 := p.clock.heldW17, mainFault := p.clock.mainFault }
  store    : p.store = { s.store with logPos := p.store.logPos }

theorem startFault_warn (i : StartInputs) (s : State) : (startFault i s).warn = s.warn := notifyBothIf_warn _ _ _

theorem Retained.work {s p : State} (h : Retained s p) : p.settings.work = s.settings.work := by rw [h.settings]

theorem Retained.check {s p : State} (h : Retained s p) : p.settings.check = s.settings.check := by rw [h.settings]

theorem Retained.defaulted {s p : State} (h : Retained s p) : p.settings.defaulted = s.settings.defaulted := by rw [h.settings]

theorem Retained.today {s p : State} (h : Retained s p) : today p = s.clock.seconds / 86400 := by
  rw [Machine.today, h.clock]

theorem Retained.trans {s p q : State} (h : Retained s p) (k : Retained p q) : Retained s q where
  fold := k.fold.trans h.fold
  units := k.units.trans h.units
  service := k.service.trans h.service
  warn := k.warn.trans h.warn
  settings := by rw [k.settings, h.settings]
  clock := by rw [k.clock, h.clock]
  store := by rw [k.store, h.store]

theorem cutFlight_retained (s : State) : Retained s (cutFlight s) where
  fold := cutFlight_fold s
  units := cutFlight_units s
  service := cutFlight_service s
  warn := cutFlight_warn s
  settings := by rw [cutFlight_settings]
  clock := by rw [cutFlight_clock]
  store := by rw [cutFlight_store]

theorem failCommit_retained (s : State) : Retained s (failCommit s) := by
  unfold failCommit
  split_ifs
  · exact ⟨rfl, rfl, rfl, rfl, rfl, rfl, rfl⟩
  · exact ⟨rfl, rfl, rfl, rfl, rfl, rfl, rfl⟩

theorem prepared_retained (s : State) : Retained s (prepared s) := by
  have hdrop (u : State) : Retained u (restartHeld (restartNotices (dropWrites u))) := ⟨rfl, rfl, rfl, rfl, rfl, rfl, rfl⟩
  have hscan (u : State) : Retained u (rescan u) := ⟨rfl, rfl, rfl, rfl, rfl, rfl, rfl⟩
  exact (cutFlight_retained s).trans ((hdrop _).trans ((failCommit_retained _).trans (hscan _)))

theorem startFault_retained {s p : State} (h : Retained s p) (i : StartInputs) : Retained s (startFault i p) where
  fold := (startFault_fold i p).trans h.fold
  units := (startFault_units i p).trans h.units
  service := (startFault_service i p).trans h.service
  warn := (startFault_warn i p).trans h.warn
  settings := by rw [startFault_settings]; exact h.settings
  clock := by rw [startFault_clock, h.clock]
  store := by rw [startFault_store]; exact h.store

theorem roused_retained (s : State) : Retained s (roused s) := ⟨rfl, rfl, rfl, rfl, rfl, rfl, rfl⟩

/-- A reset over what retention held: the state whose checks are made, the marks, and the end. -/
structure Reset (i : StartInputs) (s t : State) : Prop where
  reached : ∃ m p, Retained s p ∧ Handed (restartBlocks i m p) t

theorem restart_reset (i : StartInputs) (s : State) : Reset i s (settleFrom [] (restart i s)) :=
  ⟨_, _, startFault_retained (prepared_retained s) i, restart_handed i s⟩

theorem wake_reset (i : StartInputs) (s : State) : Reset i s (settleFrom [] (wake i s)) :=
  ⟨_, _, startFault_retained (roused_retained s) i, wake_handed i s⟩

theorem wakeSequence_next {s : State} (hparked : parkedState s = true) (hwaking : s.power.waking.isSome = true) (i : StartInputs) :
    exec (.wakeSequence i) s = .next (settleFrom [] (wake i s)) := if_pos (Bool.and_eq_true_iff.2 ⟨hparked, hwaking⟩)

section
variable {i : StartInputs} {m : HeldMarks} {p t : State} (h : Handed (restartBlocks i m p) t)
include h

theorem reset_started : Handed (started i m p) t := (restartBlocks_handed i m p).trans h

theorem reset_fold : t.fold = { (tables p).fold with waiting := false, merges := 0, hold := startHold i.lines } :=
  (reset_started h).fold.trans (started_fold i m p)

theorem reset_settings : t.settings = { (checkSettings p).settings with staging := none } :=
  (reset_started h).settings.trans (started_settings i m p)

theorem reset_units : t.units = if p.units.check = unitCheck p.units.front p.units.rear ∧ p.units.front ≤ 2 ∧ p.units.rear ≤ 2
    then p.units else ⟨0, 0, 5⟩ := (reset_started h).units.trans (started_units i m p)

theorem reset_service : t.service =
    sealItems (evalItems (checkSettings p).settings.work (today p) (tables p).service.items) :=
  (reset_started h).service.trans (started_service i m p)

theorem reset_block : goodBlock t.nv = goodBlock p.nv := by
  have hblock := (reset_started h).array.2
  rw [started_nv] at hblock
  unfold goodBlock
  rw [hblock]

/-- R155: the alarm as it is checked. -/
theorem reset_alarm : t.clock.alarm = if p.clock.alarmCheck = alarmCheck p.clock.alarm then p.clock.alarm else none := by
  rw [(reset_started h).clock, started_clock, checked_clock]
  split_ifs
  · rfl
  · rfl

end

/-! ### The alarm (R155) -/

theorem reset_alarmVerified {i : StartInputs} {s t : State} (h : Reset i s t) :
    (s.clock.alarmCheck = (byteSumOpt s.clock.alarm + 9) % 65536 → t.clock.alarm = s.clock.alarm)
    ∧ (s.clock.alarmCheck ≠ (byteSumOpt s.clock.alarm + 9) % 65536 → t.clock.alarm = none ∧ Notified .clock t) := by
  obtain ⟨m, p, hp, ht⟩ := h
  have halarm := reset_alarm ht
  rw [hp.clock] at halarm
  refine ⟨fun hcheck => halarm.trans (if_pos hcheck), fun hcheck => ⟨halarm.trans (if_neg hcheck), ?_⟩⟩
  refine Handed.notified ht (checked_alarmNotice ?_)
  rw [hp.clock]
  exact hcheck

/-! ### The rings (R47, R48) -/

theorem reset_rings {i : StartInputs} {s t : State} (h : Reset i s t) :
    t.fold.window = (if s.fold.check = foldCheck s.fold then s.fold.window else [])
    ∧ t.fold.seg = (if s.fold.check = foldCheck s.fold then s.fold.seg else ⟨0, 0⟩)
    ∧ t.fold.closed = (if s.fold.check = foldCheck s.fold then s.fold.closed else []) := by
  obtain ⟨m, p, hp, ht⟩ := h
  have hrings : rings t.fold = rings (checkedFold s.fold) := by
    rw [reset_fold ht, ← hp.fold]
    exact tables_rings p
  obtain ⟨hwindow, hrest⟩ := Prod.mk.inj hrings
  obtain ⟨hseg, hclosed⟩ := Prod.mk.inj hrest
  rw [hwindow, hseg, hclosed]
  unfold checkedFold
  split_ifs
  · exact ⟨rfl, rfl, rfl⟩
  · exact ⟨rfl, rfl, rfl⟩

/-! ### A service item after the checks (R138, R139, R145, R150) -/

theorem evalItems_at (w : Settings) (day : Nat) (items : Vector Item 8) (k : Fin 8) :
    (evalItems w day items)[k] = { items[k] with state := evalState w.items[k] day items[k] } := by simp [evalItems]

/-- An item that is unknown-started stays so through an evaluation. -/
theorem unknownItem_evaluated (d : ItemDef) (day : Nat) :
    { unknownItem d with state := evalState d day (unknownItem d) } = unknownItem d := by
  unfold evalState unknownItem
  rcases henabled : d.enabled with _ | _
  · rfl
  · rfl

theorem unknownItem_reloaded (old new : ItemDef) : reloadItem old new (unknownItem new) = unknownItem new := by
  have hdisabled (h : new.enabled = false) : disabledItem = unknownItem new := by
    rw [unknownItem, h]
    rfl
  unfold reloadItem
  split_ifs with hoff
  · exact hdisabled hoff.2
  · rfl
  · rfl

theorem reset_item {i : StartInputs} {m : HeldMarks} {p t : State} (h : Handed (restartBlocks i m p) t) (k : Fin 8) :
    t.service.items[k] = { (tables p).service.items[k] with
      state := evalState (checkSettings p).settings.work.items[k] (today p) (tables p).service.items[k] } := by
  rw [reset_service h]
  exact evalItems_at _ _ _ _

/-- R138, R139: a table that fails its check is unknown-started, whether or not the settings are reloaded. -/
theorem reset_itemUnknown {i : StartInputs} {m : HeldMarks} {p t : State} (h : Handed (restartBlocks i m p) t)
    (hcheck : p.service.check ≠ serviceCheck p.service.items) (k : Fin 8) :
    t.service.items[k] = unknownItem (checkSettings p).settings.work.items[k] := by
  have hget (w : Settings) : (checkedItems w p.service).items[k] = unknownItem w.items[k] := by
    rw [checkedItems, if_neg hcheck]
    simp [sealItems]
  have hitem : (tables p).service.items[k] = unknownItem (checkSettings p).settings.work.items[k] := by
    by_cases hsettings : p.settings.check = settingsCheck p.settings.work
    · rw [tables_service_kept hsettings, checkSettings_same hsettings, hget]
    · rw [tables_service_reload hsettings, hget, unknownItem_reloaded]
  rw [reset_item h, hitem, unknownItem_evaluated]

/-- R145, R150: a table that holds its check, by what the reload made of the item's definition. -/
theorem reset_itemKept {i : StartInputs} {m : HeldMarks} {p t : State} (h : Handed (restartBlocks i m p) t)
    (hcheck : p.service.check = serviceCheck p.service.items) (k : Fin 8) :
    let before := (p.settings.work.items[k]).enabled
    let after := ((checkSettings p).settings.work.items[k]).enabled
    (before = true → after = false → t.service.items[k] = ⟨.off, 0, none, 0, 0, 0, 0⟩)
    ∧ (before = false → after = true → t.service.items[k] = unknownItem (checkSettings p).settings.work.items[k])
    ∧ (before = after → t.service.items[k] = { p.service.items[k] with
        state := evalState (checkSettings p).settings.work.items[k] (today p) p.service.items[k] }) := by
  have hkept (w : Settings) : checkedItems w p.service = p.service := if_pos hcheck
  rw [reset_item h]
  by_cases hsettings : p.settings.check = settingsCheck p.settings.work
  · rw [tables_service_kept hsettings, checkSettings_same hsettings, hkept]
    refine ⟨fun hb ha => ?_, fun hb ha => ?_, fun _ => rfl⟩
    · rw [hb] at ha
      cases ha
    · rw [hb] at ha
      cases ha
  · rw [tables_service_reload hsettings, hkept]
    refine ⟨fun hb ha => ?_, fun hb ha => ?_, fun heq => ?_⟩
    · rw [reloadItem, if_pos ⟨hb, ha⟩, evalState, if_pos ha]
      rfl
    · rw [reloadItem, if_neg (fun hboth => by rw [ha] at hboth; cases hboth.2), if_pos ⟨hb, ha⟩, unknownItem_evaluated]
    · have hdisabled : ¬ ((p.settings.work.items[k]).enabled = true
          ∧ ((checkSettings p).settings.work.items[k]).enabled = false) := fun hboth => by
        rw [heq, hboth.2] at hboth
        cases hboth.1
      have henabled : ¬ ((p.settings.work.items[k]).enabled = false
          ∧ ((checkSettings p).settings.work.items[k]).enabled = true) := fun hboth => by
        rw [heq, hboth.2] at hboth
        cases hboth.1
      rw [reloadItem, if_neg hdisabled, if_neg henabled]

end Sys2Proof.Proofs.Retention

/-! PROOFS. The rings through a fold and the resets (R47, R48), the alarm (R155), and the retention checks of RESTART and WAKE
(R38, R50, R51, R83, R117, R138, R139, R145, R150, R166, R182). -/

namespace Sys2Proof.Proofs.ResetChecks

open Sys2Proof Sys2Proof.Machine Sys2Proof.Proofs.StepInvariants Sys2Proof.Proofs.Grants Sys2Proof.Proofs.Resets
  Sys2Proof.Proofs.Starts Sys2Proof.Proofs.Checks Sys2Proof.Proofs.Retention Sys2Proof.Proofs.Folds Sys2Proof.Proofs.Reads
  Sys2Proof.Proofs.FoldConversion

/-! ### COLD START -/

/-- R82: the state as a COLD START has it before the blocks start. -/
def coldBase (i : StartInputs) (s : State) : State :=
  startMarks ⟨false, !i.mainEdge⟩ (startFault i (coldRetention (restartNotices (dropWrites (cutFlight s)))))

theorem coldStart_eq (i : StartInputs) (s : State) : coldStart i s = choosePower (startItems (startBlocks i (coldBase i s))) := rfl

theorem cold_handed (i : StartInputs) (s : State) :
    Handed (startItems (startBlocks i (coldBase i s))) (settleFrom [] (coldStart i s)) := by
  rw [coldStart_eq, settleFrom_nil]
  exact (choosePower_handed _).trans (settle_handed _ _)

theorem cold_fold (i : StartInputs) (s : State) : (settleFrom [] (coldStart i s)).fold =
    { emptyFold false with waiting := false, merges := 0, hold := startHold i.lines } := by
  have hbase : (coldBase i s).fold = emptyFold false := (startMarks_fold _ _).trans (startFault_fold _ _)
  rw [(cold_handed i s).fold, startItems_fold, startBlocks_fold, hbase]

theorem cold_clock (i : StartInputs) (s : State) : (settleFrom [] (coldStart i s)).clock =
    { coldClock with mainFault := !i.mainEdge } := by
  have hbase : (coldBase i s).clock = { coldClock with mainFault := !i.mainEdge } :=
    (startMarks_clock _ _).trans (startFault_clock _ _)
  have hchoose (u : State) : (settleFrom [] (choosePower u)).clock = u.clock := by simp
  rw [coldStart_eq, hchoose, startItems_clock, startBlocks_clock, hbase]
  rfl

/-! ### The rings -/

theorem takeWindow_fresh {qs : Nat} (hqs : 1 ≤ qs) (metres ml : Nat) (w : List WindowEntry) :
    takeWindow metres ml qs w = (if 8 ≤ w.length then w.tail else w) ++ [⟨metres, ml, qs⟩] := by
  rw [takeWindow, if_pos hqs, List.drop_one]

theorem takeWindow_merged (metres ml : Nat) (old : List WindowEntry) (e : WindowEntry) : takeWindow metres ml 0 (old ++ [e]) =
    old ++ [⟨min 65535 (e.metres + metres), min 67109 (e.ml + ml), e.qs⟩] := by
  rw [takeWindow, if_neg (by decide), List.getLast?_concat, List.dropLast_concat]

/-- Settles O18. -/
theorem foldFillsRings : Obligations.FoldFillsRings := by
  refine fun s => ⟨fun hgranted _ => ?_, fun i => ⟨⟨_, rfl, ?_⟩, ⟨_, rfl, reset_rings (restart_reset i s)⟩,
    fun hparked hwaking => ⟨_, wakeSequence_next hparked hwaking i, reset_rings (wake_reset i s)⟩⟩⟩
  · have hfold := (afterFold_fold s).trans (congrArg (fun f : FoldEngine => { f with waiting := false }) (performFold_fold s))
    have hwindow := congrArg FoldEngine.window hfold
    have hseg := congrArg FoldEngine.seg hfold
    have hclosed := congrArg FoldEngine.closed hfold
    have hwindow : (afterFold s).fold.window = takeWindow (trialMetres s) (trialMl s) s.fold.buf.elapsed s.fold.window := hwindow
    have hseg : (afterFold s).fold.seg = takeOpen (growSegment (trialMetres s) (trialMl s) s.fold.seg) := hseg
    have hclosed : (afterFold s).fold.closed =
        takeClosed (growSegment (trialMetres s) (trialMl s) s.fold.seg) s.fold.closed := hclosed
    refine ⟨afterFold s, exec_fold_granted hgranted, fun hqs hroom => ?_, fun hqs hfull => ?_, fun hqs hempty => ?_,
      fun old e hqs hold => ?_, fun hshort => ?_, fun hlong => ?_⟩
    · rw [hwindow, takeWindow_fresh hqs, if_neg (Nat.not_le.2 hroom)]
    · rw [hwindow, takeWindow_fresh hqs, if_pos hfull]
    · rw [hwindow, hqs, hempty]
      rfl
    · rw [hwindow, hqs, hold, takeWindow_merged]
    · exact ⟨hseg.trans (if_neg (Nat.not_le.2 hshort)), hclosed.trans (if_neg (Nat.not_le.2 hshort))⟩
    · refine ⟨hseg.trans (if_pos hlong), (hclosed.trans (if_pos hlong)).trans ?_⟩
      congr 1
      rw [List.drop_one]
      by_cases hroom : s.fold.closed.length < 10
      · rw [if_pos hroom, if_neg (Nat.not_le.2 hroom)]
      · rw [if_neg hroom, if_pos (Nat.not_lt.1 hroom)]
  · rw [cold_fold]
    exact ⟨rfl, rfl, rfl⟩

/-! ### The alarm -/

/-- Settles O48. -/
theorem alarmIsSetAndCleared : Obligations.AlarmIsSetAndCleared := by
  refine ⟨fun p n s hfree => ?_, fun i s => ⟨⟨_, rfl, ?_⟩, ⟨_, rfl, reset_alarmVerified (restart_reset i s)⟩,
    fun hparked hwaking => ⟨_, wakeSequence_next hparked hwaking i, reset_alarmVerified (wake_reset i s)⟩⟩⟩
  · refine ⟨fun hp => ⟨next_answerAtOnce hfree (if_pos hp), next_answerAtOnce hfree (if_pos hp)⟩, fun hp hfault => ?_,
      fun hp hfault => ?_⟩
    · exact ⟨next_answerAtOnce hfree ((if_neg (not_not.2 hp)).trans (if_pos hfault)),
        next_answerAtOnce hfree ((if_neg (not_not.2 hp)).trans (if_pos hfault))⟩
    · have hset : setAlarm p n s = _ := (if_neg (not_not.2 hp)).trans (if_neg (ne_true_of_eq_false hfault))
      refine ⟨fun hunset => next_answerAtOnce hfree (hset.trans (if_pos hunset)), fun hunset hpast => ?_, fun hunset hahead => ?_, ?_⟩
      · exact next_answerAtOnce hfree (hset.trans ((if_neg (ne_true_of_eq_false hunset)).trans (if_pos hpast)))
      · exact next_answerAtOnce hfree
          (hset.trans ((if_neg (ne_true_of_eq_false hunset)).trans (if_neg (Nat.not_le.2 hahead))))
      · exact next_answerAtOnce hfree ((if_neg (not_not.2 hp)).trans (if_neg (ne_true_of_eq_false hfault)))
  · rw [cold_clock]
    rfl

/-! ### The checks -/

section
variable {i : StartInputs} {m : HeldMarks} {s p t : State} (hp : Retained s p) (ht : Handed (restartBlocks i m p) t)
include hp ht

/-- R83: the unit choices. -/
theorem reset_unitsChecked :
    let holds := s.units.check = unitCheck s.units.front s.units.rear ∧ s.units.front ≤ 2 ∧ s.units.rear ≤ 2
    (holds → t.units = s.units) ∧ (¬ holds → t.units = ⟨0, 0, 5⟩ ∧ Notified .status t) := by
  have hunits := reset_units ht
  rw [hp.units] at hunits
  refine ⟨fun h => hunits.trans (if_pos h), fun h => ⟨hunits.trans (if_neg h), Handed.notified ht (checked_unitsNotice ?_)⟩⟩
  rwa [hp.units]

/-- R117: the overspeed limit. -/
theorem reset_limitChecked :
    (s.warn.limitCheck = limitCheck s.warn.limit → t.warn.limit = s.warn.limit ∧ t.warn.limitCheck = s.warn.limitCheck)
    ∧ (s.warn.limitCheck ≠ limitCheck s.warn.limit → t.warn.limit = 0 ∧ t.warn.limitCheck = 6 ∧ Notified .status t) := by
  have hitems (u : State) : limitWord (startItems u) = limitWord u := by
    have hraise (b : Bool) {w : Fin 24} (h : 16 ≠ w) (d : BitVec 8) (v : State) :
        limitWord (raiseAtStart b w false d v) = limitWord v := (raiseAtStart_handed h b false d v).limit
    unfold startItems
    dsimp only
    rw [hraise _ (by decide), hraise _ (by decide)]
    exact limitWord_of_warn (storeItems_warn _ _ _)
  have hlimit : limitWord t = limitWord (checked i m p) := (reset_started ht).limit.trans ((hitems _).trans rfl)
  rw [checked_limitWord, hp.warn, limitWord_of_warn hp.warn] at hlimit
  refine ⟨fun h => Prod.mk.inj (hlimit.trans (if_pos h)), fun h => ?_⟩
  obtain ⟨hzero, hcheck⟩ := Prod.mk.inj (hlimit.trans (if_neg h))
  refine ⟨hzero, hcheck.trans (by decide), Handed.notified ht (checked_limitNotice ?_)⟩
  rwa [hp.warn]

/-- R182: the settings. -/
theorem reset_settingsChecked :
    let reload := s.settings.check ≠ settingsCheck s.settings.work
    let w := t.settings.work
    (¬ reload → w = s.settings.work ∧ t.settings.defaulted = s.settings.defaulted)
    ∧ (reload → Notified .status t
      ∧ (∀ image, goodBlock t.nv = some image → w = image ∧ t.settings.defaulted = s.settings.defaulted)
      ∧ (goodBlock t.nv = none → w = .builtIn ∧ t.settings.defaulted = true))
    ∧ t.settings.check = settingsCheck w ∧ t.settings.staging = none := by
  have hcond : p.settings.check ≠ settingsCheck p.settings.work ↔ s.settings.check ≠ settingsCheck s.settings.work := by
    rw [hp.work, hp.check]
  dsimp only
  rw [reset_settings ht, reset_block ht]
  by_cases hreload : p.settings.check ≠ settingsCheck p.settings.work
  · refine ⟨fun h => absurd (hcond.1 hreload) h, fun _ => ⟨Handed.notified ht (checked_settingsNotice hreload), fun image hgood => ?_,
      fun hnone => ?_⟩, ?_, rfl⟩
    · rw [checkSettings_reload hreload, reloadSettings_good hgood]
      exact ⟨rfl, hp.defaulted⟩
    · rw [checkSettings_reload hreload, reloadSettings_none hnone]
      exact ⟨rfl, rfl⟩
    · rw [checkSettings_reload hreload]
      rcases hgood : goodBlock p.nv with _ | image
      · rw [reloadSettings_none hgood]
      · rw [reloadSettings_good hgood]
  · refine ⟨fun _ => ?_, fun h => absurd (hcond.2 h) hreload, ?_, rfl⟩
    · rw [checkSettings_same (not_not.1 hreload)]
      exact ⟨hp.work, hp.defaulted⟩
    · rw [checkSettings_same (not_not.1 hreload)]
      exact not_not.1 hreload

/-- R38: a fold state that fails its check starts anew. -/
theorem reset_foldLost (h : s.fold.check ≠ foldCheck s.fold) : Notified .status t ∧ t.fold.lost = true
    ∧ t.fold.buf = ⟨0, 0, 0, 0, 0, 0, 0, false⟩ ∧ t.fold.rd = 0 ∧ t.fold.rf = 0 ∧ t.fold.window = [] ∧ t.fold.seg = ⟨0, 0⟩
    ∧ t.fold.closed = [] ∧ t.fold.tank = ⟨0, false, false, false, false⟩ := by
  have hempty : checkedFold p.fold = emptyFold true := by
    rw [hp.fold]
    exact if_neg h
  refine ⟨Handed.notified ht (checked_foldNotice ?_), ?_⟩
  · rwa [hp.fold]
  · rw [reset_fold ht]
    by_cases hreload : p.settings.check = settingsCheck p.settings.work
    · rw [tables_fold_kept hreload, hempty]
      exact ⟨rfl, rfl, rfl, rfl, rfl, rfl, rfl, rfl⟩
    · rw [tables_fold_reload hreload, hempty]
      have hq : min ((checkSettings p).settings.work.cm + (checkSettings p).settings.work.ca) 0 = 0 := Nat.min_zero _
      refine ⟨rfl, rfl, ite_self _, ite_self _, rfl, rfl, rfl, ?_⟩
      exact congrArg (fun q => (⟨q, false, false, false, false⟩ : Tank)) hq

/-- R38, R50, R51: a fold state that holds its check is kept, less what a reload changes. -/
theorem reset_foldKept (h : s.fold.check = foldCheck s.fold) :
    let reload := s.settings.check ≠ settingsCheck s.settings.work
    let w := t.settings.work
    t.fold.lost = false ∧ t.fold.buf = s.fold.buf ∧ t.fold.window = s.fold.window ∧ t.fold.seg = s.fold.seg
    ∧ t.fold.closed = s.fold.closed ∧ t.fold.rd = (if w.kr = s.settings.work.kr then s.fold.rd else 0)
    ∧ t.fold.rf = (if w.kf = s.settings.work.kf then s.fold.rf else 0) ∧ (¬ reload → t.fold.tank = s.fold.tank)
    ∧ (reload → t.fold.tank = { s.fold.tank with q := min (w.cm + w.ca) s.fold.tank.q }) := by
  have hkept : checkedFold p.fold = { s.fold with lost := false } := by
    rw [hp.fold]
    exact if_pos h
  dsimp only
  rw [reset_fold ht, reset_settings ht]
  by_cases hreload : p.settings.check = settingsCheck p.settings.work
  · have hsame : s.settings.check = settingsCheck s.settings.work := by rwa [hp.work, hp.check] at hreload
    rw [tables_fold_kept hreload, hkept, checkSettings_same hreload, hp.work]
    exact ⟨rfl, rfl, rfl, rfl, rfl, (if_pos rfl).symm, (if_pos rfl).symm, fun _ => rfl, fun hne => absurd hsame hne⟩
  · have hdiffers : s.settings.check ≠ settingsCheck s.settings.work := by rwa [hp.work, hp.check] at hreload
    rw [tables_fold_reload hreload, hkept, hp.work]
    exact ⟨rfl, rfl, rfl, rfl, rfl, rfl, rfl, fun hsame => absurd hdiffers hsame, fun _ => rfl⟩

omit hp in
theorem reset_foldSealed : t.fold.waiting = false ∧ t.fold.merges = 0 ∧ t.fold.check = foldCheck t.fold := by
  have hchecked : (checkedFold p.fold).check = foldCheck (checkedFold p.fold) := by
    unfold checkedFold
    split_ifs with hcheck
    · exact hcheck
    · rfl
  have htables : (tables p).fold.check = foldCheck (tables p).fold := by
    by_cases hreload : p.settings.check = settingsCheck p.settings.work
    · rw [tables_fold_kept hreload]
      exact hchecked
    · rw [tables_fold_reload hreload]
      rfl
  rw [reset_fold ht]
  exact ⟨rfl, rfl, htables⟩

end

/-- Settles O60. -/
theorem failedRetentionChecksStartAnew : Obligations.FailedRetentionChecksStartAnew := by
  intro i s checked
  have hreset {t : State} (h : Reset i s t) : checked t := by
    obtain ⟨m, p, hp, ht⟩ := h
    obtain ⟨hunits, hnoUnits⟩ := reset_unitsChecked hp ht
    obtain ⟨hlimit, hnoLimit⟩ := reset_limitChecked hp ht
    obtain ⟨hkept, hreload, hsealed, hstaging⟩ := reset_settingsChecked hp ht
    obtain ⟨hwaiting, hmerges, hfold⟩ := reset_foldSealed ht
    have hwork : t.settings.work = (checkSettings p).settings.work := by rw [reset_settings ht]
    refine ⟨hunits, hnoUnits, hlimit, hnoLimit, hkept, hreload, hsealed, hstaging, reset_foldLost hp ht, reset_foldKept hp ht,
      hwaiting, hmerges, hfold, fun hcheck => ?_, fun hcheck k => ?_, ?_⟩
    · rw [← hp.service] at hcheck
      refine ⟨Handed.notified ht (checked_itemsNotice hcheck), fun k => ?_⟩
      rw [reset_itemUnknown ht hcheck, hwork]
      rfl
    · rw [← hp.service] at hcheck
      have hitem := reset_itemKept ht hcheck k
      rw [← hwork, hp.work, hp.service, hp.today] at hitem
      exact hitem
    · rw [reset_service ht]
      rfl
  exact ⟨⟨_, rfl, hreset (restart_reset i s)⟩, fun hparked hwaking => ⟨_, wakeSequence_next hparked hwaking i, hreset (wake_reset i s)⟩⟩

end Sys2Proof.Proofs.ResetChecks

/-! PROOFS. The end of a reset (R160, R166, R171) and the wake sources and sequence (R156, R160, R165 to R167). -/

namespace Sys2Proof.Proofs.Wakes

open Sys2Proof Sys2Proof.Machine Sys2Proof.Proofs.StepInvariants Sys2Proof.Proofs.Grants Sys2Proof.Proofs.Resets
  Sys2Proof.Proofs.Starts Sys2Proof.Proofs.Checks Sys2Proof.Proofs.Retention Sys2Proof.Proofs.ResetChecks Sys2Proof.Proofs.Views
  Sys2Proof.Proofs.SecondEnds Sys2Proof.Proofs.Basics

/-! ### The end of a reset -/

theorem Handed.seconds {s t : State} (h : Handed s t) : t.clock.seconds = s.clock.seconds := by rw [h.clock]

theorem Handed.mainFault {s t : State} (h : Handed s t) : t.clock.mainFault = s.clock.mainFault := by rw [h.clock]

theorem started_mainFault (i : StartInputs) (m : HeldMarks) (s : State) : (started i m s).clock.mainFault = s.clock.mainFault := by
  rw [started_clock, checked_clock]
  split_ifs
  · rfl
  · rfl

/-- R160: the power controller at the end of a COLD START or a RESTART. -/
theorem chosen_power (u : State) : (settleFrom [] (choosePower u)).power = { u.power with
    state := ignitionState u, park := none
    delay := if ignitionState u = .awake then some 983040 else none
    limit := if ignitionState u = .awake then some 39321600 else none } := by
  rw [settleFrom_nil, settle_power_notDue _ _ (choosePower_notDue u), choosePower_power]

theorem ignitionState_of_levels {u : State} {i : StartInputs} (h : u.meas.levels = i.lines) :
    ignitionState u = if i.lines.getLsbD 0 then .run else if i.lines.getLsbD 1 then .acc else .awake := by
  unfold ignitionState level
  rw [h]

/-- R171: the request slots of both links are empty after a reset. -/
def SlotsEmpty (s : State) : Prop := s.port.front.slot = .empty ∧ s.port.rear.slot = .empty

theorem SlotsEmpty.of_kept {s t : State} (h : SlotsEmpty s) (k : PortsKept s t) : SlotsEmpty t :=
  ⟨k.frontSlot.trans h.1, k.rearSlot.trans h.2⟩

theorem startItems_slotsEmpty (i : StartInputs) (s : State) : SlotsEmpty (startItems (startBlocks i s)) :=
  SlotsEmpty.of_kept ⟨rfl, rfl⟩ (startItems_portsKept (startBlocks i s))

/-- R19: the measurements that a start takes. -/
theorem startMeasure_sample (i : StartInputs) (w : Settings) (k : Fin 6) : ((startMeasure i w).channels[k]).sample = i.samples[k] := by
  have hget : (startMeasure i w).channels[k] = startChannel w.senders[k] i.samples[k] := by simp [startMeasure]
  rw [hget]
  rfl

/-! ### The records over sealed retention -/

theorem verifyAll_sealed {s : State} (h : RecordsSealed s.store) : verifyAll s = s := by
  obtain ⟨hodo, ha, hb, hp, hcharter⟩ := h
  rw [verifyAll, verifyOdo_sealed s hodo, verifyTrip_sealed .a s ha, verifyTrip_sealed .b s hb, verifyTrip_sealed .p s hp,
    verifyCharter_sealed s hcharter]

theorem applyMarks_none (s : State) : applyMarks ⟨false, false⟩ s = s := by
  have hmark (x : TripBody) : x.mark ⟨false, false⟩ = x := by simp [TripBody.mark]
  have htrip (k : TripNo) (r : RecordStore) : markTrip ⟨false, false⟩ k r = r := if_pos (.inr (hmark _))
  have hcharter (r : RecordStore) : markCharter ⟨false, false⟩ r = r := if_neg fun h => h.2.2 (hmark _)
  unfold applyMarks
  simp only [htrip, hcharter]
  rfl

/-- R78, R166: over sealed records, and with nothing to mark, the checks leave the records. -/
theorem marked_sealed {i : StartInputs} {m : HeldMarks} {s : State} (h : RecordsSealed s.store) (hm : m = ⟨false, false⟩)
    (hedge : i.mainEdge = true) : (marked i m s).store = { s.store with held := ⟨false, false⟩ } := by
  have hsealed : RecordsSealed (tables s).store := by rwa [tables_store]
  have hmarks : (⟨m.timeDegraded, m.fuelIncomplete || !i.mainEdge⟩ : HeldMarks) = ⟨false, false⟩ := by rw [hm, hedge]; rfl
  rw [marked, hmarks, startMarks, verifyAll_sealed hsealed, applyMarks_none, withStore_store, tables_store]

/-! ### The wake sequence -/

section
variable (i : StartInputs) (s : State)

/-- R166: the state whose checks a wake sequence makes, and the blocks once checked and started. -/
def wakeBase : State := startFault i (roused s)

theorem wakeBase_power : (wakeBase i s).power = { s.power with waking := none } := startFault_power _ _

theorem wakeBase_clock : (wakeBase i s).clock = { s.clock with mainFault := !i.mainEdge } := startFault_clock _ _

theorem wakeBase_store : (wakeBase i s).store = s.store := startFault_store _ _

/-- R166: the blocks as a wake sequence has restarted them. -/
def rewoken : State := restartBlocks i (wakeBase i s).store.held (wakeBase i s)

theorem wake_eq : wake i s = notifyBoth .wake (choosePower (wakeHandoffs (rewoken i s))) := rfl

theorem handRecords_kept {α : Type} {f : State → α}
    (hf : ∀ (b : Bool) (w : Fin 24) (add : Bool) (d : BitVec 8) (u : State), f (raiseAtStart b w add d u) = f u) (rs : List Nat)
    (u : State) : f (handRecords rs u) = f u := by
  unfold handRecords
  induction rs generalizing u with
  | nil => rfl
  | cons k ks ih => exact (ih _).trans (hf true 16 true (member k) u)

theorem rewoken_power : (rewoken i s).power = { s.power with waking := none } := by
  rw [rewoken, restartBlocks_eq, ← wakeBase_power i s]
  exact (handRecords_kept (f := State.power) raiseAtStart_power _ _).trans (started_power i _ _)

theorem rewoken_alarmRang : (rewoken i s).clock.alarmRang = s.clock.alarmRang := by
  have hclock : (rewoken i s).clock = (started i (wakeBase i s).store.held (wakeBase i s)).clock := by
    rw [rewoken, restartBlocks_eq]
    exact handRecords_kept (f := State.clock) raiseAtStart_clock _ _
  rw [hclock, started_clock, checked_clock, wakeBase_clock]
  split_ifs
  · rfl
  · rfl

theorem wakeHandoffs_power (u : State) : (wakeHandoffs u).power = u.power := by simp [wakeHandoffs]

theorem wake_power : (settleFrom [] (wake i s)).power = { s.power with
    waking := none, park := none
    state := ignitionState (wakeHandoffs (rewoken i s))
    delay := if ignitionState (wakeHandoffs (rewoken i s)) = .awake then some 983040 else none
    limit := if ignitionState (wakeHandoffs (rewoken i s)) = .awake then some 39321600 else none } := by
  have hnotDue : ParkNotDue (wake i s) := by
    rw [wake_eq, ParkNotDue, notifyBoth_power]
    exact choosePower_notDue _
  rw [settleFrom_nil, settle_power_notDue _ _ hnotDue, wake_eq, notifyBoth_power, choosePower_power, wakeHandoffs_power, rewoken_power]

theorem raiseAtStart_active {b : Bool} (h : b = true) (w : Fin 24) (add : Bool) (d : BitVec 8) (u : State) :
    ActiveEntry w (raiseAtStart b w add d u) := by
  rw [raiseAtStart, if_pos h]
  exact (startChoice_handed _).active w ((activeEntry_raise w w add d u).2 (.inl rfl))

/-- R121, R156: the alarm that rang in PARKED is raised. -/
theorem wakeHandoffs_alarm {u : State} (h : u.clock.alarmRang = true) : ActiveEntry 20 (wakeHandoffs u) := by
  have hrang : (raiseAtStart (u.clock.onRc || u.clock.heldW17) 17 false 0 u).clock.alarmRang = true := by rwa [raiseAtStart_clock]
  exact (raiseAtStart_handed (by decide) _ false 0 _).active 20 (raiseAtStart_active hrang 20 false 0 _)

/-- R104: the rear call that woke the part is raised. -/
theorem wakeHandoffs_rearCall {u : State} (h : u.power.lastWake.getLsbD 6 = true) : ActiveEntry 19 (wakeHandoffs u) := by
  refine raiseAtStart_active ?_ 19 false 0 _
  rw [raiseAtStart_power, raiseAtStart_power, bne_iff_ne]
  intro hzero
  have hbit := congrArg (fun x : BitVec 16 => x.getLsbD 6) hzero
  rw [BitVec.getLsbD_and, h] at hbit
  exact absurd hbit (by decide)

theorem wakeHandoffs_taken (u : State) : (wakeHandoffs u).clock.alarmRang = false := rfl

/-- R166: what a wake sequence hands on stands at its end. -/
theorem woken_handed : Handed (wakeHandoffs (rewoken i s)) (settleFrom [] (wake i s)) := by
  rw [settleFrom_nil, wake_eq]
  exact (choosePower_handed _).trans ((notifyBoth_handed .wake _).trans (settle_handed _ _))

theorem woken_alarmRang : (settleFrom [] (wake i s)).clock.alarmRang = false := by
  rw [settleFrom_clock, wake_eq, notifyBoth_clock, choosePower_clock]
  exact wakeHandoffs_taken _

theorem woken_notified : Notified .wake (settleFrom [] (wake i s)) := by
  rw [settleFrom_nil, wake_eq]
  exact (settle_portsKept _ _).notified (notified_notifyBoth .wake _)

theorem wakeBase_retained : Retained s (wakeBase i s) := startFault_retained (roused_retained s) i

theorem wakeBase_handed : Handed (rewoken i s) (settleFrom [] (wake i s)) := wake_handed i s

theorem woken_meas : (settleFrom [] (wake i s)).meas = { startMeasure i (checkSettings (wakeBase i s)).settings.work with
    fastWindow := (settleFrom [] (wake i s)).meas.fastWindow } := by
  have hmeas := (reset_started (wakeBase_handed i s)).meas
  rwa [started_meas] at hmeas

theorem woken_state : (settleFrom [] (wake i s)).power.state =
    if i.lines.getLsbD 0 then .run else if i.lines.getLsbD 1 then .acc else .awake := by
  rw [wake_power]
  refine ignitionState_of_levels ?_
  have hhanded := ((restartBlocks_handed i (wakeBase i s).store.held (wakeBase i s)).trans (wakeHandoffs_handed _)).meas
  rw [started_meas] at hhanded
  exact congrArg Measure.levels hhanded

end

/-! ### The wake sources -/

theorem followFiring_power (w : WakeSource) (s : State) : (followFiring w s).power = { s.power with
    reference := (followFiring w s).power.reference, lineHold := (followFiring w s).power.lineHold } := by
  unfold followFiring
  split
  · rfl
  · rfl

theorem followFiring_rest (w : WakeSource) (s : State) : followFiring w s = { s with power := (followFiring w s).power } := by
  unfold followFiring
  split
  · rfl
  · rfl

/-- R165 to R167: an enabled source fires in PARKED. -/
theorem fired {w : WakeSource} {s : State} (hparked : parkedState s = true) (h : wakeEnabled s w = true) :
    let t := fireSource w s
    t = { s with power := t.power } ∧ t.power.state = .parked
    ∧ t.power.causeFront = s.power.causeFront ||| wakeBit w ∧ t.power.causeRear = s.power.causeRear ||| wakeBit w
    ∧ (s.power.waking = none → t.power.waking = some 4000 ∧ t.power.lastWake = wakeBit w)
    ∧ (∀ n, s.power.waking = some n → t.power.waking = some n ∧ t.power.lastWake = s.power.lastWake ||| wakeBit w) := by
  have hstate : s.power.state = .parked := by
    unfold parkedState at hparked
    rw [Bool.and_eq_true, beq_iff_eq] at hparked
    exact hparked.2
  dsimp only
  rw [fireSource_enabled hparked h]
  refine ⟨?_, ?_, ?_, ?_, fun hnone => ?_, fun n hn => ?_⟩
  · conv_lhs => rw [followFiring_rest]
    rfl
  · rw [recordSource_power, followFiring_power]
    exact hstate
  · rw [recordSource_power, followFiring_power]
  · rw [recordSource_power, followFiring_power]
  · rw [recordSource_power, followFiring_power]
    simp [hnone]
  · rw [recordSource_power, followFiring_power]
    simp [hn]

/-- Settles O53. -/
theorem wakeSourcesAndSequence : Obligations.WakeSourcesAndSequence := by
  refine ⟨fun w s => ⟨rfl, fun h => ?_, fun hparked hw => ⟨_, rfl, fired hparked hw⟩⟩, fun i s _ hparked => if_pos hparked,
    fun i s hparked hwaking hsealed hfront hrear hheld hedge => ⟨_, wakeSequence_next hparked hwaking i, ?_⟩⟩
  · have hnot : ¬ (parkedState s && wakeEnabled s w) = true := by
      rw [Bool.and_eq_true]
      rintro ⟨hparked, hw⟩
      rcases h with h | h
      · rw [h] at hparked
        cases hparked
      · rw [h] at hw
        cases hw
    exact congrArg Host.Outcome.next (if_neg hnot)
  obtain ⟨hrecords, hfold, hunits, hlimit, hservice, halarm, hsettings⟩ := hsealed
  have hp := wakeBase_retained i s
  have ht := wakeBase_handed i s
  have hpower := wake_power i s
  have hmeas := woken_meas i s
  have hstate := woken_state i s
  obtain ⟨-, hbuf, -, -, -, hrd, hrf, htank, -⟩ := reset_foldKept hp ht hfold
  have hwork := ((reset_settingsChecked hp ht).1 (not_not.2 hsettings)).1
  rw [hwork] at hrd hrf
  have hstore : (marked i (wakeBase i s).store.held (wakeBase i s)).store = { s.store with held := ⟨false, false⟩ } := by
    rw [marked_sealed (by rwa [wakeBase_store]) (by rwa [wakeBase_store]) hedge, wakeBase_store]
  have hsame := (reset_started ht).records
  rw [SameRecords, started_store, hstore] at hsame
  have hseconds : (settleFrom [] (wake i s)).clock.seconds = s.clock.seconds := by
    rw [Handed.seconds (reset_started ht), started_seconds, wakeBase_clock]
  have hfault : (settleFrom [] (wake i s)).clock.mainFault = false := by
    rw [Handed.mainFault (reset_started ht), started_mainFault, wakeBase_clock, hedge]
    rfl
  have hslots := (startItems_slotsEmpty i (checked i (wakeBase i s).store.held (wakeBase i s))).of_kept (reset_started ht).ports
  refine ⟨hstate, by rw [hpower], by rw [hpower], fun hawake => ?_, woken_notified i s, ?_, hwork,
    (reset_unitsChecked hp ht).1 ⟨hunits, hfront, hrear⟩, hbuf, hrd.trans (if_pos rfl), hrf.trans (if_pos rfl),
    htank (not_not.2 hsettings), hseconds, hfault, by rw [hmeas]; rfl, fun k => ?_, hslots.1, hslots.2,
    ((reset_limitChecked hp ht).1 hlimit).1, fun hcall => ?_, fun hrang => ?_, woken_alarmRang i s⟩
  · rw [hpower] at hawake ⊢
    exact ⟨if_pos hawake, if_pos hawake⟩
  · obtain ⟨hodo, ha, hb, hpast, hcharter, hnone, hlog⟩ := hsame
    exact ⟨hodo, ha, hb, hpast, hcharter, hnone.trans hheld.symm, hlog⟩
  · rw [hmeas]
    exact startMeasure_sample i _ k
  · refine (woken_handed i s).active 19 (wakeHandoffs_rearCall ?_)
    rw [rewoken_power]
    exact hcall
  · refine (woken_handed i s).active 20 (wakeHandoffs_alarm ?_)
    rw [rewoken_alarmRang]
    exact hrang

end Sys2Proof.Proofs.Wakes

/-! PROOFS. The records through their verification and the marks of a start (R61, R64, R76 to R78). -/

namespace Sys2Proof.Proofs.VerifiedRecords

open Sys2Proof Sys2Proof.Machine Sys2Proof.Proofs.BlockSafety Sys2Proof.Proofs.RecordReads Sys2Proof.Proofs.Resets

/-! ### One record -/

/-- R61: a trip after its verification. -/
def verifiedTrip (k : TripNo) (x : Trip) : Trip :=
  if x.body.damaged = false ∧ x.check ≠ tripCheck k.toNat x.body then TripBody.seal k.toNat { x.body with damaged := true } else x

/-- R61, R76: the charter as it is damaged. -/
def brokenCharter (now : Nat) (c : Charter) : Charter :=
  let d : Charter := { c with body := { c.body with damaged := true } }
  Charter.seal (if c.phase = .running then { d with phase := .closed, endStamp := some now, ackFront := false, ackRear := false } else d)

/-- R61, R76: the charter after its verification. -/
def verifiedCharter (now : Nat) (c : Charter) : Charter :=
  if c.body.damaged = false ∧ c.check ≠ charterCheck c then brokenCharter now c else c

theorem setTrip_same (r : RecordStore) (k : TripNo) : r.setTrip k (r.trip k) = r := by cases k <;> rfl

theorem verifyTrip_store (k : TripNo) (s : State) :
    (verifyTrip k s).store = s.store.setTrip k (verifiedTrip k (s.store.trip k)) := by
  unfold verifyTrip verifiedTrip
  dsimp only
  split_ifs
  · rfl
  · exact (setTrip_same _ k).symm

theorem verifyCharter_broken {s : State} (h : s.store.charter.body.damaged = false ∧ s.store.charter.check ≠ charterCheck s.store.charter) :
    verifyCharter s = raise 16 true (member 4) (notifyBothIf (decide (s.store.charter.phase = .running)) .charter
      (s.withStore fun r => { r with charter := brokenCharter s.clock.seconds s.store.charter })) := if_pos h

theorem verifyCharter_store (s : State) :
    (verifyCharter s).store = { s.store with charter := verifiedCharter s.clock.seconds s.store.charter } := by
  unfold verifiedCharter
  by_cases h : s.store.charter.body.damaged = false ∧ s.store.charter.check ≠ charterCheck s.store.charter
  · rw [verifyCharter_broken h, if_pos h, raise_store, notifyBothIf_store]
    rfl
  · rw [if_neg h]
    exact congrArg State.store (if_neg h)

theorem verifyOdo_store (s : State) : (verifyOdo s).store =
    if s.store.odo.check ≠ odoCheck s.store.odo then reloadStore s.nv.slots s.clock.seconds s.store else s.store := by
  unfold verifyOdo
  split_ifs
  · rw [reloadOdo_eq, raise_store, notifyBothIf_store, withStore_store]
  · rfl

/-! ### All five -/

theorem verifyTrip_trip (k o : TripNo) (s : State) :
    (verifyTrip k s).store.trip o = if o = k then verifiedTrip k (s.store.trip k) else s.store.trip o := by
  rw [verifyTrip_store]
  split_ifs with h
  · rw [h, trip_setTrip_same]
  · rw [trip_setTrip_other _ _ _ _ h]

theorem verifyAll_trip (k : TripNo) (s : State) : (verifyAll s).store.trip k = verifiedTrip k ((verifyOdo s).store.trip k) := by
  have hcharter (u : State) : (verifyCharter u).store.trip k = u.store.trip k := by
    rw [verifyCharter_store]
    cases k <;> rfl
  rw [verifyAll, hcharter]
  cases k <;> simp [verifyTrip_trip]

theorem verifyAll_store (s : State) : (verifyAll s).store = { (verifyOdo s).store with
    a := (verifyAll s).store.a, b := (verifyAll s).store.b, p := (verifyAll s).store.p
    charter := verifiedCharter s.clock.seconds (verifyOdo s).store.charter } := by
  have hclock : (verifyTrip .p (verifyTrip .b (verifyTrip .a (verifyOdo s)))).clock = s.clock := by simp
  unfold verifyAll
  rw [verifyCharter_store, hclock, verifyTrip_store, verifyTrip_store, verifyTrip_store]
  rfl

/-! ### The marks of a start -/

theorem marked_store (i : StartInputs) (m : HeldMarks) (s : State) : (marked i m s).store =
    { markedStore ⟨m.timeDegraded, m.fuelIncomplete || !i.mainEdge⟩ (verifyAll (tables s)).store with held := ⟨false, false⟩ } := rfl

/-- R78: a DAMAGED trip takes no mark. -/
theorem markedStore_damagedTrip (m : HeldMarks) (r : RecordStore) {k : TripNo} (h : (r.trip k).body.damaged = true) :
    (markedStore m r).trip k = r.trip k := by
  have hone (o : TripNo) (q : RecordStore) (hq : (q.trip k).body.damaged = true) : (markTrip m o q).trip k = q.trip k := by
    unfold markTrip
    dsimp only
    by_cases ho : k = o
    · subst ho
      rw [if_pos (.inl hq)]
    · split_ifs
      · rfl
      · exact trip_setTrip_other _ _ _ _ ho
  have ha := hone .a r h
  have hb := hone .b (markTrip m .a r) (by rw [ha]; exact h)
  have hp := hone .p (markTrip m .b (markTrip m .a r)) (by rw [hb, ha]; exact h)
  rw [markedStore, markCharter_trip, hp, hb, ha]

/-- R78: a charter that is not RUNNING takes no mark. -/
theorem markedStore_closedCharter (m : HeldMarks) (r : RecordStore) (h : r.charter.phase ≠ .running) :
    (markedStore m r).charter = r.charter := by
  have hmark (q : RecordStore) (hq : q.charter.phase ≠ .running) : markCharter m q = q := if_neg fun hm => hq hm.1
  rw [markedStore, hmark _ (by simpa only [markTrip_charter] using h)]
  simp only [markTrip_charter]

theorem markedStore_damagedCharter (m : HeldMarks) (r : RecordStore) (h : r.charter.body.damaged = true) :
    (markedStore m r).charter = r.charter := by
  have hmark (q : RecordStore) (hq : q.charter.body.damaged = true) : markCharter m q = q :=
    if_neg fun hm => by simp [hq] at hm
  rw [markedStore, hmark _ (by simpa only [markTrip_charter] using h)]
  simp only [markTrip_charter]

theorem markedStore_log (m : HeldMarks) (r : RecordStore) : (markedStore m r).logPos = r.logPos := by
  simp only [markedStore, markCharter_logPos, markTrip_logPos]

theorem verifyAll_logPos (s : State) : (verifyAll s).store.logPos = s.store.logPos := by
  rw [verifyAll_store, verifyOdo_store]
  split_ifs
  · rfl
  · rfl

end Sys2Proof.Proofs.VerifiedRecords

/-! PROOFS. What COLD START and RESTART leave (R59, R61, R77, R78, R81, R82, R166, R174, R182, R185). -/

namespace Sys2Proof.Proofs.ColdAndRestart

open Sys2Proof Sys2Proof.Machine Sys2Proof.Proofs.StepSafety Sys2Proof.Proofs.BlockSafety Sys2Proof.Proofs.StepInvariants
  Sys2Proof.Proofs.Grants Sys2Proof.Proofs.Resets Sys2Proof.Proofs.Starts Sys2Proof.Proofs.Checks Sys2Proof.Proofs.Retention
  Sys2Proof.Proofs.ResetChecks Sys2Proof.Proofs.Views Sys2Proof.Proofs.NamedRecords Sys2Proof.Proofs.Wakes
  Sys2Proof.Proofs.VerifiedRecords Sys2Proof.Proofs.RecordReads Sys2Proof.Proofs.Supervisor Sys2Proof.Proofs.Commits

/-! ### What both leave -/

/-- R185: the array as a COLD START or a RESTART has cut it and dropped what was pending. -/
def cutArray (s : State) : NvArray := { (cutFlight s).nv with pendingSlot := none, pendingCommit := false }

/-- R82, R160, R166, R171, R174, R185: what a COLD START and a RESTART leave alike. -/
structure Chosen (i : StartInputs) (s t : State) : Prop where
  state    : t.power.state = if i.lines.getLsbD 0 then .run else if i.lines.getLsbD 1 then .acc else .awake
  supplied : t.power.supplied = true
  park     : t.power.park = none
  causes   : t.power.causeFront = 0 ∧ t.power.causeRear = 0
  notice   : Notified .restart t
  fault    : t.clock.mainFault = !i.mainEdge
  log      : t.store.logPos = scanLog t.nv.slots
  array    : t.nv = cutArray s
  measured : t.meas.levels = i.lines ∧ t.meas.speed = 0
  slots    : SlotsEmpty t

/-- With nothing pending and no park entry due, settling leaves the array as it was. -/
theorem settle_nv_idle {a u : State} (hdue : ParkNotDue u) (hslot : u.nv.pendingSlot = none) (hcommit : u.nv.pendingCommit = false) :
    (settle a u).nv = u.nv := by
  obtain ⟨v, hnv, hv, -⟩ := settle_nv_notDue (a := a) hdue
  rw [hnv, startWrite_idle (by rw [hv]; exact hslot) (by rw [hv]; exact hcommit), hv]

theorem chosen_nv {u : State} (hslot : u.nv.pendingSlot = none) (hcommit : u.nv.pendingCommit = false) :
    (settleFrom [] (choosePower u)).nv = u.nv := by
  rw [settleFrom_nil, settle_nv_idle (choosePower_notDue u) (by rwa [choosePower_nv]) (by rwa [choosePower_nv]), choosePower_nv]

/-! ### COLD START -/

section
variable (i : StartInputs) (s : State)

theorem coldBase_nv : (coldBase i s).nv = cutArray s := (startMarks_nv _ _).trans (startFault_nv _ _)

theorem coldBase_store : (coldBase i s).store = { markedStore ⟨false, !i.mainEdge⟩ (coldStore (cutArray s).slots) with held := ⟨false, false⟩ } := by
  have hbase : (startFault i (coldRetention (restartNotices (dropWrites (cutFlight s))))).store = coldStore (cutArray s).slots :=
    startFault_store _ _
  rw [← hbase]
  rfl

theorem coldBase_settings : (coldBase i s).settings = coldSettings (cutArray s) := (startMarks_settings _ _).trans (startFault_settings _ _)

theorem coldBase_power : (coldBase i s).power = coldPower (coldSettings (cutArray s)).work :=
  (startMarks_power _ _).trans (startFault_power _ _)

theorem coldBase_units : (coldBase i s).units = ⟨0, 0, 5⟩ := (startMarks_units _ _).trans (startFault_units _ _)

theorem coldBase_service : (coldBase i s).service =
    sealItems (Vector.ofFn fun k => unknownItem (coldSettings (cutArray s)).work.items[k]) :=
  (startMarks_service _ _).trans (startFault_service _ _)

theorem coldBase_notified : Notified .restart (coldBase i s)  := by
  have hnotices : Notified .restart (coldRetention (restartNotices (dropWrites (cutFlight s)))) := ⟨BitVec.and_self, BitVec.and_self⟩
  exact (startFault_portsKept i _).notified hnotices

/-- The blocks of a COLD START once started. -/
def coldStarted : State := startItems (startBlocks i (coldBase i s))

theorem coldStarted_nv : (coldStarted i s).nv = cutArray s := (startItems_nv _).trans (coldBase_nv i s)

theorem coldStarted_store : (coldStarted i s).store = startArbiter (coldBase i s).store := by
  rw [coldStarted, startItems_store, startBlocks_store]

theorem coldStarted_settings : (coldStarted i s).settings = { coldSettings (cutArray s) with staging := none } := by
  rw [coldStarted, startItems_settings, startBlocks_settings, coldBase_settings]

theorem coldStarted_meas : (coldStarted i s).meas = startMeasure i (coldSettings (cutArray s)).work := by
  rw [coldStarted, startItems_meas, startBlocks_meas, coldBase_settings]

theorem cold_power : (settleFrom [] (coldStart i s)).power = { coldPower (coldSettings (cutArray s)).work with
    state := ignitionState (coldStarted i s), park := none
    delay := if ignitionState (coldStarted i s) = .awake then some 983040 else none
    limit := if ignitionState (coldStarted i s) = .awake then some 39321600 else none } := by
  have hpower : (coldStarted i s).power = coldPower (coldSettings (cutArray s)).work := (startItems_power _).trans (coldBase_power i s)
  rw [coldStart_eq, chosen_power, ← hpower]
  rfl

theorem cold_nv : (settleFrom [] (coldStart i s)).nv = cutArray s := by
  have hnv := coldStarted_nv i s
  exact (chosen_nv (u := coldStarted i s) (by rw [hnv]; rfl) (by rw [hnv]; rfl)).trans hnv

theorem cold_chosen : Chosen i s (settleFrom [] (coldStart i s)) where
  state := by
    rw [cold_power]
    refine ignitionState_of_levels ?_
    rw [coldStarted_meas]
    rfl
  supplied := by rw [cold_power]; rfl
  park := by rw [cold_power]
  causes := by rw [cold_power]; exact ⟨rfl, rfl⟩
  notice := (cold_handed i s).ports.notified ((startItems_portsKept _).notified (startBlocks_notified i (coldBase_notified i s)))
  fault := by rw [cold_clock]
  log := by
    obtain ⟨-, -, -, -, -, -, hlog⟩ := (cold_handed i s).records
    have hstore := coldStarted_store i s
    unfold coldStarted at hstore
    rw [hlog, hstore, coldBase_store, cold_nv]
    exact markedStore_log _ _
  array := cold_nv i s
  measured := by
    have hmeas := (cold_handed i s).meas
    rw [show (startItems (startBlocks i (coldBase i s))).meas = _ from coldStarted_meas i s] at hmeas
    rw [hmeas]
    exact ⟨rfl, rfl⟩
  slots := (startItems_slotsEmpty i (coldBase i s)).of_kept (cold_handed i s).ports

theorem cold_odo : (settleFrom [] (coldStart i s)).store.odo = coldOdo (cutArray s).slots := by
  obtain ⟨hodo, -⟩ := (cold_handed i s).records
  have hstore := coldStarted_store i s
  unfold coldStarted at hstore
  rw [hodo, hstore, coldBase_store]
  exact markedStore_odo _ _

theorem cold_trip (k : TripNo) : ((settleFrom [] (coldStart i s)).store.trip k).body =
    ⟨false, 0, 0, 0, 0, 0, (coldOdo (cutArray s).slots).distance, true, false, !i.mainEdge⟩ := by
  have hstore := coldStarted_store i s
  unfold coldStarted at hstore
  have htrip : (settleFrom [] (coldStart i s)).store.trip k =
      (markedStore ⟨false, !i.mainEdge⟩ (coldStore (cutArray s).slots)).trip k := by
    rw [RecordCommands.trip_of_records (cold_handed i s).records, hstore, coldBase_store]
    cases k <;> rfl
  have hcleared : ((coldStore (cutArray s).slots).trip k).body = clearedBody 0 (coldOdo (cutArray s).slots).distance true := by
    cases k <;> rfl
  rw [htrip, markedStore_trip, hcleared]
  simp [markedBody, clearedBody, TripBody.mark]

theorem cold_phase : (settleFrom [] (coldStart i s)).store.charter.phase = .vacant := by
  obtain ⟨-, -, -, -, hcharter, -⟩ := (cold_handed i s).records
  have hstore := coldStarted_store i s
  unfold coldStarted at hstore
  rw [hcharter, hstore, coldBase_store]
  exact (congrArg Charter.phase (markedStore_sameCharter _ _)).trans rfl

theorem cold_settings : (settleFrom [] (coldStart i s)).settings = { coldSettings (cutArray s) with staging := none } :=
  (cold_handed i s).settings.trans (coldStarted_settings i s)

theorem cold_item (k : Fin 8) : (settleFrom [] (coldStart i s)).service.items[k] =
    unknownItem (coldSettings (cutArray s)).work.items[k] := by
  have hservice : (settleFrom [] (coldStart i s)).service = sealItems (evalItems (coldSettings (cutArray s)).work
      (today (startBlocks i (coldBase i s))) (Vector.ofFn fun k => unknownItem (coldSettings (cutArray s)).work.items[k])) := by
    rw [(cold_handed i s).service, startItems_service, startBlocks_settings, coldBase_settings, startBlocks_service, coldBase_service]
    rfl
  have hget : (Vector.ofFn fun k : Fin 8 => unknownItem (coldSettings (cutArray s)).work.items[k])[k] =
      unknownItem (coldSettings (cutArray s)).work.items[k] := by simp
  rw [hservice]
  refine (evalItems_at _ _ _ k).trans ?_
  rw [hget]
  exact unknownItem_evaluated _ _

theorem startItems_limitWord (u : State) : limitWord (startItems u) = limitWord u := by
  have hraise (b : Bool) {w : Fin 24} (h : 16 ≠ w) (d : BitVec 8) (v : State) :
      limitWord (raiseAtStart b w false d v) = limitWord v := (raiseAtStart_handed h b false d v).limit
  unfold startItems
  dsimp only
  rw [hraise _ (by decide), hraise _ (by decide)]
  exact limitWord_of_warn (storeItems_warn _ _ _)

theorem cold_limit : (settleFrom [] (coldStart i s)).warn.limit = 0 := by
  have hbase : limitWord (coldBase i s) = (0, limitCheck 0) := limitWord_of_warn (startFault_warn i _)
  have hblocks : limitWord (startBlocks i (coldBase i s)) = limitWord (coldBase i s) := rfl
  have hlimit := (cold_handed i s).limit
  rw [startItems_limitWord, hblocks, hbase] at hlimit
  exact (Prod.mk.inj hlimit).1

/-! ### RESTART -/

theorem failCommit_eq : failCommit s = { s with settings := (failCommit s).settings } := by
  unfold failCommit
  split_ifs
  · rfl
  · rfl

theorem failCommit_commit : (failCommit s).settings.commit =
    if s.settings.commit = .inProgress then .failed else s.settings.commit := by
  unfold failCommit
  split_ifs
  · rfl
  · rfl

/-- R185: the state whose checks a RESTART makes. -/
def restartBase : State := startFault i (prepared s)

theorem prepared_nv : (prepared s).nv = cutArray s := by
  rw [prepared, failCommit_eq]
  rfl

theorem prepared_power : (prepared s).power =
    { s.power with causeFront := 0, causeRear := 0, lastWake := 0, waking := none, supplied := true } := by
  rw [prepared, failCommit_eq, ← cutFlight_power s]
  rfl

theorem prepared_logPos : (prepared s).store.logPos = scanLog (cutArray s).slots := by
  rw [prepared, failCommit_eq]
  rfl

theorem prepared_notified : Notified .restart (prepared s) := by
  rw [prepared, failCommit_eq]
  exact ⟨BitVec.and_self, BitVec.and_self⟩

theorem prepared_commit : (prepared s).settings.commit =
    if s.settings.commit = .inProgress then .failed else s.settings.commit := by
  have hcommit := failCommit_commit (restartHeld (restartNotices (dropWrites (cutFlight s))))
  have hsettings : (restartHeld (restartNotices (dropWrites (cutFlight s)))).settings = s.settings := cutFlight_settings s
  rw [hsettings] at hcommit
  exact hcommit

theorem restartBase_retained : Retained s (restartBase i s) := startFault_retained (prepared_retained s) i

/-- R78: the marks of a RESTART. -/
def baseMarks : HeldMarks := ⟨(restartBase i s).clock.onRc, false⟩

theorem baseMarks_eq : baseMarks i s = ⟨s.clock.onRc, false⟩ := by
  rw [baseMarks, (restartBase_retained i s).clock]

/-- The blocks as a RESTART has restarted them. -/
def rebooted : State := restartBlocks i (baseMarks i s) (restartBase i s)

theorem rebooted_handed : Handed (rebooted i s) (settleFrom [] (restart i s)) := restart_handed i s

theorem restart_chosen_eq : restart i s = choosePower (raiseAtStart (rebooted i s).clock.onRc 17 false 0 (rebooted i s)) :=
  restart_eq i s

theorem rebooted_nv : (rebooted i s).nv = cutArray s := by
  rw [rebooted, restartBlocks_eq]
  refine (handRecords_kept (f := State.nv) raiseAtStart_nv _ _).trans ((started_nv i _ _).trans ?_)
  exact (startFault_nv i _).trans (prepared_nv s)

theorem rebooted_power : (rebooted i s).power = (prepared s).power := by
  rw [rebooted, restartBlocks_eq]
  exact (handRecords_kept (f := State.power) raiseAtStart_power _ _).trans ((started_power i _ _).trans (startFault_power i _))

theorem restart_power : (settleFrom [] (restart i s)).power = { s.power with
    causeFront := 0, causeRear := 0, lastWake := 0, waking := none, supplied := true
    state := ignitionState (raiseAtStart (rebooted i s).clock.onRc 17 false 0 (rebooted i s)), park := none
    delay := if ignitionState (raiseAtStart (rebooted i s).clock.onRc 17 false 0 (rebooted i s)) = .awake then some 983040 else none
    limit := if ignitionState (raiseAtStart (rebooted i s).clock.onRc 17 false 0 (rebooted i s)) = .awake then some 39321600
      else none } := by
  rw [restart_chosen_eq, chosen_power, raiseAtStart_power, rebooted_power, prepared_power]

theorem restart_nv : (settleFrom [] (restart i s)).nv = cutArray s := by
  have hnv := (raiseAtStart_nv (rebooted i s).clock.onRc 17 false 0 (rebooted i s)).trans (rebooted_nv i s)
  rw [restart_chosen_eq]
  exact (chosen_nv (by rw [hnv]; rfl) (by rw [hnv]; rfl)).trans hnv

/-- R61, R78: the records at the end of a RESTART. -/
def restartRecords : RecordStore :=
  markedStore ⟨s.clock.onRc, !i.mainEdge⟩ (verifyAll (tables (restartBase i s))).store

theorem marked_restart : (marked i (baseMarks i s) (restartBase i s)).store = { restartRecords i s with held := ⟨false, false⟩ } := by
  rw [marked_store, baseMarks_eq, restartRecords]
  rfl

theorem restart_records : SameRecords { restartBase i s with store := { restartRecords i s with held := ⟨false, false⟩ } }
    (settleFrom [] (restart i s)) := by
  have hrecords := (reset_started (rebooted_handed i s)).records
  rw [SameRecords, started_store, marked_restart] at hrecords
  exact hrecords

theorem restart_chosen : Chosen i s (settleFrom [] (restart i s)) where
  state := by
    rw [restart_power]
    refine ignitionState_of_levels ?_
    have hmeas := (restartBlocks_handed i (baseMarks i s) (restartBase i s)).meas
    rw [started_meas] at hmeas
    rw [raiseAtStart_meas]
    exact congrArg Measure.levels hmeas
  supplied := by rw [restart_power]
  park := by rw [restart_power]
  causes := by rw [restart_power]; exact ⟨rfl, rfl⟩
  notice := Handed.notified (rebooted_handed i s) (checked_of_tables ((tables_portsKept _).notified
    ((checkSettings_portsKept _).notified ((startFault_portsKept i _).notified (prepared_notified s)))))
  fault := by
    rw [Handed.mainFault (reset_started (rebooted_handed i s)), started_mainFault, restartBase, startFault_clock]
  log := by
    obtain ⟨-, -, -, -, -, -, hlog⟩ := restart_records i s
    have hbase : (restartBase i s).store = (prepared s).store := startFault_store i _
    refine hlog.trans ((markedStore_log _ _).trans ?_)
    rw [verifyAll_logPos, tables_store, hbase, prepared_logPos, restart_nv]
  array := restart_nv i s
  measured := by
    have hmeas := (reset_started (rebooted_handed i s)).meas
    rw [started_meas] at hmeas
    rw [hmeas]
    exact ⟨rfl, rfl⟩
  slots := (startItems_slotsEmpty i _).of_kept (reset_started (rebooted_handed i s)).ports

theorem restart_commit : (settleFrom [] (restart i s)).settings.commit =
    if s.settings.commit = .inProgress then .failed else s.settings.commit := by
  have hcheck (u : State) : (checkSettings u).settings.commit = u.settings.commit := by
    by_cases h : u.settings.check = settingsCheck u.settings.work
    · rw [checkSettings_same h]
    · rw [checkSettings_reload h]
      rcases hgood : goodBlock u.nv with _ | w
      · rw [reloadSettings_none hgood]
      · rw [reloadSettings_good hgood]
  rw [reset_settings (rebooted_handed i s)]
  exact (hcheck _).trans ((congrArg SettingsStore.commit (startFault_settings i _)).trans (prepared_commit s))

end

end Sys2Proof.Proofs.ColdAndRestart

/-! PROOFS. COLD START and RESTART, over sealed retention and over a broken ODO (R59, R61, R77, R78, R81, R82, R166, R174, R182,
R185). -/

namespace Sys2Proof.Proofs.Restarts

open Sys2Proof Sys2Proof.Machine Sys2Proof.Proofs.StepSafety Sys2Proof.Proofs.BlockSafety Sys2Proof.Proofs.StepInvariants
  Sys2Proof.Proofs.Grants Sys2Proof.Proofs.Resets Sys2Proof.Proofs.Starts Sys2Proof.Proofs.Checks Sys2Proof.Proofs.Retention
  Sys2Proof.Proofs.ResetChecks Sys2Proof.Proofs.Views Sys2Proof.Proofs.NamedRecords Sys2Proof.Proofs.Wakes
  Sys2Proof.Proofs.VerifiedRecords Sys2Proof.Proofs.RecordReads Sys2Proof.Proofs.Supervisor Sys2Proof.Proofs.Commits
  Sys2Proof.Proofs.ColdAndRestart

section
variable (i : StartInputs) (s : State)

/-- R155 to R158: what a RESTART keeps of the clock. -/
theorem restart_clockKept : (settleFrom [] (restart i s)).clock.seconds = s.clock.seconds
    ∧ (settleFrom [] (restart i s)).clock.unset = s.clock.unset ∧ (settleFrom [] (restart i s)).clock.divisor = s.clock.divisor
    ∧ (settleFrom [] (restart i s)).clock.onRc = s.clock.onRc := by
  rw [(reset_started (rebooted_handed i s)).clock, started_clock, checked_clock, (restartBase_retained i s).clock]
  split_ifs
  · exact ⟨rfl, rfl, rfl, rfl⟩
  · exact ⟨rfl, rfl, rfl, rfl⟩

theorem restartBase_trip (k : TripNo) : (restartBase i s).store.trip k = s.store.trip k := by
  rw [(restartBase_retained i s).store]
  cases k <;> rfl

theorem restart_trip (k : TripNo) : (settleFrom [] (restart i s)).store.trip k = (restartRecords i s).trip k := by
  rw [RecordCommands.trip_of_records (restart_records i s)]
  cases k <;> rfl

theorem restart_charter : (settleFrom [] (restart i s)).store.charter = (restartRecords i s).charter := by
  obtain ⟨-, -, -, -, hcharter, -⟩ := restart_records i s
  exact hcharter

theorem restart_odo : (settleFrom [] (restart i s)).store.odo = (verifyAll (tables (restartBase i s))).store.odo := by
  obtain ⟨hodo, -⟩ := restart_records i s
  exact hodo.trans (markedStore_odo _ _)

theorem restart_held : (settleFrom [] (restart i s)).store.held = ⟨false, false⟩ := by
  obtain ⟨-, -, -, -, -, hheld, -⟩ := restart_records i s
  exact hheld

/-! ### Over sealed records -/

theorem restartBase_sealed (h : RecordsSealed s.store) : RecordsSealed (tables (restartBase i s)).store := by
  rw [tables_store, (restartBase_retained i s).store]
  exact h

theorem verified_sealed (h : RecordsSealed s.store) :
    (verifyAll (tables (restartBase i s))).store = { s.store with logPos := (restartBase i s).store.logPos } := by
  rw [verifyAll_sealed (restartBase_sealed i s h), tables_store]
  exact (restartBase_retained i s).store

theorem markedStore_none (r : RecordStore) : markedStore ⟨false, false⟩ r = r := by
  have hmark (x : TripBody) : x.mark ⟨false, false⟩ = x := by simp [TripBody.mark]
  have htrip (k : TripNo) (q : RecordStore) : markTrip ⟨false, false⟩ k q = q := if_pos (.inr (hmark _))
  have hcharter (q : RecordStore) : markCharter ⟨false, false⟩ q = q := if_neg fun h => h.2.2 (hmark _)
  rw [markedStore, htrip, htrip, htrip, hcharter]

/-- R78: with nothing to mark, the records are those that the verification left. -/
theorem restartRecords_unmarked (hedge : i.mainEdge = true) (hrc : s.clock.onRc = false) :
    restartRecords i s = (verifyAll (tables (restartBase i s))).store := by
  rw [restartRecords, hedge, hrc]
  exact markedStore_none _

/-! ### Over a broken ODO -/

section
variable (h : s.store.odo.check ≠ odoCheck s.store.odo)
include h

theorem restartBase_odoBroken : (tables (restartBase i s)).store.odo.check ≠ odoCheck (tables (restartBase i s)).store.odo := by
  rw [tables_store, (restartBase_retained i s).store]
  exact h

/-- R77: the records that the reload of ODO leaves to the other verifications. -/
theorem reloaded_store : (verifyOdo (tables (restartBase i s))).store =
    reloadStore (cutArray s).slots s.clock.seconds { s.store with logPos := (restartBase i s).store.logPos } := by
  have hnv : (restartBase i s).nv = cutArray s := (startFault_nv i _).trans (prepared_nv s)
  have hclock : (restartBase i s).clock.seconds = s.clock.seconds := by rw [(restartBase_retained i s).clock]
  rw [verifyOdo_store, if_pos (restartBase_odoBroken i s h), tables_nv, tables_clock, hnv, hclock, tables_store]
  exact congrArg (reloadStore (cutArray s).slots s.clock.seconds) (restartBase_retained i s).store

theorem reloaded_odo : (verifyAll (tables (restartBase i s))).store.odo =
    Odo.seal ⟨reloadedDistance (cutArray s).slots, true, false, false, 0⟩ := by
  rw [verifyAll_store, reloaded_store i s h]
  rfl

theorem reloaded_trip (k : TripNo) : ((verifyAll (tables (restartBase i s))).store.trip k).body =
    clearedBody s.clock.seconds (reloadedDistance (cutArray s).slots) true := by
  have hseal (x : TripBody) : verifiedTrip k (x.seal k.toNat) = x.seal k.toNat := if_neg fun hbroken => hbroken.2 rfl
  rw [verifyAll_trip, reloaded_store i s h]
  cases k <;> exact congrArg Trip.body (hseal _)

theorem reloaded_charter (hrunning : s.store.charter.phase = .running) :
    (verifyAll (tables (restartBase i s))).store.charter.phase = .vacant := by
  have hseal (c : Charter) (now : Nat) : verifiedCharter now c.seal = c.seal := if_neg fun hbroken => hbroken.2 rfl
  have hcharter : (reloadStore (cutArray s).slots s.clock.seconds { s.store with logPos := (restartBase i s).store.logPos }).charter =
      Charter.seal ⟨clearedBody s.clock.seconds (reloadedDistance (cutArray s).slots) true, .vacant, none, false, false, 0⟩ :=
    if_pos hrunning
  rw [verifyAll_store]
  dsimp only
  rw [reloaded_store i s h, hcharter, hseal]
  rfl

theorem reloaded_notified (hrunning : s.store.charter.phase = .running) : Notified .charter (settleFrom [] (restart i s)) := by
  refine Handed.notified (rebooted_handed i s) (checked_of_records ?_)
  have hphase : decide ((tables (restartBase i s)).store.charter.phase = .running) = true := by
    rw [tables_store, (restartBase_retained i s).store]
    exact decide_eq_true hrunning
  have hodo : Notified .charter (verifyOdo (tables (restartBase i s))) := by
    rw [verifyOdo, if_pos (restartBase_odoBroken i s h), reloadOdo_eq]
    exact (PortsKept.of_port (raise_port 16 true (member 0) _)).notified (notified_notifyBothIf hphase .charter _)
  refine (verifyCharter_portsKept _).notified (PortsKept.notified (.of_port ?_) hodo)
  simp

/-- R77, R121: W16 names ODO. -/
theorem reloaded_named : Carried 0 (settleFrom [] (restart i s)) := by
  refine (rebooted_handed i s).carried 0 ?_
  have hbroken : (restartBase i s).store.odo.check ≠ odoCheck (restartBase i s).store.odo := by
    have htables := restartBase_odoBroken i s h
    rwa [tables_store] at htables
  rw [rebooted, restartBlocks_eq, decide_eq_true hbroken]
  refine handRecords_carried ?_ (by decide) ((startItems_safe _).list.details fun e he => nomatch he)
  simp [handedRecords]

end

/-- R78: W17 stands while the clock runs from the RC oscillator. -/
theorem restart_degraded (hrc : s.clock.onRc = true) : ActiveEntry 17 (settleFrom [] (restart i s)) := by
  have honRc : (rebooted i s).clock.onRc = true := by
    have hclock : (rebooted i s).clock = (started i (baseMarks i s) (restartBase i s)).clock := by
      rw [rebooted, restartBlocks_eq]
      exact handRecords_kept (f := State.clock) raiseAtStart_clock _ _
    rw [hclock, started_clock, checked_clock, (restartBase_retained i s).clock]
    split_ifs
    · exact hrc
    · exact hrc
  rw [restart_chosen_eq, settleFrom_nil]
  exact ((choosePower_handed _).trans (settle_handed _ _)).active 17 (raiseAtStart_active honRc 17 false 0 _)

end

/-- Settles O59. -/
theorem coldStartAndRestart : Obligations.ColdStartAndRestart := by
  intro i s chosen
  have hchosen {t : State} (h : Chosen i s t) : chosen t := by
    have hcut := cutFlight_cut s
    refine ⟨h.state, h.supplied, h.park, h.causes.1, h.causes.2, h.notice, h.fault, h.log, ?_⟩
    rw [h.array]
    refine ⟨hcut.flight, rfl, rfl, fun hidle => ?_, fun snap no seq left hslot => hcut.slot snap no seq left hslot,
      fun image left hcommit => hcut.commit image left hcommit, h.measured.1, h.measured.2, h.slots.1, h.slots.2⟩
    have hsame := hcut.idle hidle
    have hslots : (cutArray s).slots = (cutFlight s).nv.slots := rfl
    have hblock : (cutArray s).block = (cutFlight s).nv.block := rfl
    rw [hslots, hblock, hsame]
    exact ⟨rfl, rfl⟩
  have hrestart := hchosen (restart_chosen i s)
  refine ⟨⟨_, rfl, hchosen (cold_chosen i s), ?_⟩, ⟨_, rfl, hrestart, ?_⟩, fun hsealed hfront hrear hedge hrc => ⟨_, rfl, hrestart, ?_⟩,
    fun hsealed hedge hrc => ⟨_, rfl, hrestart, ?_⟩, fun hbroken hedge hrc => ⟨_, rfl, hrestart, ?_⟩⟩
  case refine_1 =>
    have hsettings := cold_settings i s
    rw [cold_odo, cold_nv]
    refine ⟨fun hnone => ?_, fun q hq => ?_, fun k => cold_trip i s k, cold_phase i s, ?_, ?_, ?_, ?_, ?_, cold_limit i s, ?_, ?_, ?_,
      ?_, ?_, fun w hgood => ?_, fun hnone => ?_, fun k => ?_⟩
    · rw [coldOdo, hnone]
      exact ⟨rfl, rfl, rfl⟩
    · rw [coldOdo, hq]
      exact ⟨rfl, rfl, rfl⟩
    · rw [cold_fold]
      rfl
    · rw [cold_fold]
      rfl
    · rw [cold_fold]
      rfl
    · rw [cold_fold]
      rfl
    · rw [(cold_handed i s).units, startItems_units]
      exact coldBase_units i s
    · rw [hsettings, coldSettings]
      split
      · rfl
      · rfl
    · rw [cold_clock]
      rfl
    · rw [cold_clock]
      rfl
    · rw [cold_clock]
      rfl
    · rw [cold_clock]
      rfl
    · rw [hsettings, coldSettings, hgood]
      exact ⟨rfl, rfl⟩
    · rw [hsettings, coldSettings, hnone]
      exact ⟨rfl, rfl⟩
    · rw [cold_item, hsettings]
      rfl
  case refine_2 =>
    rw [restart_commit]
    exact ⟨fun h => if_pos h, fun h _ => if_neg h⟩
  case refine_3 =>
    obtain ⟨hrecords, hfold, hunits, hlimit, -, halarm, hsettings⟩ := hsealed
    have hp := restartBase_retained i s
    have ht := rebooted_handed i s
    obtain ⟨-, hbuf, -, -, -, hrd, hrf, htank, -⟩ := reset_foldKept hp ht hfold
    obtain ⟨hkept, -, -, hstaging⟩ := reset_settingsChecked hp ht
    have hwork := (hkept (not_not.2 hsettings)).1
    rw [hwork] at hrd hrf
    have hstore := (restartRecords_unmarked i s hedge hrc).trans (verified_sealed i s hrecords)
    have htrip (k : TripNo) : (settleFrom [] (restart i s)).store.trip k = s.store.trip k := by
      rw [restart_trip, hstore]
      cases k <;> rfl
    obtain ⟨hseconds, hunset, hdivisor, -⟩ := restart_clockKept i s
    refine ⟨?_, htrip .a, htrip .b, htrip .p, ?_, restart_held i s, hbuf, hrd.trans (if_pos rfl), hrf.trans (if_pos rfl),
      htank (not_not.2 hsettings), hwork, hstaging, (reset_unitsChecked hp ht).1 ⟨hunits, hfront, hrear⟩,
      ((reset_limitChecked hp ht).1 hlimit).1, hseconds, hunset, hdivisor, (reset_alarmVerified (restart_reset i s)).1 halarm⟩
    · rw [restart_odo, verified_sealed i s hrecords]
    · rw [restart_charter, hstore]
  case refine_4 =>
    have hstore : restartRecords i s = markedStore ⟨true, false⟩ { s.store with logPos := (restartBase i s).store.logPos } := by
      rw [restartRecords, hedge, hrc, verified_sealed i s hsealed.1]
      rfl
    obtain ⟨-, -, -, honRc⟩ := restart_clockKept i s
    refine ⟨restart_degraded i s hrc, honRc.trans hrc, ⟨fun k => ?_, ?_⟩, ?_, ?_⟩
    · rw [restart_trip, hstore, markedStore_trip, markedBody_time]
      cases k <;> rfl
    · rw [restart_charter, hstore, markedStore_charter, markedBody_time]
    · rw [restart_odo, verified_sealed i s hsealed.1]
    · rw [restart_charter, hstore, markedStore_sameCharter]
  case refine_5 =>
    have hodo := (restart_odo i s).trans (reloaded_odo i s hbroken)
    rw [hodo, restart_nv]
    refine ⟨rfl, rfl, rfl, fun k => ?_, fun hrunning => ⟨?_, reloaded_notified i s hbroken hrunning⟩,
      (reloaded_named i s hbroken).exists⟩
    · rw [restart_trip, restartRecords_unmarked i s hedge hrc, reloaded_trip i s hbroken]
      rfl
    · rw [restart_charter, restartRecords_unmarked i s hedge hrc, reloaded_charter i s hbroken hrunning]

end Sys2Proof.Proofs.Restarts

/-! PROOFS. Broken trips and charters: when they are read, when a fold touches them, and at RESTART (R61, R76, R78). -/

namespace Sys2Proof.Proofs.BrokenRecords

open Sys2Proof Sys2Proof.Machine Sys2Proof.Proofs.StepSafety Sys2Proof.Proofs.BlockSafety Sys2Proof.Proofs.StepInvariants
  Sys2Proof.Proofs.Grants Sys2Proof.Proofs.Resets Sys2Proof.Proofs.Starts Sys2Proof.Proofs.Checks Sys2Proof.Proofs.Retention
  Sys2Proof.Proofs.Views Sys2Proof.Proofs.NamedRecords Sys2Proof.Proofs.Wakes Sys2Proof.Proofs.VerifiedRecords
  Sys2Proof.Proofs.RecordReads Sys2Proof.Proofs.RecordCommands Sys2Proof.Proofs.ColdAndRestart Sys2Proof.Proofs.Restarts
  Sys2Proof.Proofs.FoldConversion Sys2Proof.Proofs.Folds

/-! ### One verification -/

/-- R61: a trip that is not DAMAGED fails its check word. -/
def TripBroken (k : TripNo) (x : Trip) : Prop := x.body.damaged = false ∧ x.check ≠ tripCheck k.toNat x.body

/-- R61: the charter is not DAMAGED and fails its check word. -/
def CharterBroken (c : Charter) : Prop := c.body.damaged = false ∧ c.check ≠ charterCheck c

theorem verifiedTrip_broken {k : TripNo} {x : Trip} (h : TripBroken k x) :
    verifiedTrip k x = TripBody.seal k.toNat { x.body with damaged := true } := if_pos h

theorem verifiedTrip_damaged {k : TripNo} {x : Trip} (h : x.body.damaged = true) : verifiedTrip k x = x :=
  if_neg fun hbroken => ne_true_of_eq_false hbroken.1 h

theorem verifiedCharter_broken {now : Nat} {c : Charter} (h : CharterBroken c) : verifiedCharter now c = brokenCharter now c := if_pos h

theorem verifiedCharter_damaged {now : Nat} {c : Charter} (h : c.body.damaged = true) : verifiedCharter now c = c :=
  if_neg fun hbroken => ne_true_of_eq_false hbroken.1 h

theorem verifyTrip_damaged {k : TripNo} {s : State} (h : (s.store.trip k).body.damaged = true) : verifyTrip k s = s :=
  if_neg fun hbroken => ne_true_of_eq_false hbroken.1 h

theorem verifyCharter_damaged {s : State} (h : s.store.charter.body.damaged = true) : verifyCharter s = s :=
  if_neg fun hbroken => ne_true_of_eq_false hbroken.1 h

theorem verifyTrip_broken {k : TripNo} {s : State} (h : TripBroken k (s.store.trip k)) : verifyTrip k s =
    raise 16 true (member k.toNat) (s.withStore fun r => r.setTrip k (TripBody.seal k.toNat { (s.store.trip k).body with damaged := true })) :=
  if_pos h

theorem toNat_lt (k : TripNo) : k.toNat < 8 := by cases k <;> decide

theorem verifyTrip_named {k : TripNo} {s : State} (h : TripBroken k (s.store.trip k)) (hd : DetailsPresent s.warn.list) :
    Carried k.toNat (verifyTrip k s) := by
  rw [verifyTrip_broken h]
  exact carried_raise (s := s.withStore _) hd (toNat_lt k)

theorem verifyCharter_named {s : State} (h : CharterBroken s.store.charter) (hd : DetailsPresent s.warn.list) :
    Carried 4 (verifyCharter s) := by
  rw [verifyCharter_broken h]
  refine carried_raise ?_ (by decide)
  rw [notifyBothIf_warn]
  exact hd

theorem verifyCharter_notified {s : State} (h : CharterBroken s.store.charter) (hrunning : s.store.charter.phase = .running) :
    Notified .charter (verifyCharter s) := by
  rw [verifyCharter_broken h]
  exact (PortsKept.of_port (raise_port 16 true (member 4) _)).notified
    (notified_notifyBothIf (decide_eq_true hrunning) .charter _)

/-- R76: the fields of a charter as it is damaged. -/
theorem brokenCharter_fields (now : Nat) (c : Charter) :
    (brokenCharter now c).body = { c.body with damaged := true }
    ∧ (brokenCharter now c).check = charterCheck (brokenCharter now c)
    ∧ (c.phase = .running → (brokenCharter now c).phase = .closed ∧ (brokenCharter now c).endStamp = some now
        ∧ (brokenCharter now c).ackFront = false ∧ (brokenCharter now c).ackRear = false)
    ∧ (c.phase ≠ .running → (brokenCharter now c).phase = c.phase ∧ (brokenCharter now c).endStamp = c.endStamp
        ∧ (brokenCharter now c).ackFront = c.ackFront ∧ (brokenCharter now c).ackRear = c.ackRear) := by
  unfold brokenCharter
  by_cases h : c.phase = .running
  · simp only [if_pos h]
    exact ⟨rfl, rfl, fun _ => ⟨rfl, rfl, rfl, rfl⟩, fun hne => absurd h hne⟩
  · simp only [if_neg h]
    exact ⟨rfl, rfl, fun heq => absurd heq h, fun _ => ⟨rfl, rfl, rfl, rfl⟩⟩

/-! ### A read -/

section
variable {p : Port} {page record : Byte} {s : State} {r : RecordNo}

/-- R67: the state in which a record read answers, with the record verified. -/
def readState (p : Port) (record page : Byte) (r : RecordNo) (s : State) : State :=
  verifyRecord r (granted p (.readRecord record page) s)

theorem workReadRecord_verified (hr : record.toNat = recordNumber r) :
    workAtOnce p (.readRecord record page) (workReadRecord record page) s = (readState p record page r s,
      ⟨.ok, if page = 0 then recordPage0 (readState p record page r s) r else recordPage1 (readState p record page r s) r⟩) := by
  simp only [workAtOnce, workReadRecord, hr, recordOf_recordNumber, readState]

theorem read_accepted (hr : record.toNat = recordNumber r) (hpage : page.toNat ≤ 1) : earlyReadRecord record page s = none :=
  if_neg fun hbad => by
    have hle := recordNumber_le r
    omega

/-- R67: what a read that finds the store free leaves. -/
theorem read_done (hfree : StoreFree p s) (hr : record.toNat = recordNumber r) (hpage : page.toNat ≤ 1) :
    Done p s (workAtOnce p (.readRecord record page) (workReadRecord record page) s) (settle s (serveReadRecord p record page s)) := by
  have hearly := read_accepted (s := s) hr hpage
  refine underGrant_done hfree hearly ?_
  rw [workReadRecord_verified hr]
  exact verifyRecord_portsKept r _

theorem read_shown (hfree : StoreFree p s) (hr : record.toNat = recordNumber r) (hpage : page.toNat ≤ 1) :
    SameShown (readState p record page r s) (settle s (serveReadRecord p record page s)) := by
  have hearly := read_accepted (s := s) hr hpage
  have hwork : (workAtOnce p (.readRecord record page) (workReadRecord record page) s).1 = readState p record page r s :=
    congrArg Prod.fst (workReadRecord_verified hr)
  refine (settle_shown s _).trans ?_
  rw [serveReadRecord, underGrant_free p _ _ _ s hfree hearly, ← hwork]
  exact (deliver_shown p _ _)

theorem read_slots (hfree : StoreFree p s) (hr : record.toNat = recordNumber r) (hpage : page.toNat ≤ 1) :
    (settle s (serveReadRecord p record page s)).nv.slots = (readState p record page r s).nv.slots := by
  have hearly := read_accepted (s := s) hr hpage
  have hwork : (workAtOnce p (.readRecord record page) (workReadRecord record page) s).1 = readState p record page r s :=
    congrArg Prod.fst (workReadRecord_verified hr)
  rw [(Folds.settle_array _ _).1, serveReadRecord, underGrant_free p _ _ _ s hfree hearly, ← hwork]
  exact congrArg NvArray.slots (deliver_nv p _ _)

/-- R61, R67: a read verifies its record and answers with it as it then stands. -/
theorem read_reading (hr : record.toNat = recordNumber r) (hpage : page.toNat ≤ 1) (hfree : StoreFree p s) :
    let t := settle s (serveReadRecord p record page s)
    SameReading (readState p record page r s) t
    ∧ Answered p ⟨.ok, if page = 0 then recordPage0 t r else recordPage1 t r⟩ s t
    ∧ (∀ n, Notified n (readState p record page r s) → Notified n t)
    ∧ t.fold = s.fold ∧ t.meas = s.meas ∧ t.settings = s.settings ∧ t.units = s.units ∧ t.service = s.service
    ∧ t.clock = s.clock ∧ t.timers = s.timers := by
  have hdone := read_done (page := page) hfree hr hpage
  rw [workReadRecord_verified hr] at hdone
  have hreading := Done.reading hdone
  have hanswered := hdone.answered
  have hslots := read_slots (page := page) hfree hr hpage
  dsimp only at hanswered
  rw [← hreading.page0, ← hreading.page1 r hslots] at hanswered
  refine ⟨hreading, hanswered, hdone.ports, hdone.fold.trans ?_, hdone.meas.trans ?_, hdone.settings.trans ?_, hdone.units.trans ?_,
    hdone.service.trans ?_, hdone.clock.trans ?_, hdone.timers.trans ?_⟩
  · simp [readState]
  · simp [readState]
  · simp [readState]
  · simp [readState]
  · simp [readState]
  · simp [readState]
  · simp [readState, granted_timers]

end

/-! ### A fold -/

/-- R61, R65: a trip after a fold. -/
def foldedTrip (metres ml run mov : Nat) (k : TripNo) (x : Trip) : Trip :=
  if (verifiedTrip k x).body.damaged then verifiedTrip k x
  else TripBody.seal k.toNat ((verifiedTrip k x).body.take metres ml run mov)

section
variable (metres ml run mov : Nat)

theorem foldTrip_store (k : TripNo) (s : State) :
    (foldTrip metres ml run mov k s).store = s.store.setTrip k (foldedTrip metres ml run mov k (s.store.trip k)) := by
  have hset (r : RecordStore) (x y : Trip) : (r.setTrip k x).setTrip k y = r.setTrip k y := by cases k <;> rfl
  unfold foldTrip foldedTrip
  dsimp only
  rw [verifyTrip_store, trip_setTrip_same]
  split_ifs
  · exact verifyTrip_store k s
  · rw [withStore_store, verifyTrip_store, hset]

theorem foldTrip_trip (k o : TripNo) (s : State) : (foldTrip metres ml run mov k s).store.trip o =
    if o = k then foldedTrip metres ml run mov k (s.store.trip k) else s.store.trip o := by
  rw [foldTrip_store]
  split_ifs with h
  · rw [h, trip_setTrip_same]
  · rw [trip_setTrip_other _ _ _ _ h]

theorem foldTrip_charter (k : TripNo) (s : State) : (foldTrip metres ml run mov k s).store.charter = s.store.charter := by
  rw [foldTrip_store, setTrip_charter]

/-- R46: a fold into the three trips. -/
def foldTrips (s : State) : State := foldTrip metres ml run mov .p (foldTrip metres ml run mov .b (foldTrip metres ml run mov .a s))

theorem foldTrips_trip (k : TripNo) (s : State) :
    (foldTrips metres ml run mov s).store.trip k = foldedTrip metres ml run mov k (s.store.trip k) := by
  unfold foldTrips
  cases k <;> simp [foldTrip_trip]

theorem foldTrips_charter (s : State) : (foldTrips metres ml run mov s).store.charter = s.store.charter := by
  simp only [foldTrips, foldTrip_charter]

theorem carried_verifyTrip {j : Nat} {s : State} (h : Carried j s) (k : TripNo) : Carried j (verifyTrip k s) := by
  unfold verifyTrip
  dsimp only
  split_ifs
  · exact Carried.raise (s := s.withStore _) h _
  · exact h

theorem carried_verifyCharter {j : Nat} {s : State} (h : Carried j s) : Carried j (verifyCharter s) := by
  by_cases hbroken : CharterBroken s.store.charter
  · rw [verifyCharter_broken hbroken]
    refine Carried.raise (Carried.of_warn (s := s) h ?_) _
    rw [notifyBothIf_warn]
    rfl
  · rw [show verifyCharter s = s from if_neg hbroken]
    exact h

theorem carried_foldTrip {j : Nat} {s : State} (h : Carried j s) (k : TripNo) : Carried j (foldTrip metres ml run mov k s) := by
  have hverified := carried_verifyTrip h k
  unfold foldTrip
  dsimp only
  split_ifs
  · exact hverified
  · exact hverified.of_warn rfl

theorem carried_foldCharter {j : Nat} {s : State} (h : Carried j s) : Carried j (foldCharter metres ml run mov s) := by
  have hverified := carried_verifyCharter h
  unfold foldCharter
  dsimp only
  split_ifs
  · exact hverified.of_warn rfl
  · exact hverified
  · exact h

theorem carried_handItemSets {j : Nat} {s : State} (h : Carried j s) (due overdue : BitVec 8) :
    Carried j (handItemSets due overdue s) := by
  have hdue : Carried j (if due = 0 then release 13 s else raise 13 false due s) := by
    split_ifs
    · exact h.release_other (v := 13) (by decide)
    · exact h.raise_other (v := 13) (by decide) false due
  unfold handItemSets
  dsimp only
  generalize (if due = 0 then release 13 s else raise 13 false due s) = u at hdue ⊢
  split_ifs
  · exact hdue.release_other (v := 14) (by decide)
  · exact hdue.raise_other (v := 14) (by decide) false overdue

theorem carried_evaluateFrom {j : Nat} {s : State} (h : Carried j s) (old items : Vector Item 8) : Carried j (evaluateFrom old items s) :=
  carried_handItemSets (h.of_warn (storeItems_warn old (evalItems s.settings.work (today s) items) s)) _ _

/-- R61: a broken trip is named by the fold that touches it. -/
theorem foldTrips_named {k : TripNo} {s : State} (h : TripBroken k (s.store.trip k)) (hd : DetailsPresent s.warn.list) :
    Carried k.toNat (foldTrips metres ml run mov s) := by
  have hself (o : TripNo) {u : State} (hu : TripBroken o (u.store.trip o)) (hdu : DetailsPresent u.warn.list) :
      Carried o.toNat (foldTrip metres ml run mov o u) := by
    have hverified := verifyTrip_named hu hdu
    unfold foldTrip
    dsimp only
    split_ifs
    · exact hverified
    · exact hverified.of_warn rfl
  have hda := (foldTrip_safe metres ml run mov .a s).list.details hd
  have hdb := (foldTrip_safe metres ml run mov .b (foldTrip metres ml run mov .a s)).list.details hda
  have hb : (foldTrip metres ml run mov .a s).store.trip .b = s.store.trip .b := by simp [foldTrip_trip]
  have hp : (foldTrip metres ml run mov .b (foldTrip metres ml run mov .a s)).store.trip .p = s.store.trip .p := by
    simp [foldTrip_trip]
  unfold foldTrips
  cases k
  · exact carried_foldTrip metres ml run mov (carried_foldTrip metres ml run mov (hself .a h hd) .b) .p
  · exact carried_foldTrip metres ml run mov (hself .b (by rw [hb]; exact h) hda) .p
  · exact hself .p (by rw [hp]; exact h) hdb

theorem foldTrips_safe (s : State) : Safe s (foldTrips metres ml run mov s) :=
  (foldTrip_safe metres ml run mov .a s).trans ((foldTrip_safe metres ml run mov .b _).trans (foldTrip_safe metres ml run mov .p _))

/-- R76: a RUNNING charter that is broken is closed by the fold that touches it, and takes nothing. -/
theorem foldCharter_broken {s : State} (h : CharterBroken s.store.charter) (hrunning : s.store.charter.phase = .running) :
    foldCharter metres ml run mov s = verifyCharter s := by
  have hclosed : (verifyCharter s).store.charter.phase ≠ .running := by
    rw [verifyCharter_store]
    dsimp only
    rw [verifiedCharter_broken h]
    rw [((brokenCharter_fields s.clock.seconds s.store.charter).2.2.1 hrunning).1]
    decide
  exact (if_pos hrunning).trans (if_neg fun hboth => hclosed hboth.1)

theorem foldCharter_damaged {s : State} (h : s.store.charter.body.damaged = true) : foldCharter metres ml run mov s = s := by
  unfold foldCharter
  split_ifs
  · dsimp only
    rw [verifyCharter_damaged h, if_neg fun hboth => ne_true_of_eq_false hboth.2 h]
  · rfl

end

section
variable {s : State}

/-- R46: the records once a fold has come to the charter. -/
def foldedTrips (s : State) : State :=
  foldTrips (trialMetres s) (trialMl s) s.fold.buf.run s.fold.buf.moving (foldOdo (trialMetres s) s)

/-- R46: the records with a fold taken. -/
def recorded (s : State) : State := foldRecords (trialMetres s) (trialMl s) s.fold.buf.run s.fold.buf.moving s

theorem recorded_eq (s : State) : recorded s = foldCharter (trialMetres s) (trialMl s) s.fold.buf.run s.fold.buf.moving (foldedTrips s) := rfl

theorem afterFold_records : SameRecords (recorded s) (afterFold s) := by
  have hstore : (performFold s).store = (recorded s).store := by simp [performFold, recorded]
  simp [afterFold, SameRecords, hstore]

theorem carried_afterFold {j : Nat} (h : Carried j (recorded s)) : Carried j (afterFold s) := by
  have hdelivered : Carried j (performFold s) := (carried_evaluateFrom h _ _).of_warn (withFold_warn _ _)
  have hbare := hdelivered.of_warn (withFoldBare_warn (performFold s) fun f => { f with waiting := false })
  exact hbare.of_shown (settle_shown s _)

theorem afterFold_notified {n : Notice} (h : Notified n (recorded s)) : Notified n (afterFold s) := by
  have hdelivered : PortsKept (recorded s) (performFold s) :=
    (evaluateFrom_portsKept _ _ (recorded s)).before (withFold_port _ _)
  have hbare := hdelivered.before (withFoldBare_port (performFold s) fun f => { f with waiting := false })
  exact (hbare.trans (settle_portsKept s _)).notified h

theorem foldedTrips_trip (k : TripNo) (hodo : s.store.odo.check = odoCheck s.store.odo) : (foldedTrips s).store.trip k =
    foldedTrip (trialMetres s) (trialMl s) s.fold.buf.run s.fold.buf.moving k (s.store.trip k) := by
  rw [foldedTrips, foldTrips_trip, foldOdo_sealed _ _ hodo]
  cases k <;> rfl

theorem afterFold_trip (k : TripNo) (hodo : s.store.odo.check = odoCheck s.store.odo) : (afterFold s).store.trip k =
    foldedTrip (trialMetres s) (trialMl s) s.fold.buf.run s.fold.buf.moving k (s.store.trip k) := by
  have hcharter (m l r v : Nat) (u : State) : (foldCharter m l r v u).store.trip k = u.store.trip k := by
    have hverify : (verifyCharter u).store.trip k = u.store.trip k := by
      rw [verifyCharter_store]
      cases k <;> rfl
    unfold foldCharter
    dsimp only
    split_ifs
    · rw [← hverify]
      cases k <;> rfl
    · exact hverify
    · rfl
  rw [trip_of_records afterFold_records, recorded_eq, hcharter, foldedTrips_trip k hodo]

theorem foldedTrips_charter (hodo : s.store.odo.check = odoCheck s.store.odo) : (foldedTrips s).store.charter = s.store.charter := by
  rw [foldedTrips, foldTrips_charter, foldOdo_sealed _ _ hodo]

theorem foldedTrips_clock : (foldedTrips s).clock = s.clock := by simp [foldedTrips, foldTrips]

theorem foldedTrips_details (hd : DetailsPresent s.warn.list) : DetailsPresent (foldedTrips s).warn.list :=
  ((foldOdo_safe _ s).trans (foldTrips_safe _ _ _ _ _)).list.details hd

end

/-! ### RESTART -/

section
variable {i : StartInputs} {s : State} (hodo : s.store.odo.check = odoCheck s.store.odo)

theorem handedRecords_trip {u : State} {k : TripNo} (h : (u.store.trip k).body.damaged = true) (b : Bool) :
    k.toNat ∈ handedRecords b u := by
  have hmem (x : Bool) (n : Nat) (hx : x = true) : n ∈ (if x then [n] else []) := by simp [hx]
  unfold handedRecords
  cases k
  · exact List.mem_append_left _ (List.mem_append_left _ (List.mem_append_left _ (List.mem_append_right _ (hmem _ 1 h))))
  · exact List.mem_append_left _ (List.mem_append_left _ (List.mem_append_right _ (hmem _ 2 h)))
  · exact List.mem_append_left _ (List.mem_append_right _ (hmem _ 3 h))

theorem handedRecords_charter {u : State} (h : u.store.charter.body.damaged = true) (b : Bool) : 4 ∈ handedRecords b u := by
  unfold handedRecords
  refine List.mem_append_right _ ?_
  rw [if_pos h]
  exact List.mem_singleton_self 4

/-- R121: a RESTART names in W16 each record that it hands. -/
theorem restart_named {k : Nat} (hk : k < 8) (hmem : ∀ b, k ∈ handedRecords b (checked i (baseMarks i s) (restartBase i s))) :
    Carried k (settleFrom [] (restart i s)) := by
  refine (rebooted_handed i s).carried k ?_
  rw [rebooted, restartBlocks_eq]
  exact handRecords_carried (hmem _) hk ((startItems_safe _).list.details fun e he => nomatch he)

theorem checked_restartRecords : (checked i (baseMarks i s) (restartBase i s)).store = { restartRecords i s with held := ⟨false, false⟩ } :=
  (checked_store _ _ _).trans (marked_restart i s)

include hodo

/-- R77: an ODO that holds its check word is left. -/
theorem restart_odoKept : (verifyOdo (tables (restartBase i s))).store = { s.store with logPos := (restartBase i s).store.logPos } := by
  have hstore := (restartBase_retained i s).store
  have hbase : (restartBase i s).store.odo = s.store.odo := by rw [hstore]
  have hsealed : (tables (restartBase i s)).store.odo.check = odoCheck (tables (restartBase i s)).store.odo := by
    rw [tables_store, hbase]
    exact hodo
  rw [verifyOdo_sealed _ hsealed, tables_store]
  exact hstore

theorem restart_verifiedTrip (k : TripNo) : (verifyAll (tables (restartBase i s))).store.trip k = verifiedTrip k (s.store.trip k) := by
  rw [verifyAll_trip, restart_odoKept hodo]
  cases k <;> rfl

theorem restart_verifiedCharter : (verifyAll (tables (restartBase i s))).store.charter =
    verifiedCharter s.clock.seconds s.store.charter := by
  have hclock : (restartBase i s).clock.seconds = s.clock.seconds := by rw [(restartBase_retained i s).clock]
  rw [verifyAll_store, restart_odoKept hodo, tables_clock, hclock]

/-- R78: a trip that is DAMAGED once verified takes no mark, and W16 names it. -/
theorem restart_damagedTrip (k : TripNo) (h : (verifiedTrip k (s.store.trip k)).body.damaged = true) :
    (settleFrom [] (restart i s)).store.trip k = verifiedTrip k (s.store.trip k)
    ∧ Carried k.toNat (settleFrom [] (restart i s)) := by
  have hverified := restart_verifiedTrip (i := i) hodo k
  have hrecords : (restartRecords i s).trip k = verifiedTrip k (s.store.trip k) := by
    rw [restartRecords, markedStore_damagedTrip _ _ (by rw [hverified]; exact h), hverified]
  refine ⟨(restart_trip i s k).trans hrecords, restart_named (toNat_lt k) fun b => handedRecords_trip ?_ b⟩
  rw [checked_restartRecords]
  have hheld : ({ restartRecords i s with held := ⟨false, false⟩ } : RecordStore).trip k = (restartRecords i s).trip k := by
    cases k <;> rfl
  rw [hheld, hrecords]
  exact h

theorem restart_damagedCharter (h : (verifiedCharter s.clock.seconds s.store.charter).body.damaged = true) :
    (settleFrom [] (restart i s)).store.charter = verifiedCharter s.clock.seconds s.store.charter
    ∧ Carried 4 (settleFrom [] (restart i s)) := by
  have hverified := restart_verifiedCharter (i := i) hodo
  have hrecords : (restartRecords i s).charter = verifiedCharter s.clock.seconds s.store.charter := by
    rw [restartRecords, markedStore_damagedCharter _ _ (by rw [hverified]; exact h), hverified]
  refine ⟨(restart_charter i s).trans hrecords, restart_named (by decide) fun b => handedRecords_charter ?_ b⟩
  rw [checked_restartRecords]
  exact (congrArg (fun c : Charter => c.body.damaged) hrecords).trans h

theorem restart_charterNotified (hbroken : CharterBroken s.store.charter) (hrunning : s.store.charter.phase = .running) :
    Notified .charter (settleFrom [] (restart i s)) := by
  refine Handed.notified (rebooted_handed i s) (checked_of_records ?_)
  have hcharter : (verifyTrip .p (verifyTrip .b (verifyTrip .a (verifyOdo (tables (restartBase i s)))))).store.charter = s.store.charter := by
    rw [verifyTrip_store, setTrip_charter, verifyTrip_store, setTrip_charter, verifyTrip_store, setTrip_charter,
      restart_odoKept hodo]
  exact verifyCharter_notified (by rw [hcharter]; exact hbroken) (by rw [hcharter]; exact hrunning)

end

/-! ### The three occasions -/

theorem recordByte_toNat (k : TripNo) : (BitVec.ofNat 8 k.toNat).toNat = recordNumber k.record := by cases k <;> rfl

theorem readTrip_state (p : Port) (page : Byte) (k : TripNo) (s : State) : readState p (BitVec.ofNat 8 k.toNat) page k.record s =
    verifyTrip k (granted p (.readRecord (BitVec.ofNat 8 k.toNat) page) s) := by cases k <;> rfl

theorem granted_trip (p : Port) (r : Request) (s : State) (k : TripNo) : (granted p r s).store.trip k = s.store.trip k := by
  cases k <;> simp [granted, RecordStore.trip]

theorem afterFold_odo {s : State} (hodo : s.store.odo.check = odoCheck s.store.odo) :
    (afterFold s).store.odo = takeOdo (trialMetres s) s.store.odo := by
  have hcharter (m l r v : Nat) (u : State) : (foldCharter m l r v u).store.odo = u.store.odo := by
    have hverify : (verifyCharter u).store.odo = u.store.odo := by rw [verifyCharter_store]
    unfold foldCharter
    dsimp only
    split_ifs
    · exact hverify
    · exact hverify
    · rfl
  have htrips (m l r v : Nat) (u : State) : (foldTrips m l r v u).store.odo = u.store.odo := by
    simp only [foldTrips, foldTrip_store, setTrip_odo]
  obtain ⟨hsame, -⟩ := afterFold_records (s := s)
  rw [hsame, recorded_eq, hcharter, foldedTrips, htrips, foldOdo_sealed _ _ hodo]

/-- Settles O30. -/
theorem brokenRecordsAreDamaged : Obligations.BrokenRecordsAreDamaged := by
  intro p page i s hdetails raised tripBroken tripFound c charterBroken charterFound
  have htrip {k : TripNo} {t : State} (hbroken : tripBroken k)
      (hstore : t.store.trip k = TripBody.seal k.toNat { (s.store.trip k).body with damaged := true }) (hnamed : Carried k.toNat t) :
      tripFound k t := by
    refine ⟨?_, ?_, hnamed.exists⟩
    · rw [hstore]
      rfl
    · rw [hstore]
      rfl
  have hcharter {t : State} (hstore : t.store.charter = brokenCharter s.clock.seconds c)
      (hnotified : c.phase = .running → Notified .charter t) (hnamed : Carried 4 t) : charterFound t := by
    obtain ⟨hbody, hcheck, hclosed, hkept⟩ := brokenCharter_fields s.clock.seconds c
    refine ⟨by rw [hstore, hbody], by rw [hstore]; exact hcheck, fun hrunning => ?_, fun hnot => ?_, hnamed.exists⟩
    · obtain ⟨hphase, hstamp, hfront, hrear⟩ := hclosed hrunning
      rw [hstore]
      exact ⟨hphase, hstamp, hfront, hrear, hnotified hrunning⟩
    · rw [hstore]
      exact hkept hnot
  refine ⟨fun hfree hpage => ⟨fun k hk => ?readTrip, fun hc => ?readCharter⟩, fun hgranted hodo => ?fold, fun hodo => ?restart⟩
  case readTrip =>
    obtain ⟨hreading, hanswered, -, hrest⟩ := read_reading (s := s) (recordByte_toNat k) hpage hfree
    have hstate := readTrip_state p page k s
    have hgranted := granted_trip p (.readRecord (BitVec.ofNat 8 k.toNat) page) s
    have hothers (o : TripNo) : (settle s (serveReadRecord p (BitVec.ofNat 8 k.toNat) page s)).store.trip o =
        if o = k then verifiedTrip k (s.store.trip k) else s.store.trip o := by
      rw [trip_of_records hreading.records, hstate, verifyTrip_trip, hgranted, hgranted]
    obtain ⟨hodo, -, -, -, hsame, -⟩ := hreading.records
    rw [hstate, verifyTrip_store] at hodo hsame
    refine ⟨_, rfl, fun hbroken => htrip hbroken ?_ ?_, fun hdamaged => ⟨?_, ?_⟩, hanswered, fun o ho => ?_, ?_, ?_, hrest⟩
    · exact (hothers k).trans ((if_pos rfl).trans (verifiedTrip_broken hbroken))
    · refine Carried.of_shown ?_ (read_shown hfree (recordByte_toNat k) hpage)
      rw [hstate]
      exact verifyTrip_named (by rw [hgranted]; exact hbroken) (by rw [granted_warn]; exact hdetails)
    · exact (hothers k).trans ((if_pos rfl).trans (verifiedTrip_damaged hdamaged))
    · refine (read_shown hfree (recordByte_toNat k) hpage).trans ?_
      rw [hstate, verifyTrip_damaged (by rw [hgranted]; exact hdamaged), granted_warn]
    · exact (hothers o).trans (if_neg ho)
    · rw [hsame, setTrip_charter]
      simp [granted, c]
    · rw [hodo, setTrip_odo]
      simp [granted]
  case readCharter =>
    obtain ⟨hreading, hanswered, hnotices, hrest⟩ := read_reading (s := s) (r := .charter) (record := 4) rfl hpage hfree
    have hstate : readState p 4 page .charter s = verifyCharter (granted p (.readRecord 4 page) s) := rfl
    have hgranted : (granted p (.readRecord 4 page) s).store.charter = c := by simp [granted, c]
    have hclock : (granted p (.readRecord 4 page) s).clock.seconds = s.clock.seconds := by simp
    have hstore : (settle s (serveReadRecord p 4 page s)).store.charter = verifiedCharter s.clock.seconds c := by
      obtain ⟨-, -, -, -, hsame, -⟩ := hreading.records
      rw [hsame, hstate, verifyCharter_store, hgranted, hclock]
    have hodo : (settle s (serveReadRecord p 4 page s)).store.odo = s.store.odo := by
      obtain ⟨hsame, -⟩ := hreading.records
      rw [hsame, hstate, verifyCharter_store]
      simp [granted]
    refine ⟨_, rfl, fun hbroken => hcharter ?_ (fun hrunning => hnotices _ ?_) ?_, fun hdamaged => ⟨?_, ?_⟩, hanswered, fun k => ?_,
      hodo, hrest⟩
    · exact hstore.trans (verifiedCharter_broken hbroken)
    · rw [hstate]
      exact verifyCharter_notified (by rw [hgranted]; exact hbroken) (by rw [hgranted]; exact hrunning)
    · refine Carried.of_shown ?_ (read_shown (r := .charter) hfree rfl hpage)
      rw [hstate]
      exact verifyCharter_named (by rw [hgranted]; exact hbroken) (by rw [granted_warn]; exact hdetails)
    · exact hstore.trans (verifiedCharter_damaged hdamaged)
    · refine (read_shown (r := .charter) hfree rfl hpage).trans ?_
      rw [hstate, verifyCharter_damaged (by rw [hgranted]; exact hdamaged), granted_warn]
    · rw [trip_of_records hreading.records, hstate, verifyCharter_store]
      rw [← granted_trip p (.readRecord 4 page) s k]
      cases k <;> rfl
  case fold =>
    have hfoldOdo : (foldOdo (trialMetres s) s).store = { s.store with odo := takeOdo (trialMetres s) s.store.odo } :=
      foldOdo_sealed _ _ hodo
    have hcharterStore := foldedTrips_charter hodo
    refine ⟨afterFold s, exec_fold_granted hgranted, ?_, fun k hbroken => htrip hbroken ?_ ?_, fun hbroken hrunning => ?_,
      fun k hdamaged => ?_, fun hdamaged => ?_⟩
    · rw [afterFold_odo hodo]
      rfl
    · rw [afterFold_trip k hodo, foldedTrip, verifiedTrip_broken hbroken]
      exact if_pos rfl
    · refine carried_afterFold (carried_foldCharter _ _ _ _ (foldTrips_named _ _ _ _ ?_ ((foldOdo_safe _ s).list.details hdetails)))
      rw [hfoldOdo]
      cases k <;> exact hbroken
    · have hfound : CharterBroken (foldedTrips s).store.charter := by
        rw [hcharterStore]
        exact hbroken
      have hphase : (foldedTrips s).store.charter.phase = .running := by
        rw [hcharterStore]
        exact hrunning
      have hrecorded : recorded s = verifyCharter (foldedTrips s) :=
        (recorded_eq s).trans (foldCharter_broken _ _ _ _ hfound hphase)
      refine hcharter ?_ (fun _ => afterFold_notified ?_) (carried_afterFold ?_)
      · obtain ⟨-, -, -, -, hsame, -⟩ := afterFold_records (s := s)
        rw [hsame, hrecorded, verifyCharter_store, hcharterStore, foldedTrips_clock]
        exact verifiedCharter_broken hbroken
      · rw [hrecorded]
        exact verifyCharter_notified hfound (by rw [hcharterStore]; exact hrunning)
      · rw [hrecorded]
        exact verifyCharter_named hfound (foldedTrips_details hdetails)
    · rw [afterFold_trip k hodo, foldedTrip, verifiedTrip_damaged hdamaged]
      exact if_pos hdamaged
    · obtain ⟨-, -, -, -, hsame, -⟩ := afterFold_records (s := s)
      rw [hsame, recorded_eq, foldCharter_damaged _ _ _ _ (by rw [hcharterStore]; exact hdamaged), hcharterStore]
  case restart =>
    refine ⟨_, rfl, fun k hbroken => ?_, fun hbroken => ?_, fun k hdamaged => ?_, fun hdamaged => ?_⟩
    · have hverified := verifiedTrip_broken hbroken
      obtain ⟨hstore, hnamed⟩ := restart_damagedTrip (i := i) hodo k (by rw [hverified]; rfl)
      exact htrip hbroken (hstore.trans hverified) hnamed
    · have hverified := verifiedCharter_broken (now := s.clock.seconds) hbroken
      obtain ⟨hstore, hnamed⟩ := restart_damagedCharter (i := i) hodo (by rw [hverified, (brokenCharter_fields _ _).1])
      exact hcharter (hstore.trans hverified) (restart_charterNotified hodo hbroken) hnamed
    · have hverified := verifiedTrip_damaged (k := k) hdamaged
      obtain ⟨hstore, hnamed⟩ := restart_damagedTrip (i := i) hodo k (by rw [hverified]; exact hdamaged)
      exact ⟨hstore.trans hverified, hnamed.exists⟩
    · have hverified := verifiedCharter_damaged (now := s.clock.seconds) hdamaged
      obtain ⟨hstore, hnamed⟩ := restart_damagedCharter (i := i) hodo (by rw [hverified]; exact hdamaged)
      exact ⟨hstore.trans hverified, hnamed.exists⟩

end Sys2Proof.Proofs.BrokenRecords

/-! PROOFS. The chime mark of a warning on a speaker, and what the choices of the channels make of it (R125, R129, R132). -/

namespace Sys2Proof.Proofs.ChimeMarks

open Sys2Proof Sys2Proof.Machine Sys2Proof.Proofs.Views Sys2Proof.Proofs.Warnings Sys2Proof.Proofs.RaiseOfDefinition
  Sys2Proof.Proofs.NamedRecords Sys2Proof.Proofs.Chimes Sys2Proof.Proofs.Parking Sys2Proof.Proofs.Supervisor

/-! ### The order of the list -/

/-- R105: the order of a list is seen in its service view. -/
theorem listOrdered_view (l : List Entry) : ListOrdered (view .service l) ↔ ListOrdered l := by
  rw [view_service, ListOrdered, List.map_map, List.pairwise_map]
  rfl

theorem listOrdered_of_shown {s t : State} (h : SameShown s t) (hl : ListOrdered s.warn.list) : ListOrdered t.warn.list := by
  rw [← listOrdered_view, h, listOrdered_view]
  exact hl

/-! ### The mark of a definition on a speaker -/

/-- The chime mark of a definition's entry on a speaker. -/
def markOf (w : Fin 24) (sp : Speaker) (s : State) : Option ChimeMark := (findEntry w s.warn.list).bind fun e => e.chime sp

theorem markOf_of_mem {s : State} (hl : ListOrdered s.warn.list) {e : Entry} (he : e ∈ s.warn.list) (sp : Speaker) :
    markOf e.w sp s = e.chime sp := by
  rw [markOf, findEntry_of_mem hl he]
  rfl

theorem exists_of_markOf {w : Fin 24} {sp : Speaker} {s : State} {m : ChimeMark} (h : markOf w sp s = some m) :
    ∃ x ∈ s.warn.list, x.w = w ∧ x.chime sp = some m := by
  obtain ⟨e, hfound, hchime⟩ := Option.bind_eq_some_iff.1 h
  obtain ⟨hmem, hw⟩ := findEntry_some hfound
  exact ⟨e, hmem, hw, hchime⟩

theorem chimeIs_iff {e : Entry} {sp : Speaker} {st : ChimeState} :
    e.chimeIs sp st = true ↔ ∃ m, e.chime sp = some m ∧ m.state = st := by
  unfold Entry.chimeIs
  rcases hchime : e.chime sp with _ | m
  · simp
  · simp

/-- A chime state that an entry of the definition has is the one of its mark. -/
theorem markOf_of_chimeIs {s : State} (hl : ListOrdered s.warn.list) {w : Fin 24} {sp : Speaker} {st : ChimeState}
    (h : ∃ e ∈ s.warn.list, e.w = w ∧ e.chimeIs sp st = true) : ∃ m, markOf w sp s = some m ∧ m.state = st := by
  obtain ⟨e, he, rfl, his⟩ := h
  obtain ⟨m, hm, hst⟩ := chimeIs_iff.1 his
  exact ⟨m, (markOf_of_mem hl he sp).trans hm, hst⟩

theorem chime_setChime (e : Entry) (sp o : Speaker) (m : Option ChimeMark) :
    (e.setChime o m).chime sp = if o = sp then m else e.chime sp := by
  cases o
  · cases sp <;> rfl
  · cases sp <;> rfl

theorem markOf_setChime (w v : Fin 24) (sp o : Speaker) (m : ChimeMark) (s : State) : markOf w sp (setChime v o m s) =
    if v = w ∧ o = sp then (markOf w sp s).map fun _ => m else markOf w sp s := by
  have hlist : (setChime v o m s).warn.list = mapEntry v (fun e => e.setChime o ((e.chime o).map fun _ => m)) s.warn.list := rfl
  have hw (e : Entry) : (e.setChime o ((e.chime o).map fun _ => m)).w = e.w := by cases o <;> rfl
  unfold markOf
  rw [hlist]
  by_cases hv : v = w
  · subst hv
    rw [findEntry_mapEntry v hw]
    rcases findEntry v s.warn.list with _ | e
    · simp
    · by_cases ho : o = sp
      · subst ho
        simp [chime_setChime]
      · simp [chime_setChime, ho]
  · rw [findEntry_map_other (Ne.symm hv) hw, if_neg (by simp [hv])]

theorem markOf_setChime_same {w : Fin 24} {sp : Speaker} {s : State} {m' : ChimeMark} (h : markOf w sp s = some m')
    (m : ChimeMark) : markOf w sp (setChime w sp m s) = some m := by
  rw [markOf_setChime, if_pos ⟨rfl, rfl⟩, h]
  rfl

theorem markOf_setChime_other {w v : Fin 24} {sp o : Speaker} (h : v ≠ w ∨ o ≠ sp) (m : ChimeMark) (s : State) :
    markOf w sp (setChime v o m s) = markOf w sp s := by
  rw [markOf_setChime, if_neg (not_and_or.2 h)]

/-! ### Quiet -/

/-- R132: on an entry's mark quiet acts where it is PENDING on the rear and its class is below 5. -/
theorem chime_quieted {e : Entry} {sp : Speaker} {m : ChimeMark} (h : e.chime sp = some m)
    (hkept : m.state ≠ .pending ∨ sp = .front ∨ 5 ≤ (warnDef e.w).cls) : e.quieted.chime sp = some m := by
  unfold Entry.quieted
  split_ifs with hquiet
  · rw [chime_setChime, if_neg, h]
    rintro rfl
    obtain ⟨m', hm', hpending⟩ := chimeIs_iff.1 hquiet.2
    rw [h] at hm'
    obtain rfl := Option.some.inj hm'
    rcases hkept with hkept | hkept | hkept
    · exact hkept hpending
    · cases hkept
    · omega
  · exact h

theorem findEntry_map {f : Entry → Entry} (hf : ∀ e, (f e).w = e.w) (w : Fin 24) (l : List Entry) :
    findEntry w (l.map f) = (findEntry w l).map f := by
  have hsame : (fun e => e.w == w) ∘ f = fun e => e.w == w := by
    funext e
    show ((f e).w == w) = (e.w == w)
    rw [hf]
  rw [findEntry, List.find?_map, hsame]
  rfl

/-- Quiet spares a definition's mark on a speaker. -/
def Spared (w : Fin 24) (sp : Speaker) (s : State) : Prop := quietOn s sp = false ∨ 5 ≤ (warnDef w).cls

theorem settleQuiet_mark {w : Fin 24} {sp : Speaker} {s : State} {m : ChimeMark} (h : markOf w sp s = some m)
    (hkept : m.state ≠ .pending ∨ Spared w sp s) : markOf w sp (settleQuiet s) = some m := by
  unfold settleQuiet
  split_ifs with hoff
  · exact h
  · obtain ⟨e, hfound, hchime⟩ := Option.bind_eq_some_iff.1 h
    have hmap : findEntry w (s.withList (s.warn.list.map Entry.quieted)).warn.list = some e.quieted := by
      rw [← Option.map_some (f := Entry.quieted), ← hfound]
      exact findEntry_map quieted_w w s.warn.list
    rw [markOf, hmap]
    refine chime_quieted hchime ?_
    rw [(findEntry_some hfound).2]
    rcases hkept with hkept | hkept | hkept
    · exact .inl hkept
    · cases sp with
      | front => exact .inr (.inl rfl)
      | rear => exact absurd ((quietOn_rear s).1 hkept) hoff
    · exact .inr (.inr hkept)

/-! ### Choices -/

theorem markOf_withPlay (w : Fin 24) (sp o : Speaker) (q : Option Play) (s : State) :
    markOf w sp (s.withPlay o q) = markOf w sp s := rfl

/-- R129: a choice takes the mark of its warning to PLAYING on its speaker. -/
theorem takeCandidate_mark {w : Fin 24} {sp : Speaker} {s : State} {m : ChimeMark} (h : markOf w sp s = some m) (cls : Nat)
    (n : Fin 8) : markOf w sp (takeCandidate sp (.warning w cls n) s) = some ⟨.playing, none⟩ :=
  markOf_setChime_same h ⟨.playing, none⟩

/-- R129: a choice leaves every other mark. -/
theorem takeCandidate_mark_other {w : Fin 24} {sp o : Speaker} {c : Candidate}
    (h : o ≠ sp ∨ ∀ cls n, c ≠ .warning w cls n) (s : State) : markOf w sp (takeCandidate o c s) = markOf w sp s := by
  cases c with
  | warning v cls n =>
    exact markOf_setChime_other (h.symm.imp_left fun hc hv => hc cls n (congrArg (Candidate.warning · cls n) hv)) ⟨.playing, none⟩ s
  | queue i cls n => rfl

theorem choose_mark_other {sp o : Speaker} (h : o ≠ sp) (w : Fin 24) (s : State) : markOf w sp (choose o s) = markOf w sp s := by
  unfold choose
  split
  · rfl
  · exact takeCandidate_mark_other (.inl h) s

/-- R129: a choice on its own speaker leaves a mark that is not PENDING. -/
theorem choose_mark {w : Fin 24} {sp : Speaker} {s : State} {m : ChimeMark} (hl : ListOrdered s.warn.list)
    (h : markOf w sp s = some m) :
    markOf w sp (choose sp s) = some m ∨ m.state = .pending ∧ markOf w sp (choose sp s) = some ⟨.playing, none⟩ := by
  unfold choose
  split
  · exact .inl h
  · next c hc =>
    by_cases hw : ∃ cls n, c = .warning w cls n
    · obtain ⟨cls, n, rfl⟩ := hw
      obtain ⟨m', hm', hpending⟩ := markOf_of_chimeIs hl (bestCandidate_warning hc).2.1
      rw [h] at hm'
      obtain rfl := Option.some.inj hm'
      exact .inr ⟨hpending, takeCandidate_mark h cls n⟩
    · rw [takeCandidate_mark_other (.inr fun cls n heq => hw ⟨cls, n, heq⟩)]
      exact .inl h

theorem chooseIfIdle_mark {w : Fin 24} {sp o : Speaker} {s : State} {m : ChimeMark} (hl : ListOrdered s.warn.list)
    (h : markOf w sp s = some m) (hkept : m.state ≠ .pending ∨ (s.chime.speaker sp).play ≠ none) :
    markOf w sp (chooseIfIdle o s) = some m := by
  unfold chooseIfIdle
  split
  · next hidle =>
    by_cases ho : o = sp
    · subst ho
      rcases choose_mark hl h with hsame | ⟨hpending, -⟩
      · exact hsame
      · exact absurd hidle (hkept.resolve_left (not_not.2 hpending))
    · rw [choose_mark_other ho]
      exact h
  · exact h

theorem settleChimes_mark {w : Fin 24} {sp : Speaker} {s : State} {m : ChimeMark} (hl : ListOrdered s.warn.list)
    (h : markOf w sp s = some m) (hkept : m.state ≠ .pending ∨ (s.chime.speaker sp).play ≠ none ∧ Spared w sp s) :
    markOf w sp (settleChimes s) = some m := by
  have hquiet := settleQuiet_mark h (hkept.imp_right And.right)
  have hplay : m.state ≠ .pending ∨ ((settleQuiet s).chime.speaker sp).play ≠ none := by
    rw [settleQuiet_chime]
    exact hkept.imp_right And.left
  have hl' := listOrdered_of_shown (settleQuiet_shown s) hl
  unfold settleChimes chooseBoth
  dsimp only
  split_ifs
  · exact chooseIfIdle_mark (listOrdered_of_shown (chooseIfIdle_shown .front _) hl') (chooseIfIdle_mark hl' hquiet hplay)
      (hplay.imp_right chooseIfIdle_playing)
  · exact hquiet

theorem settle_markOf (w : Fin 24) (sp : Speaker) (a s : State) : markOf w sp (settle a s) = markOf w sp (settleChimes s) := by
  rw [markOf, settle_list, markOf]

/-- What settling leaves of a mark that is not PENDING, and of one on a speaker that plays where quiet spares it. -/
theorem settle_mark {w : Fin 24} {sp : Speaker} {s : State} {m : ChimeMark} (a : State) (hl : ListOrdered s.warn.list)
    (h : markOf w sp s = some m) (hkept : m.state ≠ .pending ∨ (s.chime.speaker sp).play ≠ none ∧ Spared w sp s) :
    markOf w sp (settle a s) = some m :=
  (settle_markOf w sp a s).trans (settleChimes_mark hl h hkept)

/-! ### A warning that waits for its play, or has begun it -/

/-- A definition's mark is PENDING or PLAYING. -/
def Awaited (w : Fin 24) (sp : Speaker) (s : State) : Prop :=
  markOf w sp s = some ⟨.pending, none⟩ ∨ markOf w sp s = some ⟨.playing, none⟩

theorem Awaited.choose {w : Fin 24} {sp : Speaker} {s : State} (h : Awaited w sp s) (hl : ListOrdered s.warn.list)
    (o : Speaker) : Awaited w sp (choose o s) := by
  by_cases ho : o = sp
  · subst ho
    rcases h with h | h
    · exact (choose_mark hl h).imp_right And.right
    · exact (choose_mark hl h).elim .inr fun hplaying => .inr hplaying.2
  · rw [Awaited, choose_mark_other ho]
    exact h

theorem Awaited.chooseIfIdle {w : Fin 24} {sp : Speaker} {s : State} (h : Awaited w sp s) (hl : ListOrdered s.warn.list)
    (o : Speaker) : Awaited w sp (chooseIfIdle o s) := by
  unfold Machine.chooseIfIdle
  split
  · exact h.choose hl o
  · exact h

theorem Awaited.settleQuiet {w : Fin 24} {sp : Speaker} {s : State} (h : Awaited w sp s) (hspared : Spared w sp s) :
    Awaited w sp (settleQuiet s) :=
  h.imp (settleQuiet_mark · (.inr hspared)) (settleQuiet_mark · (.inr hspared))

theorem Awaited.settle {w : Fin 24} {sp : Speaker} {s : State} (a : State) (h : Awaited w sp s) (hl : ListOrdered s.warn.list)
    (hspared : Spared w sp s) : Awaited w sp (settle a s) := by
  have hquiet := h.settleQuiet hspared
  have hl' := listOrdered_of_shown (settleQuiet_shown s) hl
  have hchimes : Awaited w sp (settleChimes s) := by
    unfold settleChimes chooseBoth
    dsimp only
    split_ifs
    · exact (hquiet.chooseIfIdle hl' .front).chooseIfIdle (listOrdered_of_shown (chooseIfIdle_shown .front _) hl') .rear
    · exact hquiet
  rw [Awaited, settle_markOf]
  exact hchimes

end Sys2Proof.Proofs.ChimeMarks

/-! PROOFS. The plays that the channels begin, and the channels that stay IDLE (R129). -/

namespace Sys2Proof.Proofs.ChannelChoices

open Sys2Proof Sys2Proof.Machine Sys2Proof.Proofs.Views Sys2Proof.Proofs.Chimes Sys2Proof.Proofs.Parking
  Sys2Proof.Proofs.Supervisor Sys2Proof.Proofs.ChimeMarks

/-! ### The play that a choice begins -/

/-- R129: the play of a candidate at its first step. -/
def playOf (c : Candidate) : Play :=
  match c with
  | .warning w cls n => ⟨.warning w, cls, n, 0, stepMicros n 0⟩
  | .queue _ cls n => ⟨.queue, cls, n, 0, stepMicros n 0⟩

theorem takeCandidate_play (sp : Speaker) (c : Candidate) (s : State) :
    ((takeCandidate sp c s).chime.speaker sp).play = some (playOf c) := by
  cases c with
  | warning w cls n =>
    refine (withPlay_play sp sp _ _).trans (if_pos rfl)
  | queue i cls n =>
    refine (withPlay_play sp sp _ _).trans (if_pos rfl)

/-- A speaker plays nothing, or a play at its first step. -/
def Fresh (sp : Speaker) (s : State) : Prop :=
  ∀ x, (s.chime.speaker sp).play = some x → x.step = 0 ∧ x.left = stepMicros x.pattern 0

theorem choose_fresh (sp : Speaker) (s : State) : Fresh sp (choose sp s) := by
  intro x hx
  unfold choose at hx
  split at hx
  · rw [withPlay_play, if_pos rfl] at hx
    cases hx
  · next c _ =>
    rw [takeCandidate_play] at hx
    obtain rfl := Option.some.inj hx
    cases c <;> exact ⟨rfl, rfl⟩

theorem choose_other {sp o : Speaker} (h : o ≠ sp) (s : State) : (choose sp s).chime.speaker o = s.chime.speaker o := by
  unfold choose
  split
  · exact speaker_setSpeaker_other h _ _
  · exact takeCandidate_other h _ s

theorem chooseIfIdle_play {sp o : Speaker} {s : State} {q : Play} (h : (s.chime.speaker o).play = some q) :
    ((chooseIfIdle sp s).chime.speaker o).play = some q := by
  unfold chooseIfIdle
  split
  · next hidle =>
    rw [choose_other, h]
    rintro rfl
    rw [h] at hidle
    cases hidle
  · exact h

theorem chooseIfIdle_fresh {sp : Speaker} {s : State} (h : Fresh sp s) (o : Speaker) : Fresh sp (chooseIfIdle o s) := by
  unfold chooseIfIdle
  split
  · by_cases ho : sp = o
    · subst ho
      exact choose_fresh sp s
    · intro x hx
      rw [choose_other ho] at hx
      exact h x hx
  · exact h

theorem settle_play {sp : Speaker} {s : State} {q : Play} (a : State) (h : (s.chime.speaker sp).play = some q) :
    ((settle a s).chime.speaker sp).play = some q := by
  have hquiet : ((settleQuiet s).chime.speaker sp).play = some q := by
    rw [settleQuiet_chime]
    exact h
  rw [settle_chime_eq]
  unfold settleChimes chooseBoth
  dsimp only
  split_ifs
  · exact chooseIfIdle_play (chooseIfIdle_play hquiet)
  · exact hquiet

theorem settle_fresh {sp : Speaker} {s : State} (a : State) (h : Fresh sp s) : Fresh sp (settle a s) := by
  have hquiet : Fresh sp (settleQuiet s) := by
    rw [Fresh, settleQuiet_chime]
    exact h
  rw [Fresh, settle_chime_eq]
  unfold settleChimes chooseBoth
  dsimp only
  split_ifs
  · exact chooseIfIdle_fresh (chooseIfIdle_fresh hquiet .front) .rear
  · exact hquiet

/-! ### A channel with no candidate -/

theorem bestOf_none {l : List Candidate} : bestOf l = none ↔ l = [] := by
  cases l with
  | nil => exact iff_of_true rfl rfl
  | cons c cs =>
    refine iff_of_false (fun h => ?_) (List.cons_ne_nil c cs)
    unfold bestOf at h
    split at h
    · cases h
    · split_ifs at h

/-- R129: no candidate counts when quiet keeps each of them off. -/
theorem bestCandidate_none {s : State} {sp : Speaker} : bestCandidate s sp = none ↔
    ∀ c ∈ warnCandidates s sp ++ queueCandidate s sp, quietOn s sp = true ∧ c.cls < 5 := by
  rw [bestCandidate, bestOf_none, List.filter_eq_nil_iff]
  refine forall₂_congr fun c _ => ?_
  rcases quietOn s sp <;> simp

theorem mem_warnCandidates_iff {s : State} {sp : Speaker} {c : Candidate} : c ∈ warnCandidates s sp ↔
    ∃ e ∈ s.warn.list, e.chimeIs sp .pending = true ∧ ∃ n, (warnDef e.w).pattern = some n ∧ c = .warning e.w (warnDef e.w).cls n := by
  refine ⟨mem_warnCandidates, ?_⟩
  rintro ⟨e, he, hpending, n, hn, rfl⟩
  refine List.mem_filterMap.2 ⟨e, List.mem_filter.2 ⟨he, hpending⟩, ?_⟩
  rw [hn]
  rfl

/-- Nothing counts on a speaker after a change of entries that makes none of them PENDING there. -/
theorem bestCandidate_none_map {s t : State} {sp : Speaker} (h : bestCandidate s sp = none) {f : Entry → Entry}
    (hlist : t.warn.list = s.warn.list.map f)
    (hf : ∀ e, (f e).w = e.w ∧ ((f e).chimeIs sp .pending = true → e.chimeIs sp .pending = true))
    (hqueue : (t.chime.speaker sp).queue = (s.chime.speaker sp).queue) (hquiet : t.chime.quiet = s.chime.quiet) :
    bestCandidate t sp = none := by
  have hqueued : queueCandidate t sp = queueCandidate s sp := by
    unfold queueCandidate
    rw [hqueue]
  have hon : quietOn t sp = quietOn s sp := by
    unfold quietOn
    rw [hquiet]
  rw [bestCandidate_none] at h ⊢
  intro c hc
  rw [hon]
  refine h c ?_
  rw [hqueued] at hc
  refine List.mem_append.2 ((List.mem_append.1 hc).imp_left fun hw => ?_)
  obtain ⟨x, hx, hpending, n, hn, rfl⟩ := mem_warnCandidates hw
  rw [hlist] at hx
  obtain ⟨e, he, rfl⟩ := List.mem_map.1 hx
  obtain ⟨hsame, hback⟩ := hf e
  rw [hsame] at hn ⊢
  exact mem_warnCandidates_iff.2 ⟨e, he, hback hpending, n, hn, rfl⟩

theorem bestCandidate_none_same {s t : State} {sp : Speaker} (h : bestCandidate s sp = none) (hlist : t.warn.list = s.warn.list)
    (hqueue : (t.chime.speaker sp).queue = (s.chime.speaker sp).queue) (hquiet : t.chime.quiet = s.chime.quiet) :
    bestCandidate t sp = none :=
  bestCandidate_none_map (f := id) h (hlist.trans (List.map_id _).symm) (fun _ => ⟨rfl, id⟩) hqueue hquiet

/-- A speaker plays nothing and has no candidate that counts. -/
structure Silent (sp : Speaker) (s : State) : Prop where
  idle : (s.chime.speaker sp).play = none
  alone : bestCandidate s sp = none

theorem quieted_pending {e : Entry} {sp : Speaker} (h : e.quieted.chimeIs sp .pending = true) : e.chimeIs sp .pending = true := by
  unfold Entry.quieted at h
  split_ifs at h with hquiet
  · obtain ⟨m, hm, hpending⟩ := chimeIs_iff.1 h
    rw [chime_setChime] at hm
    split_ifs at hm
    · obtain rfl := Option.some.inj hm
      cases hpending
    · exact chimeIs_iff.2 ⟨m, hm, hpending⟩
  · exact h

theorem Silent.settleQuiet {sp : Speaker} {s : State} (h : Silent sp s) : Silent sp (settleQuiet s) := by
  unfold Machine.settleQuiet
  split_ifs
  · exact h
  · exact ⟨h.idle, bestCandidate_none_map h.alone rfl (fun e => ⟨quieted_w e, quieted_pending⟩) rfl rfl⟩

/-- The other channel's choice leaves a speaker with nothing to play. -/
theorem Silent.chooseOther {sp o : Speaker} {s : State} (h : Silent sp s) (ho : o ≠ sp) : Silent sp (choose o s) := by
  have hspeaker := choose_other ho.symm s
  refine ⟨(congrArg SpeakerState.play hspeaker).trans h.idle, ?_⟩
  have hquiet := (choose_sameQueues o s).quiet
  have hqueue := congrArg SpeakerState.queue hspeaker
  revert hqueue hquiet
  unfold choose
  split
  · intro hquiet hqueue
    exact bestCandidate_none_same h.alone rfl hqueue hquiet
  · next c _ =>
    intro hquiet hqueue
    cases c with
    | warning w cls n =>
      refine bestCandidate_none_map h.alone (f := fun e => if e.w = w then e.setChime o ((e.chime o).map fun _ => ⟨.playing, none⟩)
        else e) rfl (fun e => ?_) hqueue hquiet
      split_ifs
      · refine ⟨by cases o <;> rfl, fun hpending => ?_⟩
        obtain ⟨m, hm, hst⟩ := chimeIs_iff.1 hpending
        rw [chime_setChime, if_neg ho] at hm
        exact chimeIs_iff.2 ⟨m, hm, hst⟩
      · exact ⟨rfl, id⟩
    | queue i cls n =>
      exact bestCandidate_none_same h.alone rfl hqueue hquiet

theorem Silent.chooseIfIdle {sp : Speaker} {s : State} (h : Silent sp s) (o : Speaker) : Silent sp (chooseIfIdle o s) := by
  unfold Machine.chooseIfIdle
  split
  · by_cases ho : o = sp
    · subst ho
      have hnone : choose o s = s.withPlay o none := by rw [choose, h.alone]
      rw [hnone]
      exact ⟨(withPlay_play o o none s).trans (if_pos rfl),
        bestCandidate_none_same h.alone rfl (withPlay_queue o o none s) (withPlay_sameQueues o none s).quiet⟩
    · exact h.chooseOther ho
  · exact h

theorem Silent.settle {sp : Speaker} {s : State} (a : State) (h : Silent sp s) :
    ((settle a s).chime.speaker sp).play = none := by
  rw [settle_chime_eq]
  unfold settleChimes chooseBoth
  dsimp only
  split_ifs
  · exact ((h.settleQuiet.chooseIfIdle .front).chooseIfIdle .rear).idle
  · exact h.settleQuiet.idle

end Sys2Proof.Proofs.ChannelChoices

/-! PROOFS. The note boundary in its four cases, and the end of a repeat timer (R123, R125, R129 to R132). -/

namespace Sys2Proof.Proofs.NoteBoundaries

open Sys2Proof Sys2Proof.Machine Sys2Proof.Proofs.StepInvariants Sys2Proof.Proofs.Grants Sys2Proof.Proofs.Views
  Sys2Proof.Proofs.Warnings Sys2Proof.Proofs.Chimes Sys2Proof.Proofs.Parking Sys2Proof.Proofs.SecondEnds
  Sys2Proof.Proofs.Supervisor Sys2Proof.Proofs.ChimeMarks Sys2Proof.Proofs.ChannelChoices

/-! ### The cases of a note boundary (R130) -/

/-- The play has a step after this one. -/
abbrev HasMore (q : Play) : Prop := q.step + 1 < (passSteps q.pattern).length

theorem boundary_unwanted {sp : Speaker} {q : Play} {s : State} (h : wanted s sp q = false) :
    boundary sp q s = choose sp (quietAtBoundary sp (s.withPlay sp none)) := if_pos h

theorem boundary_pass {sp : Speaker} {q : Play} {s : State} (h : wanted s sp q = true) (hmore : ¬ HasMore q) :
    boundary sp q s = choose sp (settleQuiet ((passEnd sp q s).withPlay sp none)) :=
  (if_neg (by simp [h])).trans (if_pos (Nat.not_lt.1 hmore))

theorem boundary_step {sp : Speaker} {q : Play} {s : State} (h : wanted s sp q = true) (hmore : HasMore q)
    (hbest : ∀ c, bestCandidate s sp = some c → c.cls ≤ q.cls) :
    boundary sp q s = s.withPlay sp (some { q with step := q.step + 1, left := stepMicros q.pattern (q.step + 1) }) := by
  refine (if_neg (by simp [h])).trans ((if_neg (Nat.not_le.2 hmore)).trans ?_)
  rcases hc : bestCandidate s sp with _ | c
  · rfl
  · exact if_neg (Nat.not_lt.2 (hbest c hc))

theorem boundary_preempt {sp : Speaker} {q : Play} {s : State} {c : Candidate} (h : wanted s sp q = true) (hmore : HasMore q)
    (hbest : bestCandidate s sp = some c) (hcls : q.cls < c.cls) :
    boundary sp q s = takeCandidate sp c (giveBack sp q s) := by
  refine (if_neg (by simp [h])).trans ((if_neg (Nat.not_le.2 hmore)).trans ?_)
  rw [hbest]
  exact if_pos hcls

/-! ### What a note boundary leaves -/

theorem passEnd_shown (sp : Speaker) (q : Play) (s : State) : SameShown s (passEnd sp q s) := by
  unfold passEnd
  split
  · split
    · rfl
    · exact setChime_shown _ _ _ s
  · exact .of_warn (queuePassEnd_warn sp s)

theorem boundary_shown (sp : Speaker) (q : Play) (s : State) : SameShown s (boundary sp q s) := by
  have hplay (o : Option Play) (u : State) : SameShown u (u.withPlay sp o) := rfl
  unfold boundary
  split_ifs
  · exact (choose_shown sp _).trans (SameShown.of_warn (quietAtBoundary_warn sp _))
  · exact (choose_shown sp _).trans ((settleQuiet_shown _).trans ((hplay none _).trans (passEnd_shown sp q s)))
  · split
    · exact hplay _ s
    · exact .ite ((takeCandidate_shown sp _ _).trans (giveBack_shown sp q s)) (hplay _ s)

theorem boundary_figures (sp : Speaker) (q : Play) (s : State) : SameFigures s (boundary sp q s) := by
  simp [SameFigures, SameRecords]

/-- R132: at the rear QUIETING becomes ON. -/
theorem quietAtBoundary_quiet (sp : Speaker) (s : State) : (quietAtBoundary sp s).chime.quiet =
    if sp = .rear ∧ s.chime.quiet = .quieting then .on else s.chime.quiet := by
  unfold quietAtBoundary
  split_ifs <;> rfl

theorem queuePassEnd_quiet (sp : Speaker) (s : State) : (queuePassEnd sp s).chime.quiet = s.chime.quiet := by
  have hqueue (q : List QueueEntry) : (s.withQueue sp q).chime.quiet = s.chime.quiet := by cases sp <;> rfl
  unfold queuePassEnd
  dsimp only
  split
  · rfl
  · split_ifs
    · exact hqueue _
    · rw [chimeDone_chime]
      exact hqueue _

theorem passEnd_quiet (sp : Speaker) (q : Play) (s : State) : (passEnd sp q s).chime.quiet = s.chime.quiet := by
  unfold passEnd
  split
  · split <;> rfl
  · exact queuePassEnd_quiet sp s

/-- R132: quiet changes at a note boundary only where QUIETING becomes ON. -/
theorem boundary_quiet (sp : Speaker) (q : Play) (s : State) : (boundary sp q s).chime.quiet =
    if wanted s sp q = false ∧ sp = .rear ∧ s.chime.quiet = .quieting then .on else s.chime.quiet := by
  have hplay (o : Option Play) (u : State) : (u.withPlay sp o).chime.quiet = u.chime.quiet :=
    (withPlay_sameQueues sp o u).quiet
  by_cases hwanted : wanted s sp q = false
  · rw [boundary_unwanted hwanted, (choose_sameQueues sp _).quiet, quietAtBoundary_quiet, hplay]
    simp [hwanted]
  · rw [if_neg fun h => hwanted h.1]
    unfold boundary
    rw [if_neg hwanted]
    split_ifs
    · rw [(choose_sameQueues sp _).quiet, settleQuiet_chime, hplay, passEnd_quiet]
    · split
      · exact hplay _ s
      · split_ifs
        · rw [(takeCandidate_sameQueues sp _ _).quiet, (giveBack_sameQueues sp q s).quiet]
        · exact hplay _ s

/-- R129: where the play breaks off or has ended, what comes after it begins with its first step. -/
theorem boundary_fresh {sp : Speaker} {q : Play} {s : State} (h : ¬ (wanted s sp q = true ∧ HasMore q)) :
    Fresh sp (boundary sp q s) := by
  by_cases hwanted : wanted s sp q = true
  · rw [boundary_pass hwanted fun hmore => h ⟨hwanted, hmore⟩]
    exact choose_fresh sp _
  · rw [boundary_unwanted (Bool.eq_false_iff.2 hwanted)]
    exact choose_fresh sp _

/-! ### The mark of the warning that plays -/

/-- R124: a wanted play of a warning has the PLAYING mark of its definition. -/
theorem wanted_mark {sp : Speaker} {q : Play} {s : State} {w : Fin 24} (hl : ListOrdered s.warn.list)
    (h : wanted s sp q = true) (hq : q.source = .warning w) : ∃ m, markOf w sp s = some m ∧ m.state = .playing := by
  refine markOf_of_chimeIs hl ?_
  unfold wanted at h
  rw [hq] at h
  simpa using h

theorem spared_congr {w : Fin 24} {sp : Speaker} {s t : State} (h : t.chime.quiet = s.chime.quiet) (hs : Spared w sp s) :
    Spared w sp t := by
  unfold Spared quietOn
  rw [h]
  exact hs

/-- R130: a play that is broken off leaves its warning PENDING. -/
theorem giveBack_pending {sp : Speaker} {q : Play} {s : State} {w : Fin 24} (hq : q.source = .warning w) {m : ChimeMark}
    (h : markOf w sp s = some m) : markOf w sp (giveBack sp q s) = some ⟨.pending, none⟩ := by
  unfold giveBack
  rw [hq]
  exact markOf_setChime_same h ⟨.pending, none⟩

theorem giveBack_marked {sp : Speaker} {w : Fin 24} {s : State} {m : ChimeMark} (q : Play) (h : markOf w sp s = some m) :
    ∃ m', markOf w sp (giveBack sp q s) = some m' := by
  unfold giveBack
  split
  · next v _ =>
    by_cases hv : v = w
    · subst hv
      exact ⟨_, markOf_setChime_same h ⟨.pending, none⟩⟩
    · exact ⟨m, (markOf_setChime_other (.inl hv) ⟨.pending, none⟩ s).trans h⟩
  · exact ⟨m, h⟩

/-! ### Pre-emption (R130) -/

section
variable {sp : Speaker} {q : Play} {s : State} {c : Candidate}

/-- R130: the pre-empting warning is PLAYING. -/
theorem preempt_playing (hl : ListOrdered s.warn.list) {w : Fin 24} {cls : Nat} {n : Fin 8}
    (hbest : bestCandidate s sp = some (.warning w cls n)) :
    markOf w sp (settle s (takeCandidate sp (.warning w cls n) (giveBack sp q s))) = some ⟨.playing, none⟩ := by
  obtain ⟨m, hm, -⟩ := markOf_of_chimeIs hl (bestCandidate_warning hbest).2.1
  obtain ⟨m', hm'⟩ := giveBack_marked q hm
  have hl' := listOrdered_of_shown ((takeCandidate_shown sp (.warning w cls n) _).trans (giveBack_shown sp q s)) hl
  exact settle_mark s hl' (takeCandidate_mark hm' cls n) (.inl (by simp))

/-- R130: the warning whose play was broken off is PENDING where quiet spares it. -/
theorem preempt_pending (hl : ListOrdered s.warn.list) (hwanted : wanted s sp q = true) {w : Fin 24}
    (hq : q.source = .warning w) (hbest : bestCandidate s sp = some c) (hspared : Spared w sp s) :
    markOf w sp (settle s (takeCandidate sp c (giveBack sp q s))) = some ⟨.pending, none⟩ := by
  obtain ⟨m, hm, hplaying⟩ := wanted_mark hl hwanted hq
  have hother (cls n) : c ≠ .warning w cls n := by
    rintro rfl
    obtain ⟨m', hm', hpending⟩ := markOf_of_chimeIs hl (bestCandidate_warning hbest).2.1
    rw [hm] at hm'
    obtain rfl := Option.some.inj hm'
    rw [hplaying] at hpending
    cases hpending
  have hl' := listOrdered_of_shown ((takeCandidate_shown sp c _).trans (giveBack_shown sp q s)) hl
  have hquiet := ((giveBack_sameQueues sp q s).trans (takeCandidate_sameQueues sp c _)).quiet
  refine settle_mark s hl' ((takeCandidate_mark_other (.inr hother) _).trans (giveBack_pending hq hm)) (.inr ⟨?_, ?_⟩)
  · rw [takeCandidate_play]
    exact Option.some_ne_none _
  · exact spared_congr hquiet hspared

end

/-! ### The pass end of a warning (R125) -/

section
variable {sp : Speaker} {q : Play} {s : State} {w : Fin 24} {e : Entry}

theorem passEnd_warning (hq : q.source = .warning w) (hfound : findEntry w s.warn.list = some e) :
    passEnd sp q s = setChime w sp (passEndMark e) s := by
  unfold passEnd
  rw [hq]
  dsimp only
  rw [hfound]

theorem passEnd_mark (hl : ListOrdered s.warn.list) (hwanted : wanted s sp q = true) (hq : q.source = .warning w)
    (hfound : findEntry w s.warn.list = some e) : markOf w sp ((passEnd sp q s).withPlay sp none) = some (passEndMark e) := by
  obtain ⟨m, hm, -⟩ := wanted_mark hl hwanted hq
  rw [markOf_withPlay, passEnd_warning hq hfound]
  exact markOf_setChime_same hm (passEndMark e)

/-- The list stays ordered through the pass end and what quiet does after it. -/
theorem passEnd_ordered (hl : ListOrdered s.warn.list) : ListOrdered ((passEnd sp q s).withPlay sp none).warn.list :=
  listOrdered_of_shown (passEnd_shown sp q s) hl

theorem settleQuiet_ordered {u : State} (hl : ListOrdered u.warn.list) : ListOrdered (settleQuiet u).warn.list :=
  listOrdered_of_shown (settleQuiet_shown u) hl

/-- R125: what the pass end made of the warning stands, unless it is PENDING again. -/
theorem pass_mark (hl : ListOrdered s.warn.list) (hwanted : wanted s sp q = true) (hmore : ¬ HasMore q)
    (hq : q.source = .warning w) (hfound : findEntry w s.warn.list = some e) (hend : (passEndMark e).state ≠ .pending) :
    markOf w sp (settle s (boundary sp q s)) = some (passEndMark e) := by
  have hl' := settleQuiet_ordered (passEnd_ordered (sp := sp) (q := q) hl)
  have hmark := settleQuiet_mark (passEnd_mark hl hwanted hq hfound) (.inl hend)
  have hchosen := (choose_mark hl' hmark).resolve_right fun h => hend h.1
  rw [boundary_pass hwanted hmore]
  exact settle_mark s (listOrdered_of_shown (choose_shown sp _) hl') hchosen (.inl hend)

/-- R125: a warning that is PENDING again waits for its play, or has begun it. -/
theorem pass_awaited (hl : ListOrdered s.warn.list) (hwanted : wanted s sp q = true) (hmore : ¬ HasMore q)
    (hq : q.source = .warning w) (hfound : findEntry w s.warn.list = some e) (hend : passEndMark e = ⟨.pending, none⟩)
    (hspared : Spared w sp s) : Awaited w sp (settle s (boundary sp q s)) := by
  have hmark := passEnd_mark hl hwanted hq hfound
  rw [hend] at hmark
  have hl' := settleQuiet_ordered (passEnd_ordered (sp := sp) (q := q) hl)
  have hpassed : ((passEnd sp q s).withPlay sp none).chime.quiet = s.chime.quiet :=
    (withPlay_sameQueues sp none _).quiet.trans (passEnd_quiet sp q s)
  have hquieted := Awaited.settleQuiet (.inl hmark) (spared_congr hpassed hspared)
  rw [boundary_pass hwanted hmore]
  refine (hquieted.choose hl' sp).settle s (listOrdered_of_shown (choose_shown sp _) hl') (spared_congr ?_ hspared)
  rw [(choose_sameQueues sp _).quiet, settleQuiet_chime, hpassed]

end

theorem passEndMark_cleared {e : Entry} (h : e.cleared = true) : passEndMark e = ⟨.done, none⟩ := if_pos h

theorem passEndMark_continuous {e : Entry} (h : e.cleared = false) (hc : (warnDef e.w).continuous = true)
    (hacked : fullyAcked e = false) : passEndMark e = ⟨.pending, none⟩ := by
  simp [passEndMark, h, hc, hacked]

theorem passEndMark_again {e : Entry} {secs : Nat} (h : e.cleared = false) (hc : (warnDef e.w).continuous = false)
    (hagain : (warnDef e.w).again = some secs) : passEndMark e = ⟨.resting, some (secs * 1000000)⟩ := by
  simp [passEndMark, h, hc, hagain]

theorem passEndMark_once {e : Entry} (h : e.cleared = false) (hc : (warnDef e.w).continuous = false)
    (hagain : (warnDef e.w).again = none) : passEndMark e = ⟨.done, none⟩ := by
  simp [passEndMark, h, hc, hagain]

/-! ### The pass end of a queue entry (R131) -/

section
variable {sp : Speaker} {q : Play} {s : State} {e : QueueEntry}

/-- The queue without the entry that played. -/
def restOf (q : List QueueEntry) : List QueueEntry := q.filter fun x => !x.playing

theorem queuePassEnd_eq (h : (s.chime.speaker sp).queue.filter QueueEntry.playing = [e]) : queuePassEnd sp s =
    if (restOf (s.chime.speaker sp).queue).any fun x => x.requester == e.requester then
      s.withQueue sp (restOf (s.chime.speaker sp).queue)
    else chimeDone e.requester (s.withQueue sp (restOf (s.chime.speaker sp).queue)) := by
  have hfind : (s.chime.speaker sp).queue.find? QueueEntry.playing = some e := by
    rw [← List.head?_filter, h]
    rfl
  unfold queuePassEnd
  dsimp only
  rw [hfind]
  rfl

theorem boundary_queue (hwanted : wanted s sp q = true) (hmore : ¬ HasMore q) (hq : q.source = .queue) :
    boundary sp q s = choose sp (settleQuiet ((queuePassEnd sp s).withPlay sp none)) := by
  rw [boundary_pass hwanted hmore]
  unfold passEnd
  rw [hq]

theorem queuePassEnd_keys (h : (s.chime.speaker sp).queue.filter QueueEntry.playing = [e]) :
    queueKeys (queuePassEnd sp s) sp = (restOf (s.chime.speaker sp).queue).map QueueEntry.key := by
  have hkeys : queueKeys (s.withQueue sp (restOf (s.chime.speaker sp).queue)) sp
      = (restOf (s.chime.speaker sp).queue).map QueueEntry.key := (queueKeys_withQueue sp sp _ s).trans (if_pos rfl)
  rw [queuePassEnd_eq h]
  split_ifs
  · exact hkeys
  · rw [queueKeys, chimeDone_chime]
    exact hkeys

theorem queue_keys (hwanted : wanted s sp q = true) (hmore : ¬ HasMore q) (hq : q.source = .queue)
    (h : (s.chime.speaker sp).queue.filter QueueEntry.playing = [e]) :
    queueKeys (settle s (boundary sp q s)) sp = (restOf (s.chime.speaker sp).queue).map QueueEntry.key := by
  have hsame : SameQueues (queuePassEnd sp s) (settle s (boundary sp q s)) := by
    rw [boundary_queue hwanted hmore hq]
    exact (withPlay_sameQueues sp none _).trans
      ((settleQuiet_sameQueues _).trans ((choose_sameQueues sp _).trans (settle_sameQueues s _)))
  rw [hsame.keys, queuePassEnd_keys h]

/-- R131: CHIME DONE is set for a requester that has no further entry. -/
theorem queue_notified (hwanted : wanted s sp q = true) (hmore : ¬ HasMore q) (hq : q.source = .queue)
    (h : (s.chime.speaker sp).queue.filter QueueEntry.playing = [e])
    (hlast : ∀ x ∈ (s.chime.speaker sp).queue, x.playing = false → x.requester ≠ e.requester) :
    PortsKept (chimeDone e.requester (s.withQueue sp (restOf (s.chime.speaker sp).queue))) (settle s (boundary sp q s)) := by
  have hnone : ¬ ((restOf (s.chime.speaker sp).queue).any fun x => x.requester == e.requester) = true := by
    intro hany
    obtain ⟨x, hx, hsame⟩ := List.any_eq_true.1 hany
    obtain ⟨hmem, hidle⟩ := List.mem_filter.1 hx
    exact hlast x hmem (by simpa using hidle) (eq_of_beq hsame)
  have hport : (choose sp (settleQuiet ((queuePassEnd sp s).withPlay sp none))).port = (queuePassEnd sp s).port := by simp
  rw [boundary_queue hwanted hmore hq]
  refine PortsKept.trans (.of_port ?_) (settle_portsKept s _)
  rw [hport, queuePassEnd_eq h, if_neg hnone]

end

theorem chimeDone_set (s : State) :
    (chimeDone .front s).port.front.notices &&& Notice.chimeDone.bit = Notice.chimeDone.bit
      ∧ (chimeDone .rear s).port.rear.notices &&& Notice.chimeDone.bit = Notice.chimeDone.bit :=
  ⟨bit_or_self _ _, bit_or_self _ _⟩

/-! ### A play that is no longer wanted (R130, R132) -/

section
variable {sp : Speaker} {q : Play} {s : State}

theorem quietAtBoundary_speaker (sp o : Speaker) (s : State) : (quietAtBoundary sp s).chime.speaker o = s.chime.speaker o := by
  unfold quietAtBoundary
  split_ifs
  · cases o <;> rfl
  · rfl

theorem unwanted_keys (h : wanted s sp q = false) : queueKeys (settle s (boundary sp q s)) sp = queueKeys s sp := by
  rw [(settle_sameQueues s _).keys, boundary_unwanted h, (choose_sameQueues sp _).keys, queueKeys, quietAtBoundary_speaker]
  exact (withPlay_sameQueues sp none s).keys sp

/-- R132: quiet stands at the choice of an unwanted play's end as it stood before. -/
theorem quietAtBoundary_quietOn (sp : Speaker) (s : State) : quietOn (quietAtBoundary sp s) sp = quietOn s sp := by
  unfold quietOn
  rw [quietAtBoundary_quiet]
  split_ifs with h
  · rw [h.2]
    rfl
  · rfl

theorem unwanted_idle (h : wanted s sp q = false) (hbest : bestCandidate s sp = none) :
    ((settle s (boundary sp q s)).chime.speaker sp).play = none := by
  rw [boundary_unwanted h]
  have hidle : ((quietAtBoundary sp (s.withPlay sp none)).chime.speaker sp).play = none := by
    rw [quietAtBoundary_speaker, withPlay_play, if_pos rfl]
  have hnone : bestCandidate (quietAtBoundary sp (s.withPlay sp none)) sp = none := by
    have hplay := bestCandidate_none_same (t := s.withPlay sp none) hbest rfl (withPlay_queue sp sp none s)
      (withPlay_sameQueues sp none s).quiet
    have hqueued : queueCandidate (quietAtBoundary sp (s.withPlay sp none)) sp = queueCandidate (s.withPlay sp none) sp := by
      rw [queueCandidate, quietAtBoundary_speaker, queueCandidate]
    have hwarned : warnCandidates (quietAtBoundary sp (s.withPlay sp none)) sp = warnCandidates (s.withPlay sp none) sp := by
      rw [warnCandidates, quietAtBoundary_warn, warnCandidates]
    rw [bestCandidate, hqueued, hwarned, quietAtBoundary_quietOn]
    exact hplay
  have hchoice : choose sp (quietAtBoundary sp (s.withPlay sp none))
      = chooseIfIdle sp (quietAtBoundary sp (s.withPlay sp none)) := by
    rw [chooseIfIdle, hidle]
  rw [hchoice]
  exact Silent.settle s ((Silent.mk hidle hnone).chooseIfIdle sp)

end

/-! ### The end of a repeat timer (R125) -/

section
variable {w : Fin 24} {sp : Speaker} {s : State}

theorem repeatEnd_shown (w : Fin 24) (sp : Speaker) (s : State) : SameShown s (repeatEnd w sp s) := by
  unfold repeatEnd
  split
  · rfl
  · exact .ite (setChime_shown w sp _ s) rfl

/-- A repeat timer's end changes the list only. -/
theorem repeatEnd_list (w : Fin 24) (sp : Speaker) (s : State) : ∃ l, repeatEnd w sp s = s.withList l := by
  unfold repeatEnd
  split
  · exact ⟨s.warn.list, rfl⟩
  · split_ifs
    · exact ⟨_, rfl⟩
    · exact ⟨s.warn.list, rfl⟩

theorem repeatEnd_figures (w : Fin 24) (sp : Speaker) (s : State) : SameFigures s (repeatEnd w sp s) := by
  obtain ⟨l, hl⟩ := repeatEnd_list w sp s
  rw [hl]
  exact sameFigures_rfl s

theorem repeatEnd_chime (w : Fin 24) (sp : Speaker) (s : State) : (repeatEnd w sp s).chime = s.chime := by
  obtain ⟨l, hl⟩ := repeatEnd_list w sp s
  rw [hl]
  rfl

/-- R125: a RESTING mark becomes PENDING, and every other one stays. -/
theorem repeatEnd_mark (w : Fin 24) (sp : Speaker) (s : State) : markOf w sp (repeatEnd w sp s) =
    (markOf w sp s).map fun m => if m.state = .resting then ⟨.pending, none⟩ else m := by
  unfold repeatEnd
  split
  · next hnone =>
    rw [markOf, hnone]
    rfl
  · next e hfound =>
    have hmark : markOf w sp s = e.chime sp := by
      rw [markOf, hfound]
      rfl
    unfold Entry.chimeIs
    rcases hchime : e.chime sp with _ | m
    · rw [if_neg (by simp), hmark, hchime]
      rfl
    · by_cases hm : m.state = .resting
      · rw [if_pos (by simp [hm]), markOf_setChime_same (hmark.trans hchime), hmark, hchime, Option.map_some, if_pos hm]
      · rw [if_neg (by simp [hm]), hmark, hchime, Option.map_some, if_neg hm]

/-- A definition's mark on a speaker is not RESTING. -/
def Roused (w : Fin 24) (sp : Speaker) (s : State) : Prop := ∀ m, markOf w sp s = some m → m.state ≠ .resting

theorem repeatEnd_roused (w : Fin 24) (sp : Speaker) (s : State) : Roused w sp (repeatEnd w sp s) := by
  intro m hm
  rw [repeatEnd_mark] at hm
  obtain ⟨m', -, rfl⟩ := Option.map_eq_some_iff.1 hm
  split_ifs with hrest
  · simp
  · exact hrest

theorem Roused.setChime (h : Roused w sp s) {v : Fin 24} {o : Speaker} {m : ChimeMark} (hm : m.state ≠ .resting) :
    Roused w sp (setChime v o m s) := by
  intro m' hm'
  rw [markOf_setChime] at hm'
  split_ifs at hm'
  · obtain ⟨-, -, rfl⟩ := Option.map_eq_some_iff.1 hm'
    exact hm
  · exact h m' hm'

theorem Roused.settleQuiet (h : Roused w sp s) : Roused w sp (settleQuiet s) := by
  unfold Machine.settleQuiet
  split_ifs
  · exact h
  · intro m hm
    obtain ⟨x, hx, hchime⟩ := Option.bind_eq_some_iff.1 hm
    obtain ⟨e, hfound, rfl⟩ := Option.map_eq_some_iff.1 ((findEntry_map Machine.quieted_w w s.warn.list).symm.trans hx)
    have hkept := h m
    rw [markOf, hfound, Option.bind_some] at hkept
    unfold Entry.quieted at hchime
    split_ifs at hchime
    · rw [chime_setChime] at hchime
      split_ifs at hchime
      · obtain rfl := Option.some.inj hchime
        simp
      · exact hkept hchime
    · exact hkept hchime

theorem Roused.chooseIfIdle (h : Roused w sp s) (o : Speaker) : Roused w sp (chooseIfIdle o s) := by
  unfold Machine.chooseIfIdle choose
  split
  · split
    · exact h
    · next c _ =>
      cases c with
      | warning v cls n => exact h.setChime (v := v) (o := o) (m := ⟨.playing, none⟩) (by simp)
      | queue i cls n => exact h
  · exact h

theorem Roused.settle (a : State) (h : Roused w sp s) : Roused w sp (settle a s) := by
  intro m hm
  rw [settle_markOf] at hm
  revert m
  unfold settleChimes chooseBoth
  dsimp only
  split_ifs
  · exact (h.settleQuiet.chooseIfIdle .front).chooseIfIdle .rear
  · exact h.settleQuiet

end

/-! ### The obligation -/

/-- R125: a repeat timer's end. -/
theorem repeatTimer_ends (w : Fin 24) (sp : Speaker) (s : State) (hl : ListOrdered s.warn.list) :
    (∀ e ∈ (settle s (repeatEnd w sp s)).warn.list, e.w = w → e.chimeIs sp .resting = false)
    ∧ (∀ e ∈ s.warn.list, e.w = w → e.chimeIs sp .resting = true → s.chime.quiet = .off → (s.chime.speaker sp).play ≠ none →
      ∃ x ∈ (settle s (repeatEnd w sp s)).warn.list, x.w = w ∧ x.chimeIs sp .pending = true) := by
  have hl' := listOrdered_of_shown (repeatEnd_shown w sp s) hl
  have hl'' := listOrdered_of_shown (settle_shown s _) hl'
  constructor
  · rintro e he rfl
    rw [Bool.eq_false_iff]
    intro hrest
    obtain ⟨m, hm, hstate⟩ := chimeIs_iff.1 hrest
    exact (repeatEnd_roused e.w sp s).settle s m ((markOf_of_mem hl'' he sp).trans hm) hstate
  · rintro e he hw hrest hquiet hplay
    obtain ⟨m, hm, hstate⟩ := markOf_of_chimeIs hl ⟨e, he, hw, hrest⟩
    have hpending : markOf w sp (repeatEnd w sp s) = some ⟨.pending, none⟩ := by
      rw [repeatEnd_mark, hm, Option.map_some, if_pos hstate]
    have hspared : Spared w sp (repeatEnd w sp s) := by
      refine .inl ?_
      unfold quietOn
      rw [repeatEnd_chime, hquiet]
      simp
    have hkept := settle_mark s hl' hpending (.inr ⟨by rwa [repeatEnd_chime], hspared⟩)
    obtain ⟨x, hx, hxw, hchime⟩ := exists_of_markOf hkept
    exact ⟨x, hx, hxw, chimeIs_iff.2 ⟨_, hchime, rfl⟩⟩

/-- Settles O42. -/
theorem chimeStepsAndRepeats : Obligations.ChimeStepsAndRepeats := by
  refine ⟨fun sp q s hclock hplay hl => ?boundary, fun w sp s hclock _ hl => ?timer, by decide⟩
  case timer =>
    exact ⟨settle s (repeatEnd w sp s), if_pos hclock, settle_figures (repeatEnd_figures w sp s),
      (settle_shown s _).trans (repeatEnd_shown w sp s), repeatTimer_ends w sp s hl⟩
  case boundary =>
    have hexec : exec (.noteBoundary sp) s = .next (settle s (boundary sp q s)) := by
      refine (if_pos hclock).trans ?_
      rw [hplay]
    refine ⟨settle s (boundary sp q s), hexec, settle_figures (boundary_figures sp q s),
      (settle_shown s _).trans (boundary_shown sp q s), fun hwanted hmore hbest => ?step,
      fun c hwanted hmore hbest hcls => ⟨?preemptWarning, ?preemptQueue, ?preemptKeys, fun w hq hspared => ?preempted⟩,
      fun w e hwanted hmore hq hfound => ?pass, fun e hwanted hmore hq hplaying => ?queue, fun hwanted => ?unwanted,
      fun hno => ?quiet⟩
    case step =>
      rw [boundary_step hwanted hmore hbest]
      exact settle_play s ((withPlay_play sp sp _ s).trans (if_pos rfl))
    case preemptWarning =>
      rintro w cls n rfl
      rw [boundary_preempt hwanted hmore hbest hcls]
      exact ⟨settle_play s (takeCandidate_play sp _ _), exists_of_markOf (preempt_playing hl hbest)⟩
    case preemptQueue =>
      rintro i cls n rfl
      rw [boundary_preempt hwanted hmore hbest hcls]
      exact settle_play s (takeCandidate_play sp _ _)
    case preemptKeys =>
      rw [boundary_preempt hwanted hmore hbest hcls]
      exact ((giveBack_sameQueues sp q s).trans ((takeCandidate_sameQueues sp c _).trans (settle_sameQueues s _))).keys sp
    case preempted =>
      rw [boundary_preempt hwanted hmore hbest hcls]
      exact exists_of_markOf (preempt_pending hl hwanted hq hbest hspared)
    case pass =>
      have hw : e.w = w := (findEntry_some hfound).2
      subst hw
      refine ⟨settle_fresh s (boundary_fresh fun h => hmore h.2), fun hcleared => ?_, fun hcleared hc hacked hspared => ?_,
        fun secs hcleared hc hagain => ?_, fun hcleared hc hagain => ?_⟩
      · have hend := passEndMark_cleared hcleared
        rw [← hend]
        exact exists_of_markOf (pass_mark hl hwanted hmore hq hfound (by simp [hend]))
      · exact (pass_awaited hl hwanted hmore hq hfound (passEndMark_continuous hcleared hc hacked) hspared).imp
          exists_of_markOf exists_of_markOf
      · have hend := passEndMark_again hcleared hc hagain
        rw [← hend]
        exact exists_of_markOf (pass_mark hl hwanted hmore hq hfound (by simp [hend]))
      · have hend := passEndMark_once hcleared hc hagain
        rw [← hend]
        exact exists_of_markOf (pass_mark hl hwanted hmore hq hfound (by simp [hend]))
    case queue =>
      refine ⟨settle_fresh s (boundary_fresh fun h => hmore h.2), queue_keys hwanted hmore hq hplaying, fun hlast => ?_⟩
      have hports := queue_notified hwanted hmore hq hplaying hlast
      constructor
      · intro hfront
        rw [hfront] at hports
        exact hports.front .chimeDone (chimeDone_set _).1
      · intro hrear
        rw [hrear] at hports
        exact hports.rear .chimeDone (chimeDone_set _).2
    case unwanted =>
      refine ⟨settle_fresh s (boundary_fresh (by simp [hwanted])), unwanted_keys hwanted, fun hrear hquieting => ?_,
        unwanted_idle hwanted⟩
      rw [(settle_sameQueues s _).quiet, boundary_quiet, if_pos ⟨hwanted, hrear, hquieting⟩]
    case quiet => rw [(settle_sameQueues s _).quiet, boundary_quiet, if_neg hno]

end Sys2Proof.Proofs.NoteBoundaries

/-! PROOFS. The levels that a switch scan accepts, and what a switch change event delivers after the power state is set (R16, R17). -/

namespace Sys2Proof.Proofs.SwitchLines

open Sys2Proof Sys2Proof.Machine Sys2Proof.Proofs.Views Sys2Proof.Proofs.AnalogScans Sys2Proof.Proofs.Links
  Sys2Proof.Proofs.Parking Sys2Proof.Proofs.Warnings

/-! ### The accepted levels (R16) -/

theorem shifted_bit : ∀ i k : Fin 16, ((1 : BitVec 16) <<< i.val).getLsbD k.val = decide (k = i) := by decide

theorem foldl_lines (f : Fin 16 → Bool) (l : List (Fin 16)) (n : BitVec 16) (k : Fin 16) :
    (l.foldl (fun n i => if f i then n ||| ((1 : BitVec 16) <<< i.val) else n) n).getLsbD k.val =
      (n.getLsbD k.val || (f k && decide (k ∈ l))) := by
  induction l generalizing n with
  | nil => simp
  | cons i is ih =>
    rw [List.foldl_cons, ih]
    have hbit := shifted_bit i k
    by_cases hk : k = i
    · subst hk
      rcases hf : f k
      · simp
      · rw [if_pos rfl, BitVec.getLsbD_or, hbit]
        simp
    · split_ifs
      · rw [BitVec.getLsbD_or, hbit]
        simp [hk]
      · simp [hk]

theorem lineSet_bit (f : Fin 16 → Bool) (k : Fin 16) : (lineSet f).getLsbD k.val = f k := by
  rw [lineSet, foldl_lines]
  simp

/-- R16: a line has its new level where it accepted one. -/
theorem scanLines_level (m : Measure) (lines : BitVec 16) (k : Fin 16) : (scanLines lines m).levels.getLsbD k.val =
    if lineAccepts m lines k then lines.getLsbD k.val else m.levels.getLsbD k.val := by
  have hlevels : (scanLines lines m).levels = m.levels ^^^ lineSet (lineAccepts m lines) := rfl
  rw [hlevels, BitVec.getLsbD_xor, lineSet_bit]
  unfold lineAccepts
  generalize lines.getLsbD k.val = new
  generalize m.levels.getLsbD k.val = old
  generalize decide (3 ≤ m.candidates[k]) = fourth
  revert new old fourth
  decide

theorem scanLines_candidate (m : Measure) (lines : BitVec 16) (k : Fin 16) : (scanLines lines m).candidates[k] =
    if (lines.getLsbD k.val != m.levels.getLsbD k.val) && !lineAccepts m lines k then m.candidates[k] + 1 else 0 := by
  have hcandidates : (scanLines lines m).candidates = Vector.ofFn (nextCandidate m lines) := rfl
  rw [hcandidates, Fin.getElem_fin, Vector.getElem_ofFn]
  unfold nextCandidate
  by_cases hsame : lines.getLsbD k.val = m.levels.getLsbD k.val
  · rw [if_pos hsame, hsame, bne_self_eq_false, Bool.false_and, if_neg Bool.false_ne_true]
  · have hdiffers : (lines.getLsbD k.val != m.levels.getLsbD k.val) = true := bne_iff_ne.2 hsame
    rw [if_neg hsame, hdiffers, Bool.true_and]
    rcases lineAccepts m lines k
    · rfl
    · rfl

/-! ### An event after the power state is set (R17) -/

/-- R106: the warning unit's part of a switch change event. -/
def warnOfLine (i : Fin 16) (s : State) : State := if i.val = 15 ∧ level s 15 = true then raise 19 false 0 s else s

/-- R55: the tank model's part of a switch change event. -/
def holdOfLine (i : Fin 16) (s : State) : State := if i.val = 14 then pumpChange (level s 14) s else s

/-- A switch change event after the power controller's choice. -/
def later (s : State) (i : Fin 16) : State := holdOfLine i (warnOfLine i (activity s))

theorem switchEvent_eq (s : State) (i : Fin 16) : switchEvent s i = later (if i.val ≤ 1 then setPower s else s) i := rfl

/-- The power state is the one that the accepted ignition levels give. -/
def Settled (s : State) : Prop := ignitionState s = s.power.state

theorem setPower_settled {s : State} (h : Settled s) : setPower s = s := if_pos h

/-- What a switch change event leaves, the power state being set. -/
structure Delivered (s t : State) : Prop where
  meas     : t.meas = s.meas := by simp
  port     : t.port = s.port := by simp
  store    : t.store = s.store := by simp
  settings : t.settings = s.settings := by simp
  units    : t.units = s.units := by simp
  service  : t.service = s.service := by simp
  clock    : t.clock = s.clock := by simp
  timers   : t.timers = s.timers := by simp
  pins     : t.pins = s.pins := by simp
  fold     : t.fold = { s.fold with hold := t.fold.hold } := by simp
  list     : ∀ e ∈ t.warn.list, e.w ≠ 19 → e ∈ s.warn.list
  active   : ∀ w, ActiveEntry w s → ActiveEntry w t

theorem Delivered.rfl' (s : State) : Delivered s s where
  meas := rfl
  port := rfl
  store := rfl
  settings := rfl
  units := rfl
  service := rfl
  clock := rfl
  timers := rfl
  pins := rfl
  fold := rfl
  list _ he _ := he
  active _ hs := hs

theorem Delivered.trans {s t u : State} (h : Delivered s t) (k : Delivered t u) : Delivered s u where
  meas := k.meas.trans h.meas
  port := k.port.trans h.port
  store := k.store.trans h.store
  settings := k.settings.trans h.settings
  units := k.units.trans h.units
  service := k.service.trans h.service
  clock := k.clock.trans h.clock
  timers := k.timers.trans h.timers
  pins := k.pins.trans h.pins
  fold := by rw [k.fold, h.fold]
  list e he hw := h.list e (k.list e he hw) hw
  active w hs := k.active w (h.active w hs)

theorem mem_raiseList_other {v : Fin 24} {add : Bool} {d : BitVec 8} {stamp : Nat} {l : List Entry} {e : Entry}
    (he : e ∈ raiseList v add d stamp l) (hw : e.w ≠ v) : e ∈ l := by
  have hfresh {m : List Entry} (h : e ∈ insertEntry (freshEntry v stamp d) m) : e ∈ m :=
    ((mem_insertEntry _ _ _).1 h).resolve_left fun heq => hw (congrArg Entry.w heq)
  unfold raiseList at he
  split at he
  · exact hfresh he
  · split_ifs at he
    · exact (mem_dropEntry.1 (hfresh he)).1
    · obtain ⟨x, hx, rfl⟩ := List.mem_map.1 he
      split_ifs at hw ⊢ with hv
      · exact absurd hv hw
      · exact hx

theorem activity_delivered (s : State) : Delivered s (activity s) where
  list e he _ := by rwa [activity_warn] at he
  active w hs := by
    unfold ActiveEntry
    rw [activity_warn]
    exact hs

theorem warnOfLine_delivered (i : Fin 16) (s : State) : Delivered s (warnOfLine i s) := by
  unfold warnOfLine
  split_ifs
  · exact { list := fun _ he hw => mem_raiseList_other he hw, active := fun w hs => (activeEntry_raise w 19 false 0 s).2 (.inr hs) }
  · exact .rfl' s

theorem holdOfLine_delivered (i : Fin 16) (s : State) : Delivered s (holdOfLine i s) := by
  unfold holdOfLine
  split_ifs
  · exact { Delivered.rfl' s with fold := rfl }
  · exact .rfl' s

theorem later_delivered (s : State) (i : Fin 16) : Delivered s (later s i) :=
  (activity_delivered s).trans ((warnOfLine_delivered i _).trans (holdOfLine_delivered i _))

theorem warnOfLine_withList (i : Fin 16) (s : State) : warnOfLine i s = s.withList (warnOfLine i s).warn.list := by
  unfold warnOfLine
  split_ifs <;> rfl

theorem holdOfLine_hold (i : Fin 16) (s : State) : (holdOfLine i s).fold.hold =
    if i.val = 14 then (if level s 14 then .pumping else .ending 60000000) else s.fold.hold := by
  unfold holdOfLine
  split_ifs with _ hactive
  · rw [hactive]
    rfl
  · rw [Bool.eq_false_iff.2 hactive]
    rfl
  · rfl

theorem holdOfLine_blocks (i : Fin 16) (s : State) : (holdOfLine i s).power = s.power ∧ (holdOfLine i s).gauge = s.gauge
    ∧ (holdOfLine i s).warn = s.warn := by
  unfold holdOfLine
  split_ifs
  · exact ⟨rfl, rfl, rfl⟩
  · exact ⟨rfl, rfl, rfl⟩

theorem later_power (s : State) (i : Fin 16) : (later s i).power = (activity s).power := by
  rw [later, (holdOfLine_blocks i _).1, warnOfLine_withList]
  rfl

theorem later_gauge (s : State) (i : Fin 16) : (later s i).gauge = (activity s).gauge := by
  rw [later, (holdOfLine_blocks i _).2.1, warnOfLine_withList]
  rfl

/-- R55: the hold that TRANSFER PUMP's change leaves. -/
theorem later_hold (s : State) (i : Fin 16) : (later s i).fold.hold =
    if i.val = 14 then (if level s 14 then .pumping else .ending 60000000) else s.fold.hold := by
  rw [later, holdOfLine_hold, warnOfLine_withList]
  simp [level]

/-- R17: line 15 raises W19. -/
theorem later_raises {s : State} {i : Fin 16} (hi : i.val = 15) (h : level s 15 = true) : ActiveEntry 19 (later s i) := by
  have hlevel : level (activity s) 15 = true := by
    rw [level, activity_meas]
    exact h
  rw [later, ActiveEntry, (holdOfLine_blocks i _).2.2, warnOfLine, if_pos ⟨hi, hlevel⟩]
  exact (activeEntry_raise 19 19 false 0 _).2 (.inl rfl)

/-! ### The events of a scan -/

/-- The events of a scan in line order, the power state being set. -/
def delivered (events : List (Fin 16)) (s : State) : State := events.foldl later s

theorem delivered_keeps (events : List (Fin 16)) (s : State) : Delivered s (delivered events s) := by
  induction events generalizing s with
  | nil => exact .rfl' s
  | cons i is ih => exact (later_delivered s i).trans (ih _)

/-- No park entry for DELAY is in progress outside AWAKE. -/
def Restful (s : State) : Prop := inAwake s = true ∨ s.power.park ≠ some .delay

/-- R161: what activity leaves is what any further activity leaves. -/
theorem activity_twice {s t : State} (h : Restful s) (hpower : t.power = (activity s).power) :
    (activity t).power = t.power ∧ (activity t).gauge = t.gauge ∧ Restful t := by
  by_cases hawake : inAwake s = true
  · have ht := hpower.trans (activity_awake hawake)
    have hpark : t.power.park ≠ some .delay := by
      rw [ht]
      dsimp only
      split_ifs with hdelay
      · simp
      · exact hdelay
    have hawake' : inAwake t = true := by
      unfold inAwake alive at hawake ⊢
      rw [ht]
      exact hawake
    refine ⟨?_, activity_gauge hpark, .inl hawake'⟩
    rw [activity_awake hawake', if_neg hpark, ht]
  · have hnot := Bool.eq_false_iff.2 hawake
    have hpark := h.resolve_left hawake
    rw [activity_asleep hnot hpark] at hpower
    have hawake' : inAwake t = false := (inAwake_congr hpower).trans hnot
    have hpark' : t.power.park ≠ some .delay := by rwa [hpower]
    rw [activity_asleep hawake' hpark']
    exact ⟨rfl, rfl, .inr hpark'⟩

theorem activity_state (s : State) : (activity s).power.state = s.power.state := by
  rw [activity, endDelayPark_power]
  unfold restartDelay
  split_ifs <;> rfl

theorem delivered_state (events : List (Fin 16)) (s : State) : (delivered events s).power.state = s.power.state := by
  induction events generalizing s with
  | nil => rfl
  | cons i is ih =>
    refine (ih _).trans ?_
    rw [later_power, activity_state]

/-- R161, R164: events in a row are one activity to the power controller and to the gauges. -/
theorem delivered_activity {events : List (Fin 16)} (hne : events ≠ []) {s : State} (h : Restful s) :
    (delivered events s).power = (activity s).power ∧ (delivered events s).gauge = (activity s).gauge := by
  induction events generalizing s with
  | nil => exact absurd rfl hne
  | cons i is ih =>
    have hpower := later_power s i
    obtain ⟨hsame, hgauge, hrest⟩ := activity_twice h hpower
    by_cases his : is = []
    · subst his
      exact ⟨hpower, later_gauge s i⟩
    · obtain ⟨hp, hg⟩ := ih his hrest
      exact ⟨hp.trans (hsame.trans hpower), hg.trans (hgauge.trans (later_gauge s i))⟩

theorem delivered_hold {events : List (Fin 16)} (hnodup : events.Nodup) (s : State) : (delivered events s).fold.hold =
    if (14 : Fin 16) ∈ events then (if level s 14 then .pumping else .ending 60000000) else s.fold.hold := by
  by_cases hmem : (14 : Fin 16) ∈ events
  · rw [if_pos hmem]
    refine foldl_brings (I := fun t => t.meas = s.meas)
      (P := fun t => t.fold.hold = if level s 14 then .pumping else .ending 60000000)
      (fun t j ht => (later_delivered t j).meas.trans ht) (fun t ht => ?_) (fun t j hj _ hp => ?_) hmem hnodup rfl
    · rw [later_hold, if_pos (show (14 : Fin 16).val = 14 from rfl), level, ht, level]
    · rw [later_hold, if_neg fun h : j.val = 14 => hj (Fin.ext h)]
      exact hp
  · rw [if_neg hmem]
    induction events generalizing s with
    | nil => rfl
    | cons i is ih =>
      obtain ⟨hi, his⟩ := not_or.1 (mt List.mem_cons.2 hmem)
      refine (ih (List.nodup_cons.1 hnodup).2 (later s i) his).trans ?_
      rw [later_hold, if_neg fun h => hi (Fin.ext h.symm)]

theorem delivered_raises {events : List (Fin 16)} (hnodup : events.Nodup) {s : State} (hmem : (15 : Fin 16) ∈ events)
    (h : level s 15 = true) : ActiveEntry 19 (delivered events s) := by
  refine foldl_brings (I := fun t => t.meas = s.meas) (P := fun t => ActiveEntry 19 t)
    (fun t j ht => (later_delivered t j).meas.trans ht) (fun t ht => later_raises rfl ?_)
    (fun t j _ _ hp => (later_delivered t j).active 19 hp) hmem hnodup rfl
  rw [level, ht]
  exact h

/-! ### The first event sets the power state (R17, R160) -/

theorem foldl_settled {s : State} (h : Settled s) (events : List (Fin 16)) :
    events.foldl switchEvent s = delivered events s := by
  induction events generalizing s with
  | nil => rfl
  | cons i is ih =>
    have hevent : switchEvent s i = later s i := by
      rw [switchEvent_eq, setPower_settled h]
      split_ifs <;> rfl
    have hnext : Settled (later s i) := by
      unfold Settled ignitionState level
      rw [(later_delivered s i).meas, later_power]
      rw [activity_state]
      exact h
    rw [List.foldl_cons, hevent]
    exact ih hnext

theorem foldl_late {events : List (Fin 16)} (h : ∀ i ∈ events, ¬ i.val ≤ 1) (s : State) :
    events.foldl switchEvent s = delivered events s :=
  List.foldl_ext _ _ s fun u i hi => by rw [switchEvent_eq, if_neg (h i hi)]

/-- The lines after the two ignition lines. -/
def lateLines : List (Fin 16) := [2, 3, 4, 5, 6, 7, 8, 9, 10, 11, 12, 13, 14, 15]

theorem finRange_lines : List.finRange 16 = 0 :: 1 :: lateLines := by decide

theorem not_le_of_late {i : Fin 16} (h : i ∈ lateLines) : ¬ i.val ≤ 1 := by
  revert i
  decide

/-- The power state is set first where an ignition line has its new level, and then the events are delivered. -/
theorem foldl_switchEvent (p : Fin 16 → Bool) {s : State} (hset : Settled (setPower s)) :
    ((List.finRange 16).filter p).foldl switchEvent s =
      delivered ((List.finRange 16).filter p) (if p 0 || p 1 then setPower s else s) := by
  have hfirst (i : Fin 16) (hi : i.val ≤ 1) (is : List (Fin 16)) :
      (i :: is).foldl switchEvent s = delivered (i :: is) (setPower s) := by
    rw [← foldl_settled hset, List.foldl_cons, List.foldl_cons, switchEvent_eq, switchEvent_eq, if_pos hi, if_pos hi,
      setPower_settled hset]
  rw [finRange_lines]
  rcases h0 : p 0
  · rw [List.filter_cons_of_neg (by simp [h0])]
    rcases h1 : p 1
    · rw [List.filter_cons_of_neg (by simp [h1])]
      exact foldl_late (fun i hi => not_le_of_late (List.mem_filter.1 hi).1) s
    · rw [List.filter_cons_of_pos h1]
      exact hfirst 1 (le_refl 1) _
  · rw [List.filter_cons_of_pos h0]
    exact hfirst 0 (Nat.zero_le 1) _

end Sys2Proof.Proofs.SwitchLines

/-! PROOFS. The power controller's choice outside PARKED: entering and leaving RUN and AWAKE (R160, R161, R164, R176). -/

namespace Sys2Proof.Proofs.PowerChanges

open Sys2Proof Sys2Proof.Machine Sys2Proof.Proofs.StepSafety Sys2Proof.Proofs.Gauges Sys2Proof.Proofs.Views
  Sys2Proof.Proofs.SecondEnds Sys2Proof.Proofs.Links Sys2Proof.Proofs.SwitchLines Sys2Proof.Proofs.Parking

/-! ### The cases of the choice -/

/-- The state with the power state of the ignition levels, before the units are told. -/
def chosen (s : State) : State := s.withPower fun u => { u with state := ignitionState s }

/-- AWAKE left behind, where the part was in it. -/
def roused (s : State) : State := if s.power.state = .awake then leaveAwake (chosen s) else chosen s

section
variable {s : State}

theorem setPower_run (hold : s.power.state ≠ .run) (hnew : ignitionState s = .run) :
    setPower s = runEntry (decide (s.power.state = .acc)) (roused s) := by
  unfold setPower
  dsimp only
  rw [if_neg fun h => hold (h.symm.trans hnew), if_neg hold, if_pos hnew, if_neg (c := ignitionState s = .awake) (by simp [hnew])]
  rfl

theorem setPower_acc_of_run (hold : s.power.state = .run) (hnew : ignitionState s = .acc) :
    setPower s = leaveRun (chosen s) := by
  simp [setPower, hold, hnew, chosen]

theorem setPower_awake_of_run (hold : s.power.state = .run) (hnew : ignitionState s = .awake) :
    setPower s = enterAwake (leaveRun (chosen s)) := by
  simp [setPower, hold, hnew, chosen]

theorem setPower_awake_of_acc (hold : s.power.state = .acc) (hnew : ignitionState s = .awake) :
    setPower s = enterAwake (chosen s) := by
  simp [setPower, hold, hnew, chosen]

theorem setPower_acc_of_awake (hold : s.power.state = .awake) (hnew : ignitionState s = .acc) :
    setPower s = leaveAwake (chosen s) := by
  simp [setPower, hold, hnew, chosen]

theorem ignitionState_ne_parked (s : State) : ignitionState s ≠ .parked := by
  unfold ignitionState
  split_ifs <;> decide

theorem state_of_alive (h : alive s = true) : s.power.state ≠ .parked := by
  intro hparked
  simp [alive, hparked] at h

/-- What holds of the choice holds if it holds in each of its cases. -/
theorem setPower_cases {P : State → Prop} (halive : alive s = true) (hsame : ignitionState s = s.power.state → P s)
    (hrun : s.power.state ≠ .run → ignitionState s = .run → P (runEntry (decide (s.power.state = .acc)) (roused s)))
    (hrunAcc : s.power.state = .run → ignitionState s = .acc → P (leaveRun (chosen s)))
    (hrunAwake : s.power.state = .run → ignitionState s = .awake → P (enterAwake (leaveRun (chosen s))))
    (haccAwake : s.power.state = .acc → ignitionState s = .awake → P (enterAwake (chosen s)))
    (hawakeAcc : s.power.state = .awake → ignitionState s = .acc → P (leaveAwake (chosen s))) : P (setPower s) := by
  by_cases hsettled : ignitionState s = s.power.state
  · rw [setPower_settled hsettled]
    exact hsame hsettled
  · rcases hnew : ignitionState s with _ | _ | _ | _
    · have hold : s.power.state ≠ .run := fun h => hsettled (hnew.trans h.symm)
      rw [setPower_run hold hnew]
      exact hrun hold hnew
    · rcases hold : s.power.state with _ | _ | _ | _
      · rw [setPower_acc_of_run hold hnew]
        exact hrunAcc hold hnew
      · exact absurd (hnew.trans hold.symm) hsettled
      · rw [setPower_acc_of_awake hold hnew]
        exact hawakeAcc hold hnew
      · exact absurd hold (state_of_alive halive)
    · rcases hold : s.power.state with _ | _ | _ | _
      · rw [setPower_awake_of_run hold hnew]
        exact hrunAwake hold hnew
      · rw [setPower_awake_of_acc hold hnew]
        exact haccAwake hold hnew
      · exact absurd (hnew.trans hold.symm) hsettled
      · exact absurd hold (state_of_alive halive)
    · exact absurd hnew (ignitionState_ne_parked s)

/-! ### The power controller -/

theorem leaveAwake_power (s : State) :
    (leaveAwake s).power = { s.power with delay := none, limit := none, park := none } := endParkEntry_power _

theorem enterAwake_power (s : State) :
    (enterAwake s).power = { s.power with delay := some 983040, limit := some 39321600 } := rfl

theorem roused_power (s : State) : (roused s).power =
    if s.power.state = .awake then { s.power with state := ignitionState s, delay := none, limit := none, park := none }
    else { s.power with state := ignitionState s } := by
  unfold roused
  split_ifs
  · exact leaveAwake_power _
  · rfl

/-- R160: what the choice leaves in the power controller. -/
theorem setPower_power (halive : alive s = true) : (setPower s).power =
    if ignitionState s = s.power.state then s.power
    else if s.power.state = .awake then { s.power with state := ignitionState s, delay := none, limit := none, park := none }
    else if ignitionState s = .awake then
      { s.power with state := ignitionState s, delay := some 983040, limit := some 39321600 }
    else { s.power with state := ignitionState s } := by
  refine setPower_cases (P := fun t => t.power = _) halive (fun h => ?_) (fun hold hnew => ?_) (fun hold hnew => ?_)
    (fun hold hnew => ?_) (fun hold hnew => ?_) (fun hold hnew => ?_)
  · rw [if_pos h]
  · rw [if_neg fun h => hold (h.symm.trans hnew), runEntry_power, roused_power, if_neg (c := ignitionState s = .awake) (by simp [hnew])]
  · simp [hold, hnew, chosen]
  · rw [enterAwake_power]
    simp [hold, hnew, chosen]
  · rw [enterAwake_power]
    simp [hold, hnew, chosen]
  · rw [leaveAwake_power]
    simp [hold, hnew, chosen]

theorem setPower_state (halive : alive s = true) : (setPower s).power.state = ignitionState s := by
  rw [setPower_power halive]
  split_ifs with h
  · exact h.symm
  all_goals rfl

theorem setPower_alive (halive : alive s = true) : alive (setPower s) = true := by
  have hsupplied : (setPower s).power.supplied = s.power.supplied := by
    rw [setPower_power halive]
    split_ifs <;> rfl
  unfold alive at halive ⊢
  rw [hsupplied, setPower_state halive]
  rw [Bool.and_eq_true] at halive ⊢
  exact ⟨halive.1, by simpa using ignitionState_ne_parked s⟩

/-- R161: after the choice a park entry for DELAY stands only where it stood and AWAKE goes on. -/
theorem setPower_restful (halive : alive s = true) (hpark : s.power.state ≠ .awake → s.power.park = none) :
    Restful (setPower s) := by
  by_cases hnew : ignitionState s = .awake
  · refine .inl ?_
    rw [inAwake, setPower_alive halive, setPower_state halive, hnew]
    rfl
  · refine .inr ?_
    rw [setPower_power halive]
    split_ifs with hsame hawake
    · rw [hpark fun h => hnew (hsame.trans h)]
      simp
    · simp
    · rw [hpark hawake]
      simp

/-! ### The measurements -/

theorem roused_meas (s : State) : (roused s).meas = s.meas := by
  unfold roused
  split_ifs
  · rw [leaveAwake_meas]
    rfl
  · rfl

/-- R160: the fast window after the choice: it starts with RUN and ends with it. -/
def windowAfter (s : State) : Option Nat :=
  if ignitionState s = s.power.state then s.meas.fastWindow
  else if ignitionState s = .run then some 0
  else if s.power.state = .run then none
  else s.meas.fastWindow

/-- R160: the choice changes the fast window of the measurements at most. -/
theorem setPower_meas (halive : alive s = true) : (setPower s).meas = { s.meas with fastWindow := windowAfter s } := by
  unfold windowAfter
  refine setPower_cases (P := fun t => t.meas = _) halive (fun h => ?_) (fun hold hnew => ?_) (fun hold hnew => ?_)
    (fun hold hnew => ?_) (fun hold hnew => ?_) (fun hold hnew => ?_)
  · rw [if_pos h]
  · rw [if_neg fun h => hold (h.symm.trans hnew), if_pos hnew]
    have hentry (b : Bool) (u : State) : (runEntry b u).meas = { u.meas with fastWindow := some 0 } := rfl
    rw [hentry, roused_meas]
  · have hleave (u : State) : (leaveRun u).meas = { u.meas with fastWindow := none } := rfl
    simp [hleave, hold, hnew, chosen]
  · have hleave (u : State) : (leaveRun u).meas = { u.meas with fastWindow := none } := rfl
    simp [hleave, hold, hnew, chosen]
  · simp [hold, hnew, chosen]
  · simp [hold, hnew, chosen]

theorem setPower_is_settled (halive : alive s = true) : Settled (setPower s) := by
  rw [Settled, setPower_state halive]
  unfold ignitionState level
  rw [setPower_meas halive]

/-! ### The gauges -/

/-- R30: a gauge after the end of the park entry in progress. -/
def returned (s : State) (x : Gauge) : Gauge :=
  if s.power.park.isSome = true ∧ s.gauge.live = true ∧ (x.mode = .ret ∨ x.mode = .off) then { x with mode := .follow } else x

theorem endParkEntry_gauges (s : State) (g : Fin 6) : (endParkEntry s).gauge.gauges[g] = returned s s.gauge.gauges[g] := by
  unfold endParkEntry returned
  by_cases hpark : s.power.park.isSome = true
  · rw [if_pos hpark, returnEnded_gauges]
    exact if_congr (and_iff_right hpark).symm rfl rfl
  · rw [if_neg hpark, if_neg fun h => hpark h.1]

theorem endParkEntry_mode (s : State) : (endParkEntry s).gauge.live = s.gauge.live
    ∧ (endParkEntry s).gauge.sweepOn = s.gauge.sweepOn := by
  unfold endParkEntry
  split_ifs
  · unfold returnEnded
    dsimp only
    split_ifs <;> exact ⟨rfl, rfl⟩
  · exact ⟨rfl, rfl⟩

theorem leaveAwake_gauge (s : State) : (leaveAwake s).gauge =
    (endParkEntry (s.withPower fun u => { u with delay := none, limit := none })).gauge := rfl

theorem leaveAwake_gauges (s : State) (g : Fin 6) : (leaveAwake s).gauge.gauges[g] = returned s s.gauge.gauges[g] := by
  rw [leaveAwake_gauge, endParkEntry_gauges]
  rfl

theorem leaveAwake_atRest {s : State} (h : s.power.park.isSome = true) : (leaveAwake s).gauge.atRest = false := by
  rw [leaveAwake_gauge, endParkEntry]
  exact congrArg (fun u : State => u.gauge.atRest) (if_pos h)

theorem roused_gauges (hpark : s.power.state ≠ .awake → s.power.park = none) (g : Fin 6) :
    (roused s).gauge.gauges[g] = returned s s.gauge.gauges[g] := by
  unfold roused
  split_ifs with hawake
  · exact leaveAwake_gauges (chosen s) g
  · refine (if_neg fun h => ?_).symm
    rw [hpark hawake] at h
    simp at h

theorem roused_mode (s : State) : (roused s).gauge.live = s.gauge.live ∧ (roused s).gauge.sweepOn = s.gauge.sweepOn := by
  unfold roused
  split_ifs
  · rw [leaveAwake_gauge]
    exact endParkEntry_mode _
  · exact ⟨rfl, rfl⟩

/-- R26: a gauge that sweeps at a RUN entry, or follows where the sweep is off. -/
def sweeping (sweepOn : Bool) (x : Gauge) : Gauge :=
  if sweepOn then { x with mode := .sweep, phase := .up } else { x with mode := .follow }

/-- R21, R26: the gauges at a RUN entry. -/
theorem runEntry_gauges (fromAcc : Bool) (s : State) (g : Fin 6) : (runEntry fromAcc s).gauge.gauges[g] =
    if (s.gauge.live = false ∧ (s.gauge.gauges[g].mode = .off ∨ s.gauge.gauges[g].mode = .ret))
        ∨ (s.gauge.live = true ∧ fromAcc = false ∧ s.gauge.sweepOn = true ∧ s.gauge.gauges[g].mode = .follow) then
      sweeping s.gauge.sweepOn s.gauge.gauges[g]
    else s.gauge.gauges[g] := by
  have hgauges : (runEntry fromAcc s).gauge.gauges = mapGauges (fun x =>
      if s.gauge.live = false then (if x.mode = .off ∨ x.mode = .ret then sweeping s.gauge.sweepOn x else x)
      else if fromAcc = false ∧ s.gauge.sweepOn = true ∧ x.mode = .follow then sweeping s.gauge.sweepOn x
      else x) s.gauge.gauges := rfl
  rw [hgauges, mapGauges_get]
  rcases s.gauge.live
  · simp
  · simp

theorem leaveRun_gauges (s : State) (g : Fin 6) : (leaveRun s).gauge.gauges[g] =
    if s.gauge.gauges[g].mode = .sweep then { s.gauge.gauges[g] with mode := .follow } else s.gauge.gauges[g] := by
  have hgauges : (leaveRun s).gauge.gauges =
      mapGauges (fun x => if x.mode = .sweep then { x with mode := .follow } else x) s.gauge.gauges := rfl
  rw [hgauges, mapGauges_get]

end

end Sys2Proof.Proofs.PowerChanges

/-! PROOFS. A switch scan (R16, R17, R160, R161, R164). -/

namespace Sys2Proof.Proofs.SwitchScans

open Sys2Proof Sys2Proof.Machine Sys2Proof.Proofs.StepSafety Sys2Proof.Proofs.BlockSafety Sys2Proof.Proofs.Views
  Sys2Proof.Proofs.SecondEnds Sys2Proof.Proofs.Links Sys2Proof.Proofs.SwitchLines Sys2Proof.Proofs.PowerChanges
  Sys2Proof.Proofs.Parking Sys2Proof.Proofs.Aside

/-! ### The scan in three parts: the levels, the power state, the events -/

/-- The state with the levels that a scan accepts. -/
def accepted (lines : BitVec 16) (s : State) : State :=
  { s with
    timers := { s.timers with switch := switchPeriod }
    pins := { s.pins with lines := lines }
    meas := scanLines lines s.meas }

/-- The lines that accept a level, in line order. -/
def events (lines : BitVec 16) (s : State) : List (Fin 16) := (List.finRange 16).filter (lineAccepts s.meas lines)

/-- An ignition line accepts a level. -/
def ignites (lines : BitVec 16) (s : State) : Bool := lineAccepts s.meas lines 0 || lineAccepts s.meas lines 1

/-- The state in which the events are delivered, the power state being set. -/
def powered (lines : BitVec 16) (s : State) : State :=
  if ignites lines s then setPower (accepted lines s) else accepted lines s

/-- What a switch scan leaves. -/
def scanned (lines : BitVec 16) (s : State) : State := settle s (delivered (events lines s) (powered lines s))

section
variable {lines : BitVec 16} {s : State}

theorem exec_switchScan (halive : alive s = true) : exec (.switchScanExpiry lines) s = .next (scanned lines s) := by
  have hscan : exec (.switchScanExpiry lines) s =
      .next (settle s ((events lines s).foldl switchEvent (accepted lines s))) := if_pos halive
  rw [hscan, events, foldl_switchEvent (lineAccepts s.meas lines) (setPower_is_settled (s := accepted lines s) halive)]
  rfl

theorem mem_events {i : Fin 16} : i ∈ events lines s ↔ lineAccepts s.meas lines i = true := by
  simp [events]

theorem nodup_events : (events lines s).Nodup := (List.nodup_finRange 16).filter _

theorem events_of_ignites (h : ignites lines s = true) : events lines s ≠ [] := by
  rcases Bool.or_eq_true_iff.1 h with h0 | h1
  · exact List.ne_nil_of_mem (mem_events.2 h0)
  · exact List.ne_nil_of_mem (mem_events.2 h1)

variable (halive : alive s = true) (hpark : s.power.state ≠ .awake → s.power.park = none)

theorem events_none (h : ∀ j, lineAccepts s.meas lines j = false) : events lines s = [] ∧ powered lines s = accepted lines s := by
  refine ⟨List.filter_eq_nil_iff.2 fun j _ => by simp [h j], if_neg ?_⟩
  simp [ignites, h]

/-! ### The measurements and the other blocks -/

include halive in
theorem powered_meas : (powered lines s).meas = { scanLines lines s.meas with fastWindow := (powered lines s).meas.fastWindow } := by
  unfold powered
  split_ifs
  · rw [setPower_meas (s := accepted lines s) halive]
    rfl
  · rfl

theorem scanned_meas : (scanned lines s).meas = (powered lines s).meas := by
  rw [scanned, settle_meas, (delivered_keeps _ _).meas]

include halive in
theorem scanned_level (k : Fin 16) : level (scanned lines s) k.val =
    if lineAccepts s.meas lines k then lines.getLsbD k.val else s.meas.levels.getLsbD k.val := by
  rw [level, scanned_meas, powered_meas halive]
  exact scanLines_level s.meas lines k

include halive in
theorem accepted_level (k : Nat) : level (accepted lines s) k = level (scanned lines s) k := by
  rw [level, level, scanned_meas, powered_meas halive]
  rfl

/-- A switch scan leaves the blocks that no switch change event is for. -/
theorem powered_others : (powered lines s).store = s.store ∧ (powered lines s).settings = s.settings
    ∧ (powered lines s).units = s.units ∧ (powered lines s).service = s.service ∧ (powered lines s).clock = s.clock
    ∧ (powered lines s).fold = s.fold ∧ (powered lines s).timers = { s.timers with switch := 8000 }
    ∧ (powered lines s).pins = { s.pins with lines := lines } := by
  unfold powered
  split_ifs
  · rw [setPower_store, setPower_settings, setPower_units, setPower_service, setPower_clock, setPower_fold, setPower_timers,
      setPower_pins]
    exact ⟨rfl, rfl, rfl, rfl, rfl, rfl, rfl, rfl⟩
  · exact ⟨rfl, rfl, rfl, rfl, rfl, rfl, rfl, rfl⟩

theorem scanned_records : SameRecords s (scanned lines s) := by
  have hstore : (delivered (events lines s) (powered lines s)).store = s.store :=
    (delivered_keeps _ _).store.trans powered_others.1
  simp [SameRecords, scanned, hstore]

theorem scanned_fold : (scanned lines s).fold = { s.fold with hold := (scanned lines s).fold.hold } := by
  rw [scanned, settle_fold, (delivered_keeps _ _).fold, powered_others.2.2.2.2.2.1]

theorem scanned_hold : (scanned lines s).fold.hold =
    if lineAccepts s.meas lines 14 then (if level (scanned lines s) 14 then .pumping else .ending 60000000)
    else s.fold.hold := by
  have hlevel : level (powered lines s) 14 = level (scanned lines s) 14 := by
    rw [level, level, scanned_meas]
  rw [scanned, settle_fold, delivered_hold nodup_events, ← scanned, hlevel, powered_others.2.2.2.2.2.1]
  exact if_congr mem_events rfl rfl

theorem scanned_raises (h : lineAccepts s.meas lines 15 = true) (hlevel : level (scanned lines s) 15 = true) :
    ActiveEntry 19 (scanned lines s) := by
  rw [scanned, activeEntry_of_shown (settle_shown s _)]
  refine delivered_raises nodup_events (mem_events.2 h) ?_
  rw [level, ← scanned_meas]
  exact hlevel

/-! ### The power state and the gauges -/

include halive in
theorem powered_alive : alive (powered lines s) = true := by
  unfold powered
  split_ifs
  · exact setPower_alive (s := accepted lines s) halive
  · exact halive

include halive hpark in
theorem powered_restful : Restful (powered lines s) := by
  unfold powered
  split_ifs
  · exact setPower_restful (s := accepted lines s) halive hpark
  · by_cases hawake : s.power.state = .awake
    · exact .inl (by rw [inAwake, show alive (accepted lines s) = true from halive]; simpa [accepted] using hawake)
    · refine .inr ?_
      rw [show (accepted lines s).power.park = none from hpark hawake]
      simp

theorem scanned_state : (scanned lines s).power.state = (powered lines s).power.state := by
  rw [scanned, settle_power_state, delivered_state]

include halive hpark in
/-- R161: with an event delivered, the power controller and the gauges are as after one activity. -/
theorem scanned_activity (hne : events lines s ≠ []) : (scanned lines s).power = (activity (powered lines s)).power
    ∧ (scanned lines s).gauge = { (activity (powered lines s)).gauge with lamps := (scanned lines s).gauge.lamps } := by
  obtain ⟨hpower, hgauge⟩ := delivered_activity hne (powered_restful (lines := lines) halive hpark)
  have hdue : ParkNotDue (delivered (events lines s) (powered lines s)) := by
    rw [ParkNotDue, hpower]
    exact activity_notDue (powered_alive halive)
  refine ⟨(settle_power_notDue s _ hdue).trans hpower, ?_⟩
  have hsettled := settle_gauge_notDue s _ hdue
  rw [hgauge] at hsettled
  exact hsettled

include halive in
theorem powered_state : (powered lines s).power.state =
    if ignites lines s then ignitionState (accepted lines s) else s.power.state := by
  unfold powered
  split_ifs
  · exact setPower_state (s := accepted lines s) halive
  · rfl

include halive in
theorem ignitionState_accepted : ignitionState (accepted lines s) =
    if level (scanned lines s) 0 then .run else if level (scanned lines s) 1 then .acc else .awake := by
  rw [ignitionState, accepted_level halive, accepted_level halive]

/-! ### A change of the power state (R160) -/

/-- The power state that a scan left is another one: an ignition line accepted a level, and the choice gave it. -/
structure Changed (lines : BitVec 16) (s : State) : Prop where
  powered : powered lines s = setPower (accepted lines s)
  state   : (scanned lines s).power.state = ignitionState (accepted lines s)
  events  : events lines s ≠ []

include halive in
theorem changed_of_ne (h : (scanned lines s).power.state ≠ s.power.state) : Changed lines s := by
  rw [scanned_state, powered_state halive] at h
  split_ifs at h with hignites
  · refine ⟨if_pos hignites, ?_, events_of_ignites hignites⟩
    rw [scanned_state, powered_state halive, if_pos hignites]
  · exact absurd rfl h

include halive hpark in
/-- R164: where the power state changes no park entry is in progress after the choice. -/
theorem Changed.noPark (hchanged : Changed lines s) (h : (scanned lines s).power.state ≠ s.power.state) :
    (SwitchScans.powered lines s).power.park = none := by
  rw [hchanged.state] at h
  have hne : ignitionState (accepted lines s) ≠ (accepted lines s).power.state := h
  rw [hchanged.powered, setPower_power (s := accepted lines s) halive, if_neg hne]
  split_ifs with hawake hnew
  · rfl
  · exact hpark hawake
  · exact hpark hawake

include halive hpark in
/-- Where the power state changes, the gauges are as the choice left them. -/
theorem scanned_gauge (h : (scanned lines s).power.state ≠ s.power.state) :
    (scanned lines s).gauge = { (setPower (accepted lines s)).gauge with lamps := (scanned lines s).gauge.lamps } := by
  have hchanged := changed_of_ne halive h
  have hgauge := (scanned_activity halive hpark hchanged.events).2
  rw [activity_gauge (by rw [hchanged.noPark halive hpark h]; simp), hchanged.powered] at hgauge
  exact hgauge

include halive hpark in
/-- Where the power state changes, activity acts on the power controller in AWAKE only. -/
theorem scanned_power (h : (scanned lines s).power.state ≠ s.power.state) : (scanned lines s).power =
    if (scanned lines s).power.state = .awake then { (setPower (accepted lines s)).power with delay := some 983040 }
    else (setPower (accepted lines s)).power := by
  have hchanged := changed_of_ne halive h
  have hnone := hchanged.noPark halive hpark h
  have hstate : (powered lines s).power.state = (scanned lines s).power.state := scanned_state.symm
  rw [(scanned_activity halive hpark hchanged.events).1, activity_state, hstate]
  split_ifs with hawake
  · have hin : inAwake (powered lines s) = true := by
      rw [inAwake, powered_alive halive, hstate, hawake]
      rfl
    rw [activity_awake hin, hnone, if_neg (by simp), ← hchanged.powered, ← hnone]
  · have hout : inAwake (powered lines s) = false := by
      rw [inAwake, powered_alive halive, hstate]
      simpa using hawake
    rw [activity_asleep hout (by rw [hnone]; simp), hchanged.powered]

theorem scanned_link (l : Link) : LinkState.line ((scanned lines s).link l) = LinkState.line ((powered lines s).link l) := by
  rw [scanned, settle_link_line, link_congr (delivered_keeps _ _).port]

end

end Sys2Proof.Proofs.SwitchScans

/-! PROOFS. What a switch scan delivers when the power state changes, and the obligation (R26, R27, R104, R160, R176). -/

namespace Sys2Proof.Proofs.SwitchDeliveries

open Sys2Proof Sys2Proof.Machine Sys2Proof.Proofs.StepSafety Sys2Proof.Proofs.BlockSafety Sys2Proof.Proofs.Views
  Sys2Proof.Proofs.SecondEnds Sys2Proof.Proofs.Links Sys2Proof.Proofs.SwitchLines Sys2Proof.Proofs.PowerChanges
  Sys2Proof.Proofs.Parking Sys2Proof.Proofs.Aside Sys2Proof.Proofs.SwitchScans

/-! ### What the list keeps -/

/-- R116: the entries of W13 and W14 are not acknowledged. -/
def Reminded (s : State) : Prop := ∀ e ∈ s.warn.list, e.w = 13 ∨ e.w = 14 → e.ackFront = false ∧ e.ackRear = false

/-- An entry that is acknowledged where it should not be. -/
def Stale (e : Entry) : Prop := (e.w = 13 ∨ e.w = 14) ∧ ¬ (e.ackFront = false ∧ e.ackRear = false)

theorem reminded_iff (s : State) : Reminded s ↔ ¬ ∃ e ∈ s.warn.list, Stale e :=
  ⟨fun h ⟨e, he, hw, hstale⟩ => hstale (h e he hw), fun h e he hw => not_not.1 fun hstale => h ⟨e, he, hw, hstale⟩⟩

theorem Reminded.of_shown {s t : State} (h : Reminded s) (hshown : SameShown s t) : Reminded t := by
  rw [reminded_iff] at h ⊢
  rwa [exists_of_view (P := Stale) (fun _ => Iff.rfl) hshown]

theorem remind_reminded (s : State) : Reminded (remind s) := by
  intro e he hw
  obtain ⟨x, -, rfl⟩ := List.mem_map.1 he
  by_cases hx : x.w = 13 ∨ x.w = 14
  · rw [if_pos hx]
    exact ⟨rfl, rfl⟩
  · rw [if_neg hx] at hw
    exact absurd hw hx

theorem Reminded.delivered {s : State} (h : Reminded s) (is : List (Fin 16)) : Reminded (delivered is s) := by
  intro e he hw
  refine h e ((delivered_keeps is s).list e he ?_) hw
  rcases hw with hw | hw
  · rw [hw]
    decide
  · rw [hw]
    decide

section
variable {lines : BitVec 16} {s : State} (halive : alive s = true) (hpark : s.power.state ≠ .awake → s.power.park = none)
include halive

/-! ### Entering RUN -/

theorem run_of_changed (hnew : (scanned lines s).power.state = .run) (hold : s.power.state ≠ .run) :
    Changed lines s ∧ setPower (accepted lines s) = runEntry (decide (s.power.state = .acc)) (roused (accepted lines s)) := by
  have hchanged := changed_of_ne (lines := lines) halive (by rw [hnew]; exact hold.symm)
  exact ⟨hchanged, setPower_run (s := accepted lines s) hold (hchanged.state.symm.trans hnew)⟩

include hpark in
theorem run_entered (hnew : (scanned lines s).power.state = .run) (hold : s.power.state ≠ .run) :
    (scanned lines s).gauge.live = true ∧ (scanned lines s).gauge.bulbCheck = some 3000000
      ∧ (scanned lines s).meas.fastWindow = some 0 ∧ Reminded (scanned lines s) := by
  obtain ⟨hchanged, hrun⟩ := run_of_changed halive hnew hold
  have hgauge := scanned_gauge halive hpark (lines := lines) (by rw [hnew]; exact hold.symm)
  rw [hrun] at hgauge
  have hpowered := hchanged.powered.trans hrun
  refine ⟨by rw [hgauge]; rfl, by rw [hgauge]; rfl, by rw [scanned_meas, hpowered]; rfl, ?_⟩
  refine Reminded.of_shown (Reminded.delivered (s := powered lines s) ?_ (events lines s)) (settle_shown s _)
  rw [hpowered]
  exact remind_reminded _

include hpark in
theorem run_entered_gauges (hnew : (scanned lines s).power.state = .run) (hold : s.power.state ≠ .run) (g : Fin 6) :
    (scanned lines s).gauge.gauges[g] =
      if (s.gauge.live = false ∧ ((returned s s.gauge.gauges[g]).mode = .off ∨ (returned s s.gauge.gauges[g]).mode = .ret))
          ∨ (s.gauge.live = true ∧ s.power.state = .awake ∧ s.gauge.sweepOn = true
            ∧ (returned s s.gauge.gauges[g]).mode = .follow) then
        sweeping s.gauge.sweepOn (returned s s.gauge.gauges[g])
      else returned s s.gauge.gauges[g] := by
  obtain ⟨hchanged, hrun⟩ := run_of_changed halive hnew hold
  have hgauge := scanned_gauge halive hpark (lines := lines) (by rw [hnew]; exact hold.symm)
  have hgauges : (scanned lines s).gauge.gauges[g] = (setPower (accepted lines s)).gauge.gauges[g] := by rw [hgauge]
  have hback : (roused (accepted lines s)).gauge.gauges[g] = returned s s.gauge.gauges[g] :=
    roused_gauges (s := accepted lines s) hpark g
  obtain ⟨hlive, hsweep⟩ := roused_mode (s := accepted lines s)
  have hacc : decide (s.power.state = .acc) = false ↔ s.power.state = .awake := by
    have hparked := state_of_alive halive
    revert hold hparked
    rcases s.power.state with _ | _ | _ | _ <;> decide
  rw [hgauges, hrun, runEntry_gauges, hback, hlive, hsweep]
  exact if_congr (or_congr Iff.rfl (and_congr Iff.rfl (and_congr hacc Iff.rfl))) rfl rfl

/-! ### Leaving RUN -/

theorem leftRun_cases (hold : s.power.state = .run) (hnew : (scanned lines s).power.state ≠ .run) :
    setPower (accepted lines s) = leaveRun (chosen (accepted lines s))
      ∨ setPower (accepted lines s) = enterAwake (leaveRun (chosen (accepted lines s))) := by
  have hchanged := changed_of_ne (lines := lines) halive (by rw [hold]; exact hnew)
  rw [hchanged.state] at hnew
  rcases hstate : ignitionState (accepted lines s) with _ | _ | _ | _
  · exact absurd hstate hnew
  · exact .inl (setPower_acc_of_run (s := accepted lines s) hold hstate)
  · exact .inr (setPower_awake_of_run (s := accepted lines s) hold hstate)
  · exact absurd hstate (ignitionState_ne_parked _)

include hpark in
theorem run_left (hold : s.power.state = .run) (hnew : (scanned lines s).power.state ≠ .run) :
    (scanned lines s).meas.fastWindow = none ∧ ∀ g : Fin 6, (scanned lines s).gauge.gauges[g] =
      if s.gauge.gauges[g].mode = .sweep then { s.gauge.gauges[g] with mode := .follow } else s.gauge.gauges[g] := by
  have hne : (scanned lines s).power.state ≠ s.power.state := by rw [hold]; exact hnew
  have hgauge := scanned_gauge halive hpark (lines := lines) hne
  have hblocks : (setPower (accepted lines s)).gauge = (leaveRun (chosen (accepted lines s))).gauge
      ∧ (setPower (accepted lines s)).meas.fastWindow = none := by
    rcases leftRun_cases halive hold hnew with h | h
    · rw [h]
      exact ⟨rfl, rfl⟩
    · rw [h]
      exact ⟨rfl, rfl⟩
  refine ⟨by rw [scanned_meas, (changed_of_ne halive hne).powered, hblocks.2], fun g => ?_⟩
  rw [hgauge, hblocks.1]
  exact leaveRun_gauges (chosen (accepted lines s)) g

/-! ### Entering AWAKE -/

/-- R160: the state in which AWAKE is entered. -/
theorem awake_of_changed (hnew : (scanned lines s).power.state = .awake) (hold : s.power.state ≠ .awake) :
    ∃ u, powered lines s = enterAwake u ∧ u.power.limit = s.power.limit ∧ u.warn.list = s.warn.list := by
  have hchanged := changed_of_ne (lines := lines) halive (by rw [hnew]; exact hold.symm)
  have hstate := hchanged.state.symm.trans hnew
  rw [hchanged.powered]
  rcases hwas : s.power.state with _ | _ | _ | _
  · exact ⟨_, setPower_awake_of_run (s := accepted lines s) hwas hstate, rfl, rfl⟩
  · exact ⟨_, setPower_awake_of_acc (s := accepted lines s) hwas hstate, rfl, rfl⟩
  · exact absurd hwas hold
  · exact absurd hwas (state_of_alive halive)

omit halive in
theorem silence_of_line {l : Link} {x : LinkState} (h : LinkState.line ((scanned lines s).link l) = LinkState.line x) :
    ((scanned lines s).link l).silence = x.silence ∧ ((scanned lines s).link l).silent = x.silent :=
  ⟨congrArg (fun y => y.2.1) h, congrArg (fun y => y.2.2) h⟩

include hpark in
theorem awake_entered (hl : ListOrdered s.warn.list) (hnew : (scanned lines s).power.state = .awake)
    (hold : s.power.state ≠ .awake) :
    (scanned lines s).power.delay = some 983040 ∧ (scanned lines s).power.limit = some 39321600
      ∧ ¬ ActiveEntry 23 (scanned lines s) ∧ (scanned lines s).port.front.silent = false
      ∧ (scanned lines s).port.rear.silent = false := by
  have hne : (scanned lines s).power.state ≠ s.power.state := by rw [hnew]; exact hold.symm
  obtain ⟨u, hu, -, hlist⟩ := awake_of_changed halive hnew hold
  have hpower := scanned_power halive hpark hne
  rw [if_pos hnew, ← (changed_of_ne halive hne).powered, hu, enterAwake_power] at hpower
  have hfront := scanned_link (lines := lines) (s := s) .front
  have hrear := scanned_link (lines := lines) (s := s) .rear
  rw [hu] at hfront hrear
  refine ⟨by rw [hpower], by rw [hpower], ?_, (silence_of_line hfront).2, (silence_of_line hrear).2⟩
  rw [scanned, activeEntry_of_shown (settle_shown s _)]
  rintro ⟨e, he, hw, hc⟩
  have hreleased := (delivered_keeps (events lines s) (powered lines s)).list e he (by rw [hw]; decide)
  have hactive : ActiveEntry 23 (release 23 u) := ⟨e, by rw [hu] at hreleased; exact hreleased, hw, hc⟩
  rw [activeEntry_release 23 23 (by rw [hlist]; exact hl)] at hactive
  exact hactive.1 rfl

/-! ### Leaving AWAKE -/

theorem leftAwake_cases (hold : s.power.state = .awake) (hnew : (scanned lines s).power.state ≠ .awake) :
    (scanned lines s).power.state = .run
        ∧ setPower (accepted lines s) = runEntry false (leaveAwake (chosen (accepted lines s)))
      ∨ (scanned lines s).power.state = .acc ∧ setPower (accepted lines s) = leaveAwake (chosen (accepted lines s)) := by
  have hchanged := changed_of_ne (lines := lines) halive (by rw [hold]; exact hnew)
  rw [hchanged.state] at hnew ⊢
  rcases hstate : ignitionState (accepted lines s) with _ | _ | _ | _
  · have hwas : (accepted lines s).power.state = .awake := hold
    have hroused : roused (accepted lines s) = leaveAwake (chosen (accepted lines s)) := if_pos hold
    refine .inl ⟨rfl, (setPower_run (s := accepted lines s) (by rw [hwas]; decide) hstate).trans ?_⟩
    rw [hroused, hwas]
    rfl
  · exact .inr ⟨rfl, setPower_acc_of_awake (s := accepted lines s) hold hstate⟩
  · exact absurd hstate hnew
  · exact absurd hstate (ignitionState_ne_parked _)

include hpark in
theorem awake_left (hold : s.power.state = .awake) (hnew : (scanned lines s).power.state ≠ .awake) :
    (scanned lines s).power.delay = none ∧ (scanned lines s).power.limit = none ∧ (scanned lines s).power.park = none
      ∧ (scanned lines s).port.front.silence = 0 ∧ (scanned lines s).port.rear.silence = 0 := by
  have hne : (scanned lines s).power.state ≠ s.power.state := by rw [hold]; exact hnew
  have hpower := scanned_power halive hpark hne
  rw [if_neg hnew] at hpower
  have hfront := scanned_link (lines := lines) (s := s) .front
  have hrear := scanned_link (lines := lines) (s := s) .rear
  rw [(changed_of_ne halive hne).powered] at hfront hrear
  have hleft : (setPower (accepted lines s)).power = (leaveAwake (chosen (accepted lines s))).power
      ∧ (setPower (accepted lines s)).port = (leaveAwake (chosen (accepted lines s))).port := by
    rcases leftAwake_cases halive hold hnew with ⟨-, h⟩ | ⟨-, h⟩
    · rw [h]
      exact ⟨rfl, rfl⟩
    · rw [h]
      exact ⟨rfl, rfl⟩
  rw [hleft.1, leaveAwake_power] at hpower
  rw [link_congr hleft.2] at hfront hrear
  exact ⟨by rw [hpower], by rw [hpower], by rw [hpower], (silence_of_line hfront).1, (silence_of_line hrear).1⟩

include hpark in
theorem awake_left_atRest (hold : s.power.state = .awake) (hnew : (scanned lines s).power.state ≠ .awake)
    (hparked : s.power.park.isSome = true) : (scanned lines s).gauge.atRest = false := by
  have hne : (scanned lines s).power.state ≠ s.power.state := by rw [hold]; exact hnew
  have hrest := leaveAwake_atRest (s := chosen (accepted lines s)) hparked
  rw [scanned_gauge halive hpark hne]
  rcases leftAwake_cases halive hold hnew with ⟨-, h⟩ | ⟨-, h⟩
  · rw [h]
    exact hrest
  · rw [h]
    exact hrest

include hpark in
theorem acc_of_awake_gauges (hold : s.power.state = .awake) (hnew : (scanned lines s).power.state = .acc) (g : Fin 6) :
    (scanned lines s).gauge.gauges[g] = returned s s.gauge.gauges[g] := by
  have hne : (scanned lines s).power.state ≠ s.power.state := by rw [hold, hnew]; decide
  have hgauges : (scanned lines s).gauge.gauges[g] = (setPower (accepted lines s)).gauge.gauges[g] := by
    rw [scanned_gauge halive hpark hne]
  rcases leftAwake_cases halive hold (by rw [hnew]; decide) with ⟨hrun, -⟩ | ⟨-, h⟩
  · rw [hnew] at hrun
    cases hrun
  · rw [hgauges, h]
    exact leaveAwake_gauges (chosen (accepted lines s)) g

/-! ### An event in AWAKE (R161, R164) -/

/-- In AWAKE that goes on, the choice changes nothing. -/
theorem powered_of_awake (hold : s.power.state = .awake) (hnew : (scanned lines s).power.state = .awake) :
    powered lines s = accepted lines s := by
  by_cases hignites : ignites lines s = true
  · rw [scanned_state, powered_state halive, if_pos hignites] at hnew
    exact (if_pos hignites).trans (setPower_settled (s := accepted lines s) (hnew.trans hold.symm))
  · exact if_neg hignites

include hpark in
theorem awake_event (hold : s.power.state = .awake) (hnew : (scanned lines s).power.state = .awake) {i : Fin 16}
    (hi : lineAccepts s.meas lines i = true) :
    (scanned lines s).power = { s.power with
        delay := some 983040, park := if s.power.park = some .delay then none else s.power.park }
      ∧ (s.power.park = some .delay → ParkEntryEnded s (scanned lines s))
      ∧ (s.power.park ≠ some .delay →
        (scanned lines s).gauge = { s.gauge with lamps := (scanned lines s).gauge.lamps }) := by
  have hpowered := powered_of_awake halive hold hnew
  have hin : inAwake (accepted lines s) = true := by
    rw [inAwake, show alive (accepted lines s) = true from halive, show (accepted lines s).power.state = .awake from hold]
    rfl
  obtain ⟨hpower, hgauge⟩ := scanned_activity halive hpark (List.ne_nil_of_mem (mem_events.2 hi))
  rw [hpowered] at hpower hgauge
  have hactive := hpower.trans (activity_awake hin)
  refine ⟨hactive, fun hdelay => ?_, fun hdelay => ?_⟩
  · obtain ⟨-, hrest, hgauges⟩ := activity_ended (s := s) (t := accepted lines s) hin hdelay rfl
    refine ⟨by rw [hactive]; exact if_pos hdelay, by rw [hgauge]; exact hrest, fun g => ?_⟩
    rw [hgauge]
    exact hgauges g
  · rw [activity_gauge (s := accepted lines s) hdelay] at hgauge
    exact hgauge

/-! ### A scan that accepts no level -/

omit halive in
theorem scanned_nothing (h : ∀ j, lineAccepts s.meas lines j = false) (hdue : ParkNotDue s) :
    (scanned lines s).power = s.power ∧ (scanned lines s).gauge = { s.gauge with lamps := (scanned lines s).gauge.lamps }
      ∧ view .service (scanned lines s).warn.list = view .service s.warn.list
      ∧ (scanned lines s).meas.fastWindow = s.meas.fastWindow := by
  obtain ⟨hevents, hpowered⟩ := events_none h
  have hscan : scanned lines s = settle s (accepted lines s) := by
    rw [scanned, hevents, hpowered]
    rfl
  rw [hscan, settle_meas]
  exact ⟨settle_power_notDue s (accepted lines s) hdue, settle_gauge_notDue s (accepted lines s) hdue, settle_shown s _, rfl⟩

/-- R16: a line's candidate count after a scan. -/
theorem scanned_candidate (k : Fin 16) : (scanned lines s).meas.candidates[k] =
    if (lines.getLsbD k.val != s.meas.levels.getLsbD k.val) && !lineAccepts s.meas lines k then s.meas.candidates[k] + 1
    else 0 := by
  rw [scanned_meas, powered_meas halive]
  exact scanLines_candidate s.meas lines k

/-- R160: the power state after a scan. -/
theorem scanned_newState : (scanned lines s).power.state =
    if lineAccepts s.meas lines 0 || lineAccepts s.meas lines 1 then
      (if level (scanned lines s) 0 then .run else if level (scanned lines s) 1 then .acc else .awake)
    else s.power.state := by
  rw [scanned_state, powered_state halive, ignitionState_accepted halive]
  rfl

end

/-- Settles O12. -/
theorem switchScanDebounces : Obligations.SwitchScanDebounces := by
  intro s lines i halive hl hpark
  have hmeas : (scanned lines s).meas.channels = s.meas.channels ∧ (scanned lines s).meas.speed = s.meas.speed
      ∧ (scanned lines s).meas.road = s.meas.road := by
    rw [scanned_meas, powered_meas halive]
    exact ⟨rfl, rfl, rfl⟩
  have hkept := delivered_keeps (events lines s) (powered lines s)
  obtain ⟨-, hsettings, hunits, hservice, hclock, -, htimers, hpins⟩ := powered_others (lines := lines) (s := s)
  have hfold := scanned_fold (lines := lines) (s := s)
  refine ⟨scanned lines s, exec_switchScan halive, ⟨scanned_level halive i, scanned_candidate halive i⟩,
    ⟨scanned_newState halive, scanned_nothing, fun hnew hold => ?_,
      fun hold hnew => acc_of_awake_gauges halive hpark hold hnew,
      fun hold hnew => awake_left_atRest halive hpark hold hnew, run_left halive hpark,
      fun hnew hold => awake_entered halive hpark hl hnew hold, awake_left halive hpark,
      fun hold hnew hi => awake_event halive hpark hold hnew hi, scanned_raises, scanned_hold⟩,
    ?_, ?_, hmeas.1, hmeas.2.1, hmeas.2.2, by rw [hfold], by rw [hfold], scanned_records, ?_, ?_, ?_, ?_⟩
  · obtain ⟨hlive, hbulb, hwindow, hreminded⟩ := run_entered halive hpark hnew hold
    exact ⟨hlive, hbulb, hwindow, hreminded, run_entered_gauges halive hpark hnew hold⟩
  · rw [scanned, settle_pins, hkept.pins, hpins]
  · rw [scanned, settle_timers, hkept.timers, htimers]
  · rw [scanned, settle_settings, hkept.settings, hsettings]
  · rw [scanned, settle_units, hkept.units, hunits]
  · rw [scanned, settle_service, hkept.service, hservice]
  · rw [scanned, settle_clock, hkept.clock, hclock]

end Sys2Proof.Proofs.SwitchDeliveries
